-- ==== Sys2Proof/Word.lean ====
section
/-! DEFINITION. The plain word types of the 2C40 model: what the manual treats as bits (bytes, local
time, tag numbers, trailer IDs) and the model's own kind of timer. -/

namespace Sys2Proof

/-- A byte of the convoy channel or of the settings image. -/
abbrev Byte := BitVec 8

/-- A reading of the 16-bit millisecond counter "local time", which wraps from 65535 to 0. -/
abbrev Time := BitVec 16

/-- A road-tag number, 0..4095 (chapter 1.2). -/
abbrev TagNumber := BitVec 12

/-- A trailer identity, 0..65535 (R168). -/
abbrev TrailerId := BitVec 16

/-- A block's timer: `none` while it is stopped, `some n` while it runs with `n` whole
milliseconds left before it expires. -/
abbrev Timer := Option Nat

end Sys2Proof
end

