-- ==== Sys2Proof/Config.lean ====
section
/-! DEFINITION. What an installation fixes: the settings of the image with their defaults
(chapter 10, "The settings image"), the fixed capacities of the part, and the FREE VALUES of the
model, which have no body: nothing can be proved about the value they take. -/

namespace Sys2Proof

/-- Which of several stations a journal record names where the manual names one and several qualify
(assumption log 12). No body: every choice is possible. -/
opaque Config.freePick : Nat → Nat

/-- A choice the manual leaves open between two outcomes: whether a tag had taken an ASSIGN that a
reset abandoned (R171, assumption log 13), in which order two records posted by one step stand (R93,
assumption log 14), and whether a pop is left part-way (R174, R182, assumption log 35). No body: every
choice is possible. -/
opaque Config.freeFlag : Nat → Bool

/-- The settings in use (R183): one value for each setting of the image's rig block, governor block
and air block. The layout code and the station number are held by AIR, the section table and the tag
windows by POS, the filter list by AIR. -/
structure Settings where
  /-- tractor length, 150..1500 mm -/
  tractorLength : Nat
  /-- coupling gap, 0..100 mm -/
  couplingGap : Nat
  /-- overlength allowance, 0..1500 mm -/
  overlengthAllowance : Nat
  /-- mm per pulse, 8..255 sixteenths of a millimetre -/
  mmPerPulse : Nat
  /-- lost distance, 1000..8000 mm -/
  lostDistance : Nat
  /-- centre trim c, 1450..1550 µs -/
  centreTrim : Nat
  /-- deadband db, 10..60 µs -/
  deadband : Nat
  /-- vmax, 100..1023 mm/s -/
  vmax : Nat
  /-- reverse cap, 40..300 mm/s -/
  reverseCap : Nat
  /-- standstill gap g0, 50..400 mm -/
  standstillGap : Nat
  /-- headway h, 20..200 in units of 10 ms -/
  headway : Nat
  /-- a_up, 50..1000 mm/s² -/
  accelUp : Nat
  /-- a_dn, 50..1500 mm/s² -/
  accelDown : Nat
  /-- a_brake, 200..3000 mm/s² -/
  accelBrake : Nat
  /-- crawl cap, 40..200 mm/s -/
  crawlCap : Nat
  /-- esc_start, 0..200 µs -/
  escStart : Nat
  /-- esc_gain, 16..1023 -/
  escGain : Nat
  /-- beacon interval, 50..250 ms -/
  beaconInterval : Nat
  /-- contention width code, 0..3, giving W = 7, 15, 31, 63 -/
  contentionCode : Nat
  /-- peer lapse, 300..3000 ms -/
  peerLapse : Nat
  /-- join gap, 300..3000 mm -/
  joinGap : Nat
  /-- break gap, 500..6000 mm and at least join gap + 300 -/
  breakGap : Nat
  /-- approach distance, 600..4000 mm -/
  approachDistance : Nat
  /-- claim window, 100..1000 ms -/
  claimWindow : Nat
  /-- stop margin, 30..300 mm -/
  stopMargin : Nat
  /-- default filter action: true for REJECT, false for ADMIT -/
  defaultReject : Bool
  /-- journal watermark, 0..16, 0 meaning off -/
  watermark : Nat
  deriving DecidableEq, Repr

/-- The default settings, in use from every reset until a sound load completes (R183). -/
def Settings.defaults : Settings where
  tractorLength := 250
  couplingGap := 30
  overlengthAllowance := 600
  mmPerPulse := 48
  lostDistance := 3000
  centreTrim := 1500
  deadband := 25
  vmax := 600
  reverseCap := 120
  standstillGap := 150
  headway := 80
  accelUp := 300
  accelDown := 400
  accelBrake := 1200
  crawlCap := 80
  escStart := 40
  escGain := 128
  beaconInterval := 100
  contentionCode := 1
  peerLapse := 800
  joinGap := 1200
  breakGap := 3000
  approachDistance := 1500
  claimWindow := 250
  stopMargin := 80
  defaultReject := false
  watermark := 12

/-- The settings image is 421 bytes long (chapter 10). -/
def Config.imageBytes : Nat := 421

end Sys2Proof
end

