-- ==== Sys2Proof/Syntax.lean ====
section
/-! DEFINITION. The commands of the 2C40: one constructor of `Instr` for each row of
spec/opcode_table.json, in the table's order, with the operands each step of the manual carries. -/

namespace Sys2Proof

/-- The ten blocks of the node (00_scope, "Block diagram"). -/
inductive BlockId
  | pos | air | peer | cvy | clm | gov | drv | trl | node | svc
  deriving DecidableEq, Repr

/-- The four transmit slots (R41). -/
inductive SlotId
  | halt | release | claim | position
  deriving DecidableEq, Repr

/-- The two slots whose new content replaces the old (R44). -/
inductive SupersedingSlot
  | claim | halt
  deriving DecidableEq, Repr

/-- Who posts own-cause requests to CVY (R95). -/
inductive CauseSource
  | trl | clm
  deriving DecidableEq, Repr

/-- The fixed record of a trailer tag (R168). -/
structure TagRecord where
  /-- trailer ID, 0..65535 -/
  id : TrailerId
  /-- length from coupling point to rear, 100..1500 mm -/
  length : Nat
  /-- the trailer has a brake worked from the lamp command -/
  braked : Bool
  /-- the trailer carries lamps worked from the lamp command -/
  lamp : Bool
  deriving DecidableEq, Repr

/-- What an answer on the trailer line carries: the address it names and the fixed record
(R169; of a confirmation only the trailer ID is read). -/
structure TagAnswer where
  address : Nat
  record : TagRecord
  deriving DecidableEq, Repr

/-- How the answer window of a POLL or ASSIGN goes at the node's end of the trailer line (R169). -/
inductive Reception
  /-- the tag's answer, if a tag answers, arrives as it was sent -/
  | asSent
  /-- no answer begins within the window, whether or not a tag took the request -/
  | silence
  /-- an answer begins, and its check fails or it is cut short -/
  | spoiled
  /-- an answer with a good check arrives, and these are its contents -/
  | other (a : TagAnswer)
  deriving DecidableEq, Repr

/-- How a tag gains the line (R168). -/
inductive TagGain
  /-- a trailer with this fixed record is hitched behind the last -/
  | hitched (r : TagRecord)
  /-- the tag at this place of the line (0 is the front one) comes back from a brown-out -/
  | recovered (place : Nat)
  deriving DecidableEq, Repr

/-- The commands: one per row of spec/opcode_table.json. -/
inductive Instr
  /-- POWER_ON (R184) -/
  | powerOn
  /-- SUPPLY_BELOW_DIP_THRESHOLD (R184) -/
  | supplyBelowDipThreshold
  /-- SUPPLY_DIP (R184); `lineHeld`: the trailer line held up through the dip (chapter 9.9) -/
  | supplyDip (lineHeld : Bool)
  /-- SERVICE_RESTART (R184) -/
  | serviceRestart
  /-- LOAD_RETRY (R186) -/
  | loadRetry
  /-- STORE_NO_ACK (R186) -/
  | storeNoAck
  /-- STORE_BYTE_TIMEOUT (R186) -/
  | storeByteTimeout
  /-- STORE_READ_COMPLETE (R187) with the 421 bytes read from the EEPROM -/
  | storeReadComplete (image : List Byte)
  /-- LISTEN_TIMER (R191) -/
  | listenTimer
  /-- TAG_READ (R10): the reader delivers a tag number -/
  | tagRead (tag : TagNumber)
  /-- WHEEL_PULSE (R14) -/
  | wheelPulse
  /-- BIN_TIMER (R17) -/
  | binTimer
  /-- RECEIVE_BYTE (R28): a byte, with or without the start mark -/
  | receiveByte (start : Bool) (byte : Byte)
  /-- BYTE_GAP_TIMEOUT (R29) -/
  | byteGapTimeout
  /-- PEER_TAKES_POSITION (R62) -/
  | peerTakesPosition
  /-- PEER_SWEEP (R68) -/
  | peerSweep
  /-- CVY_TAKES_POSITION (R84) -/
  | cvyTakesPosition
  /-- CVY_TAKES_HALT (R93) -/
  | cvyTakesHalt
  /-- CVY_TAKES_RESUME (R93) -/
  | cvyTakesResume
  /-- CVY_SWEEP (R92) -/
  | cvySweep
  /-- CVY_FUNCTION_CHANGE (R81) -/
  | cvyFunctionChange
  /-- OWN_CAUSE_ADD (R95): CVY takes the oldest own-cause request of this poster, an add -/
  | ownCauseAdd (source : CauseSource)
  /-- OWN_CAUSE_REMOVE (R95): CVY takes the oldest own-cause request of this poster, a remove -/
  | ownCauseRemove (source : CauseSource)
  /-- ACKNOWLEDGE_GESTURE (R96) -/
  | acknowledgeGesture
  /-- CVY_HALT_NOTICE (R97) -/
  | cvyHaltNotice
  /-- CLM_TAKES_POSITION (R101) -/
  | clmTakesPosition
  /-- CLM_TAKES_CLAIM (R103) -/
  | clmTakesClaim
  /-- CLM_TAKES_RELEASE (R104) -/
  | clmTakesRelease
  /-- CLM_SWEEP (R106) -/
  | clmSweep
  /-- CLAIM_WINDOW (R113): the window of this section's entry expires -/
  | claimWindow (sec : Nat)
  /-- CLM_CLAIM_NOTICE (R126) -/
  | clmClaimNotice
  /-- CLM_RELEASE_NOTICE (R127) -/
  | clmReleaseNotice
  /-- ADD_REQUEST (R44): AIR takes the oldest request of the CLAIM or HALT slot, an add -/
  | addRequest (slot : SupersedingSlot)
  /-- RELEASE_ADD_REQUEST (R45) -/
  | releaseAddRequest
  /-- POSITION_ADD_REQUEST (R47) -/
  | positionAddRequest
  /-- CANCEL_REQUEST (R48): AIR takes the oldest request of this slot, a cancel -/
  | cancelRequest (slot : SlotId)
  /-- BEACON_TIMER (R55) -/
  | beaconTimer
  /-- BEACON_NOTICE (R55) -/
  | beaconNotice
  /-- CARRIER_APPEARS (R56) -/
  | carrierAppears
  /-- CARRIER_ABSENT (R56) -/
  | carrierAbsent
  /-- QUIET_TIMER (R56) -/
  | quietTimer
  /-- COUNTDOWN_TICK (R56) -/
  | countdownTick
  /-- DONE_SIGNAL (R50) -/
  | doneSignal
  /-- TRANSCEIVER_TIMEOUT (R51) -/
  | transceiverTimeout
  /-- GOVERNOR_UPDATE (R132) -/
  | governorUpdate
  /-- FRAME_TIMER (R163) -/
  | frameTimer
  /-- MOTOR_PULSE_END (R163) -/
  | motorPulseEnd
  /-- THROTTLE_PULSE (R155): a throttle pulse of this width in whole µs ends -/
  | throttlePulse (width : Nat)
  /-- SILENCE_TIMER (R156) -/
  | silenceTimer
  /-- FUNCTION_PULSE (R160): a function pulse of this width in whole µs ends -/
  | functionPulse (width : Nat)
  /-- FUNCTION_SILENCE_TIMER (R161) -/
  | functionSilenceTimer
  /-- NODE_FUNCTION_CHANGE (R193) -/
  | nodeFunctionChange
  /-- CYCLE_TIMER (R172) -/
  | cycleTimer
  /-- POLL (R173): the POLL of an assigned address ends -/
  | poll (r : Reception)
  /-- DISCOVERY (R176): the POLL to address 0 ends -/
  | discovery (r : Reception)
  /-- ASSIGN (R176): an ASSIGN ends -/
  | assign (r : Reception)
  /-- JOURNAL_POST (R197): SVC takes the oldest post of this block -/
  | journalPost (block : BlockId)
  /-- STATUS (R203) -/
  | status
  /-- PEERS (R203) -/
  | peers
  /-- CLAIMS (R203) -/
  | claims
  /-- ROSTER (R203) -/
  | roster
  /-- TRAILERS (R203) -/
  | trailers
  /-- JOURNAL (R203) -/
  | journal
  /-- COUNTERS (R203) -/
  | counters
  /-- ACK (R199) with the index it carries -/
  | ack (index : Nat)
  /-- CLEAR_COUNTERS (R204) -/
  | clearCounters
  /-- RESTART (R204) -/
  | restart
  /-- UNKNOWN (R202): a request of an unknown kind -/
  | unknown
  /-- BUSY (R202): the answer being sent has ended with a request waiting for its BUSY answer -/
  | busy
  /-- TAG_GAINS_LINE (R168) -/
  | tagGainsLine (gain : TagGain)
  /-- TAG_LOSES_LINE (R168): the coupling in front of this place of the line parts (0: the first
  trailer's) -/
  | tagLosesLine (place : Nat)
  /-- ANSWER_ENDED (R202) -/
  | answerEnded
  deriving DecidableEq, Repr

end Sys2Proof
end

