-- ==== Sys2Proof/WellFormed.lean ====
section
/-! DEFINITION. Which commands name an event of the hardware: the range of each operand. -/

namespace Sys2Proof

/-- A fixed record a trailer can be built with: its length lies in 100..1500 mm (R168). -/
def TagRecord.wellFormed (r : TagRecord) : Bool := decide (100 ≤ r.length ∧ r.length ≤ 1500)

/-- The ranges of the operands: an image is 421 bytes (R186), a section index is 0..31 (R1), a
journal index 0..15 (R199), a hitched trailer's record as built (R168). Every other operand's type
already holds exactly its range, or any value is an event (a pulse of any width, an answer with any
contents, any place of the line). -/
def Instr.wellFormed : Instr → Bool
  | .storeReadComplete image => image.length == Config.imageBytes
  | .claimWindow sec => decide (sec < 32)
  | .ack index => decide (index < 16)
  | .tagGainsLine (.hitched r) => r.wellFormed
  | _ => true

end Sys2Proof
end

