-- ==== Sys2Proof/Decode.lean ====
section
/-! DEFINITION. The commands spelled by the table's bits: no row of spec/opcode_table.json gives any
bits, so no word spells a command. -/

namespace Sys2Proof

/-- The command a word spells by the table's bits. The table gives no row any bits (its rows are
events and requests, not words), so the answer is none for every word. -/
def decodeTableWord (_nbits _w : Nat) : Option Instr := none

end Sys2Proof
end

