-- ==== Sys2Proof/Machine/State.lean ====
section
/-! DEFINITION. The state of the node, block by block, as plain data; the trailer line outside it;
the messages between the blocks; the reasons a step can stop; and the state after a POWER-ON. -/

namespace Sys2Proof.Machine

/-! ## Names shared by several blocks -/

/-- A rig's orientation relative to the section's own orientation (Terms). -/
inductive Facing
  | fwd | rev
  deriving DecidableEq, Repr

/-- The direction of a claim: AB for a rig facing FWD in the section, BA for REV (Terms). -/
inductive Dir
  | ab | ba
  deriving DecidableEq, Repr

/-- The governor's direction, the sense of the commanded speed (R130). -/
inductive Travel
  | forward | reverse
  deriving DecidableEq, Repr

/-- The node mode (R183). -/
inductive Mode
  | starting | unconfigured | listening | running | parked
  deriving DecidableEq, Repr

/-- The function position (R159). -/
inductive FnPosition
  | solo | convoy | park
  deriving DecidableEq, Repr

/-- The cause of a halt (R27, R93). -/
inductive HaltCause
  | trailerLoss | standoff | intrusion
  deriving DecidableEq, Repr

/-- Why the node last started (R183). -/
inductive ResetCause
  | powerOn | supply | service
  deriving DecidableEq, Repr

/-- The structural fault that stopped the last load (R187). -/
inductive FaultCause
  | store | sum | format | station | sec | singleCount | singleAdjacent
  deriving DecidableEq, Repr

/-- Why a node left its convoy (R83). -/
inductive LeaveCause
  | function | predLapsed | breakGap | cutIn | rankLimit | noFollower
  deriving DecidableEq, Repr

/-- Why a claim window ended in WAITING (R113). -/
inductive WaitCause
  | lock | key | courtesy
  deriving DecidableEq, Repr

/-- The node's part in a standoff, as journalled (R119 to R121). -/
inductive StandoffRole
  | loser | winner | intrusion
  deriving DecidableEq, Repr

/-- The cause codes of the crawl cap, in the order of R140. -/
inductive CrawlCause
  | position | beacon | overlength
  deriving DecidableEq, Repr

/-- Why a park was refused (R193). -/
inductive ParkCause
  | moving | failsafe | throttle | claim
  deriving DecidableEq, Repr

/-! ## POS -/

/-- Section kind (R1). -/
inductive SectionKind
  | road | single | yard | absent
  deriving DecidableEq, Repr

/-- A section entry (R1); a link of `none` is END. -/
structure SectionEntry where
  kind : SectionKind
  /-- 256..16383 mm -/
  length : Nat
  /-- mark spacing, 50..1000 mm -/
  spacing : Nat
  /-- speed cap, 40..1023 mm/s -/
  cap : Nat
  nextFwd : Option Nat
  nextRev : Option Nat
  deriving DecidableEq, Repr

/-- An entry not in use. Its length, spacing and cap carry no meaning; length 0 is what R91 counts. -/
def SectionEntry.absent : SectionEntry := ⟨.absent, 0, 0, 0, none, none⟩

/-- A tag window (R3). -/
structure TagWindow where
  enable : Bool
  base : TagNumber
  mask : TagNumber
  /-- 0..31 -/
  sectionBase : Nat
  /-- 0..6 -/
  markBits : Nat
  deriving DecidableEq, Repr

/-- A disabled window, as after every reset (R3). -/
def TagWindow.disabled : TagWindow := ⟨false, 0, 0, 0, 0⟩

/-- Validity of the position record (R16). -/
inductive Validity
  | none | valid | lost
  deriving DecidableEq, Repr

/-- The position record (R7). -/
structure Position where
  /-- 0..31 -/
  sec : Nat
  facing : Facing
  /-- distance from the section's start end, mm -/
  distance : Nat
  validity : Validity
  /-- travel since mark, 0..65535 mm -/
  travel : Nat
  lastTag : Option TagNumber
  /-- 0..15 sixteenths of a millimetre -/
  residue : Nat
  deriving DecidableEq, Repr

/-- The position record after every reset (R7). -/
def Position.reset : Position := ⟨0, .fwd, 0, .none, 0, none, 0⟩

/-- The position unit. -/
structure Pos where
  /-- the section table, 32 entries (R2) -/
  sections : List SectionEntry
  /-- the 6 tag windows (R3) -/
  windows : List TagWindow
  /-- the position record (R7) -/
  record : Position
  /-- the five pulse bins, 0..255 each, the current bin first and the oldest last (R17) -/
  bins : List Nat
  /-- measured speed, 0..1023 mm/s (R17) -/
  speed : Nat
  /-- still count, 0..25 (R18) -/
  still : Nat
  /-- bin timer, 20 ms (R17) -/
  binTimer : Timer
  deriving DecidableEq, Repr

/-- POS after every reset (chapter 1.9). -/
def Pos.reset : Pos where
  sections := List.replicate 32 SectionEntry.absent
  windows := List.replicate 6 TagWindow.disabled
  record := Position.reset
  bins := [0, 0, 0, 0, 0]
  speed := 0
  still := 0
  binTimer := some 20

/-! ## Telegrams -/

/-- The mode of a hold entry (R25). -/
inductive HoldMode
  | holding | riding | waiting | clearing
  deriving DecidableEq, Repr

/-- A hold entry of a POSITION (R25). -/
structure HoldEntry where
  /-- 0..31 -/
  sec : Nat
  dir : Dir
  mode : HoldMode
  deriving DecidableEq, Repr

/-- The fields of a POSITION beyond the header (R25). -/
structure Beacon where
  valid : Bool
  parked : Bool
  halted : Bool
  overlength : Bool
  reversing : Bool
  /-- convoy ID, 0..62 -/
  convoy : Nat
  /-- 0..8 -/
  rank : Nat
  /-- 0..62 -/
  pred : Nat
  /-- convoy size, 1..8 -/
  size : Nat
  /-- 0..31 -/
  sec : Nat
  facing : Facing
  /-- 0..16383 -/
  distance : Nat
  /-- measured speed, 0..1023 -/
  speed : Nat
  /-- rig length, 0..4095 -/
  length : Nat
  /-- 0..2 hold entries, in the order they stand in the telegram -/
  holds : List HoldEntry
  deriving DecidableEq, Repr

/-- What a telegram says beyond its header (R25 to R27). -/
inductive Matter
  | position (b : Beacon)
  | claim (sec : Nat) (dir : Dir) (waited : Bool) (size : Nat)
  | release (secs : List Nat)
  | halt (cause : HaltCause)
  | resume
  deriving DecidableEq, Repr

/-- A telegram: source station, destination number (the form is that of its kind, R24), matter. -/
structure Telegram where
  source : Nat
  number : Nat
  matter : Matter
  deriving DecidableEq, Repr

/-- An accepted telegram with its receive time (R28). -/
structure Received where
  telegram : Telegram
  time : Time
  deriving DecidableEq, Repr

/-! ## AIR -/

/-- Filter action, the decision of the filter list (R37); `accept` is the manual's ADMIT. -/
inductive FilterAction
  | accept | pin | reject | watch
  deriving DecidableEq, Repr

/-- Match type of a filter element (R37). -/
inductive MatchType
  | range | pair | masked
  deriving DecidableEq, Repr

/-- A filter element (R37). -/
structure FilterElement where
  enable : Bool
  matchType : MatchType
  /-- lo, a or mask -/
  first : BitVec 6
  /-- hi, b or value -/
  second : BitVec 6
  action : FilterAction
  deriving DecidableEq, Repr

/-- A disabled element, as after every reset (R37). -/
def FilterElement.disabled : FilterElement := ⟨false, .range, 0, 0, .accept⟩

/-- The receive assembler (R28). -/
inductive Assembler
  | idle
  /-- the expected body length, the bytes collected after the length byte in order of arrival, the
  check register, the receive time -/
  | collecting (expected : Nat) (bytes : List Byte) (check : Byte) (received : Time)
  deriving DecidableEq, Repr

/-- What a slot carries (R41). A POSITION is composed at hand-over and carries nothing before. -/
inductive Content
  | halt (cause : HaltCause)
  | resume
  | release (secs : List Nat)
  | claim (sec : Nat) (dir : Dir) (waited : Bool) (size : Nat)
  | position
  deriving DecidableEq, Repr

/-- The state of a slot (R41). -/
inductive SlotState
  | empty | pending | onAir
  deriving DecidableEq, Repr

/-- A request in an answered set: its number, and for the RELEASE slot the section it named (R46). -/
structure Numbered where
  number : Nat
  sec : Option Nat
  deriving DecidableEq, Repr

/-- A slot's reload (R41). -/
structure Reload where
  content : Content
  answered : List Numbered
  deriving DecidableEq, Repr

/-- A transmit slot (R41). The cancel mark is the list of the cancel requests it answers (R48); an
empty list is no mark. -/
structure Slot where
  state : SlotState
  content : Option Content
  answered : List Numbered
  mark : List Nat
  reload : Option Reload
  /-- the next request number, 0..255 (R42) -/
  counter : Nat
  deriving DecidableEq, Repr

/-- A slot after every reset (R41, R42). -/
def Slot.reset : Slot := ⟨.empty, none, [], [], none, 0⟩

/-- Channel access (chapter 3.7). -/
inductive Access
  | idle | sensing | counting | transmitting
  deriving DecidableEq, Repr

/-- The air port. -/
structure Air where
  /-- the receive assembler (R28) -/
  assembler : Assembler
  /-- byte-gap timer, 5 ms (R29) -/
  byteGap : Timer
  /-- dispatch queue of PEER, oldest first, with the filter decision (R35, R36) -/
  peerQueue : List (Received × FilterAction)
  /-- dispatch queue of CVY, oldest first (R36) -/
  cvyQueue : List Received
  /-- dispatch queue of CLM, oldest first (R36) -/
  clmQueue : List Received
  /-- the filter list, 8 elements (R37) -/
  filter : List FilterElement
  /-- own layout code, none until a sound load completes (R40) -/
  layoutCode : Option Nat
  /-- own station number 1..62, none until a sound load completes (R40) -/
  station : Option Nat
  /-- a STATION_CLASH record has been posted since the reset (R32) -/
  clashPosted : Bool
  haltSlot : Slot
  releaseSlot : Slot
  claimSlot : Slot
  positionSlot : Slot
  /-- channel access (R56) -/
  access : Access
  /-- the carrier line: true while the carrier is present (R56) -/
  carrier : Bool
  /-- quiet timer, 2 ms (R56) -/
  quiet : Timer
  /-- countdown timer, 1 ms (R56) -/
  countdown : Timer
  /-- the remaining count of the current attempt (R56) -/
  count : Nat
  /-- the count of this attempt has been drawn (R56) -/
  drawn : Bool
  /-- transceiver timeout, 20 ms (R49) -/
  transceiver : Timer
  /-- the bytes of the frame handed to the transceiver; empty when none is on the air (R49) -/
  frame : List Byte
  /-- the backoff generator; none while it is unseeded (R58) -/
  generator : Option (BitVec 16)
  /-- beacon timer (R55) -/
  beacon : Timer
  /-- last-beacon-sent time; none while no POSITION has been sent since reset (R59) -/
  lastBeacon : Option Time
  deriving DecidableEq, Repr

/-- AIR after every reset (R40, chapter 3.8), the carrier line reading absent (assumption log 3). -/
def Air.reset : Air where
  assembler := .idle
  byteGap := none
  peerQueue := []
  cvyQueue := []
  clmQueue := []
  filter := List.replicate 8 FilterElement.disabled
  layoutCode := none
  station := none
  clashPosted := false
  haltSlot := Slot.reset
  releaseSlot := Slot.reset
  claimSlot := Slot.reset
  positionSlot := Slot.reset
  access := .idle
  carrier := false
  quiet := none
  countdown := none
  count := 0
  drawn := false
  transceiver := none
  frame := []
  generator := none
  beacon := none
  lastBeacon := none

/-! ## PEER -/

/-- A peer entry in use (R60). -/
structure PeerEntry where
  /-- 1..62 -/
  station : Nat
  convoy : Nat
  rank : Nat
  pred : Nat
  sec : Nat
  facing : Facing
  distance : Nat
  speed : Nat
  length : Nat
  valid : Bool
  parked : Bool
  halted : Bool
  overlength : Bool
  reversing : Bool
  pinned : Bool
  received : Time
  deriving DecidableEq, Repr

/-- The peer table: 12 entries, free ones `none` (R60), and the sweep timer (R68). -/
structure PeerTable where
  entries : List (Option PeerEntry)
  sweep : Timer
  deriving DecidableEq, Repr

/-- PEER after every reset (chapter 4.10). -/
def PeerTable.reset : PeerTable := ⟨List.replicate 12 none, none⟩

/-! ## CVY -/

/-- Role (R78). -/
inductive Role
  | solo | leader | follower
  deriving DecidableEq, Repr

/-- A roster entry of another station (R88). -/
structure Member where
  station : Nat
  rank : Nat
  pred : Nat
  sec : Nat
  facing : Facing
  distance : Nat
  parked : Bool
  lastHeard : Time
  deriving DecidableEq, Repr

/-- The causes of the own halt entry (R93); the entry exists while one of them is present. -/
structure OwnCauses where
  trailerLoss : Bool
  standoff : Bool
  intrusion : Bool
  deriving DecidableEq, Repr

/-- The convoy unit. The roster's own entry is not stored: its rank and pred are the role record's
and its place is the position record's (R88), so it is computed where the roster is read. -/
structure Cvy where
  role : Role
  /-- convoy ID, 0..62 -/
  convoy : Nat
  /-- 0..8 -/
  rank : Nat
  /-- 0..62 -/
  pred : Nat
  retryUsed : Bool
  /-- the roster's entries other than the own one, in roster order (R91) -/
  members : List Member
  /-- the own entry of the halt set (R93) -/
  own : OwnCauses
  /-- the foreign entries of the halt set, source and cause, at most 7 (R93) -/
  foreign : List (Nat × HaltCause)
  /-- sweep timer, 100 ms (R78) -/
  sweep : Timer
  deriving DecidableEq, Repr

/-- CVY after every reset (R78). -/
def Cvy.reset : Cvy := ⟨.solo, 0, 0, 0, false, [], ⟨false, false, false⟩, [], none⟩

/-! ## CLM -/

/-- Own state of a claim entry (R99). -/
inductive ClaimState
  | none | claiming | holding | riding | waiting | standoff
  deriving DecidableEq, Repr

/-- A claim window, with its start and expiry local times (R112). -/
structure Window where
  start : Time
  expiry : Time
  deriving DecidableEq, Repr

/-- A holder record (R99); a record is HOLDING or RIDING. -/
structure Holder where
  station : Nat
  dir : Dir
  riding : Bool
  size : Nat
  inside : Bool
  lastHeard : Time
  deriving DecidableEq, Repr

/-- A claimant record (R99). -/
structure Claimant where
  station : Nat
  dir : Dir
  waited : Bool
  size : Nat
  received : Time
  deriving DecidableEq, Repr

/-- The own halt cause a claim entry has raised (R99). -/
inductive StandoffCause
  | standoff | intrusion
  deriving DecidableEq, Repr

/-- A claim-table entry (R99). `tailLimit` is "the rig length taken at the exit" of R123. -/
structure ClaimEntry where
  sec : Nat
  state : ClaimState
  dir : Dir
  waited : Bool
  /-- 1..8 -/
  size : Nat
  window : Option Window
  repostUsed : Bool
  /-- 0..4095 mm -/
  tail : Nat
  tailLimit : Nat
  cause : Option StandoffCause
  /-- standoff noted (R120) -/
  noted : Option Nat
  /-- up to 8 records -/
  holders : List Holder
  /-- last-hold-heard, direction AB -/
  heardAB : Option Time
  /-- last-hold-heard, direction BA -/
  heardBA : Option Time
  /-- up to 6 records -/
  claimants : List Claimant
  deriving DecidableEq, Repr

/-- A claim entry as the table is built (R99). -/
def ClaimEntry.built (sec : Nat) : ClaimEntry :=
  ⟨sec, .none, .ab, false, 1, none, false, 0, 0, none, none, [], none, none, []⟩

/-- A record of the claim-post list (R99). -/
structure ClaimPost where
  number : Nat
  sec : Nat
  cancelled : Bool
  deriving DecidableEq, Repr

/-- The claim unit. -/
structure Clm where
  /-- one entry per SINGLE section, in ascending order of section number (R99) -/
  entries : List ClaimEntry
  /-- the claim-post list, at most 2 records, oldest first (R99) -/
  posts : List ClaimPost
  /-- sweep timer, 100 ms (R106) -/
  sweep : Timer
  deriving DecidableEq, Repr

/-- CLM after every reset (chapter 6.14). -/
def Clm.reset : Clm := ⟨[], [], none⟩

/-! ## GOV -/

/-- The names of the governor's terms (R130). -/
inductive Term
  | driver | convoy | gap | sec | aheadCap | stop | crawl | halt
  deriving DecidableEq, Repr

/-- The governor (R130), its update timer (R131) and its three steps (R145). -/
structure Gov where
  /-- commanded speed, 0..1023 mm/s -/
  speed : Nat
  direction : Travel
  lastTarget : Nat
  limiting : Option Term
  lowered : Bool
  /-- crawl in force, as the last update left it -/
  crawl : Bool
  /-- motor width, 1000..2000 µs -/
  width : Nat
  timer : Timer
  stepUp : Nat
  stepDown : Nat
  stepBrake : Nat
  deriving DecidableEq, Repr

/-- GOV after every reset: the steps are those of the default settings (R130, R145). -/
def Gov.reset : Gov := ⟨0, .forward, 0, none, false, false, 1500, none, 6, 8, 24⟩

/-! ## DRV -/

/-- Why the present failsafe began (R154). -/
inductive FailsafeCause
  | reset | silence
  deriving DecidableEq, Repr

/-- Who times the motor pulses (R163). -/
inductive OutputState
  | neutral | governed
  deriving DecidableEq, Repr

/-- The pulse on the motor output: the width it began with, and how much of it is still to come at
the next whole millisecond (the model's own count, assumption log 5), both in µs. -/
structure MotorPulse where
  width : Nat
  left : Nat
  deriving DecidableEq, Repr

/-- The driver port. -/
structure Drv where
  /-- held throttle width, 900..2100 µs (R154) -/
  throttleWidth : Nat
  /-- failsafe active -/
  failsafe : Bool
  failsafeCause : FailsafeCause
  /-- valid run, 0..3 -/
  validRun : Nat
  /-- silence timer, 300 ms -/
  silence : Timer
  /-- function position (R159) -/
  position : FnPosition
  candidate : Option FnPosition
  candidateSince : Time
  /-- function silence timer, 300 ms -/
  fnSilence : Timer
  /-- output state (R163) -/
  output : OutputState
  /-- held width of the motor output -/
  heldWidth : Nat
  /-- the pulse on the output now; none while emitting is no -/
  emitting : Option MotorPulse
  /-- frame timer, 20 ms -/
  frameTimer : Timer
  /-- brake lamp (R166) -/
  brakeLamp : Bool
  /-- reverse lamp -/
  reverseLamp : Bool
  deriving DecidableEq, Repr

/-- DRV after every reset (chapter 8.6); candidate since has no meaning then (assumption log 2). -/
def Drv.reset : Drv where
  throttleWidth := 1500
  failsafe := true
  failsafeCause := .reset
  validRun := 0
  silence := none
  position := .solo
  candidate := none
  candidateSince := 0
  fnSilence := none
  output := .neutral
  heldWidth := 1500
  emitting := none
  frameTimer := some 20
  brakeLamp := true
  reverseLamp := false

/-! ## TRL and the trailer line -/

/-- The three states of a LAMP (R169). -/
structure Lamps where
  brake : Bool
  reverse : Bool
  hazard : Bool
  deriving DecidableEq, Repr

/-- Lamps dark and brake released. -/
def Lamps.dark : Lamps := ⟨false, false, false⟩

/-- A trailer record (R170); its address is its place in the chain, counted from 1. -/
structure TrailerRecord where
  record : TagRecord
  /-- 0..3 -/
  missed : Nat
  deriving DecidableEq, Repr

/-- The poll cycle under way (R170, R172). -/
inductive Cycle
  | idle
  /-- the POLL of this address is under way -/
  | polling (address : Nat)
  /-- the POLL to address 0 is under way -/
  | discovering
  /-- the ASSIGN of this address is under way, for the tag that answered discovery with this record;
  `rejoin`: the tag restarted on the line and its record stands in the chain (R177) -/
  | assigning (address : Nat) (record : TagRecord) (rejoin : Bool)
  /-- a pop from this lost address is part-way: the chain has lost its top records, the next removal is
  still to come (R174, R182). `still`: the rig was stationary when the pop began (R175); `id` stood at
  the lost address; `count` records go in all -/
  | popping (lost : Nat) (still : Bool) (id : TrailerId) (count : Nat)
  deriving DecidableEq, Repr

/-- The trailer port (R170). -/
structure Trl where
  /-- the chain, the record of address 1 first -/
  chain : List TrailerRecord
  overlength : Bool
  /-- silent count, 0..3 -/
  silent : Nat
  /-- last-sent lamps -/
  lastLamps : Option Lamps
  refresh : Bool
  /-- cycle timer -/
  timer : Timer
  cycle : Cycle
  deriving DecidableEq, Repr

/-- TRL after every reset (R170). -/
def Trl.reset : Trl := ⟨[], false, 0, none, false, none, .idle⟩

/-- A trailer tag on the line (R168): its fixed record, its address (none: UNASSIGNED) and the
states of the last LAMP it took. -/
structure Tag where
  record : TagRecord
  address : Option Nat
  lamps : Lamps
  deriving DecidableEq, Repr

/-- A tag that has just gained the line (R168). -/
def Tag.fresh (r : TagRecord) : Tag := ⟨r, none, Lamps.dark⟩

/-! ## NODE -/

/-- The store line during a load (R186). -/
inductive StoreLine
  /-- no read under way and none scheduled -/
  | idle
  /-- a sequential read is under way -/
  | reading
  /-- a read has failed and the next begins when the retry timer expires -/
  | retry
  deriving DecidableEq, Repr

/-- Node control (R183). -/
structure Node where
  mode : Mode
  resetCause : ResetCause
  /-- 0..255 -/
  resetCount : Nat
  faultCause : Option FaultCause
  faultDetail : Nat
  settings : Settings
  /-- load attempts, 0..3 -/
  loadAttempts : Nat
  store : StoreLine
  /-- the 10 ms before a failed read is begun again (R186) -/
  retryTimer : Timer
  /-- listen timer, 1000 ms (R191) -/
  listenTimer : Timer
  deriving DecidableEq, Repr

/-- NODE after a reset with this cause and count, before the load begins (R183). -/
def Node.reset (cause : ResetCause) (count : Nat) : Node where
  mode := .starting
  resetCause := cause
  resetCount := count
  faultCause := none
  faultDetail := 0
  settings := Settings.defaults
  loadAttempts := 0
  store := .idle
  retryTimer := none
  listenTimer := none

/-! ## SVC -/

/-- The journal record kinds (chapter 11, "Record kinds"). -/
inductive RecordKind
  | start | configFault | settingClamped | positionLost | stationClash | watchedPeer | airAbort
  | convoyJoined | convoyLeft | convoyLed | haltHeard | haltSetFull | claimHeld | claimWaited
  | claimYielded | standoff | crawlOn | failsafe | failsafeEnded | trailerCoupled | trailerDropped
  | trailerLoss | overlength | parkRefused | haltAcknowledged
  deriving DecidableEq, Repr

/-- A detail of a journal record. The manual gives names, not code numbers, to the details that are
causes, directions and the like, so the model keeps the names (assumption log 11). -/
inductive Detail
  | num (n : Nat)
  | reset (c : ResetCause)
  | fault (c : FaultCause)
  | slot (i : SlotId)
  | leave (c : LeaveCause)
  | halt (c : HaltCause)
  | dir (d : Dir)
  | wait (c : WaitCause)
  | role (r : StandoffRole)
  | crawl (c : CrawlCause)
  | mode (m : Mode)
  | park (c : ParkCause)
  | flag (b : Bool)
  deriving DecidableEq, Repr

/-- What a block posts: a kind and three details, 0 where the kind does not use one (R197). -/
structure Post where
  block : BlockId
  kind : RecordKind
  first : Detail
  second : Detail
  third : Detail
  deriving DecidableEq, Repr

/-- A record as the journal holds it (R197). -/
structure JournalRecord where
  kind : RecordKind
  time : Time
  first : Detail
  second : Detail
  third : Detail
  deriving DecidableEq, Repr

/-- The journal (R197): 16 places, of which the `fill` places from `get` onward are held. -/
structure Journal where
  places : List (Option JournalRecord)
  /-- put index, 0..15 -/
  putIndex : Nat
  /-- get index, 0..15 -/
  getIndex : Nat
  /-- 0..16 -/
  fill : Nat
  /-- lost count, 0..255 -/
  lost : Nat
  deriving DecidableEq, Repr

/-- The journal as a POWER-ON or a SUPPLY-DIP clears it (R197). -/
def Journal.cleared : Journal := ⟨List.replicate 16 none, 0, 0, 0, 0⟩

/-- The names of the counters (R201). -/
inductive CounterId
  | length | check | layout | kind | body | self | passed | accepted | filteredOut | overflow
  | sent | aborted | beaconMerged | peerDropped | unmapped | badMark | stale | holderOverflow
  | invalidPulses | lineErrors
  deriving DecidableEq, Repr

/-- The counters, each 0..65535 (R201). -/
structure Counters where
  length : Nat
  check : Nat
  layout : Nat
  kind : Nat
  body : Nat
  self : Nat
  passed : Nat
  accepted : Nat
  filteredOut : Nat
  overflow : Nat
  sent : Nat
  aborted : Nat
  beaconMerged : Nat
  peerDropped : Nat
  unmapped : Nat
  badMark : Nat
  stale : Nat
  holderOverflow : Nat
  invalidPulses : Nat
  lineErrors : Nat
  deriving DecidableEq, Repr

/-- All counters at 0 (R201). -/
def Counters.zero : Counters := ⟨0, 0, 0, 0, 0, 0, 0, 0, 0, 0, 0, 0, 0, 0, 0, 0, 0, 0, 0, 0⟩

/-- The content of a STATUS answer (R203). -/
structure StatusAnswer where
  mode : Mode
  resetCause : ResetCause
  resetCount : Nat
  faultCause : Option FaultCause
  faultDetail : Nat
  position : Position
  measuredSpeed : Nat
  commandedSpeed : Nat
  direction : Travel
  lastTarget : Nat
  limiting : Option Term
  crawl : Bool
  throttleWidth : Nat
  failsafe : Bool
  failsafeCause : FailsafeCause
  function : FnPosition
  role : Role
  convoy : Nat
  rank : Nat
  pred : Nat
  fill : Nat
  lost : Nat
  faultLamp : Bool
  deriving DecidableEq, Repr

/-- One entry of a PEERS answer (R77). -/
structure PeerLine where
  index : Nat
  entry : PeerEntry
  age : Nat
  fresh : Bool
  deriving DecidableEq, Repr

/-- One entry of a CLAIMS answer (R203): the entry, the ages of its holder and claimant records in
the order the entry lists them, and of each last-hold-heard. -/
structure ClaimLine where
  entry : ClaimEntry
  holderAges : List Nat
  claimantAges : List Nat
  ageAB : Option Nat
  ageBA : Option Nat
  deriving DecidableEq, Repr

/-- One roster entry of a ROSTER answer; the own entry has no last heard and so no age (R88). -/
structure RosterLine where
  station : Nat
  rank : Nat
  pred : Nat
  sec : Nat
  facing : Facing
  distance : Nat
  parked : Bool
  lastHeard : Option Time
  age : Option Nat
  deriving DecidableEq, Repr

/-- The content of a ROSTER answer (R203). -/
structure RosterAnswer where
  role : Role
  convoy : Nat
  rank : Nat
  pred : Nat
  retryUsed : Bool
  roster : List RosterLine
  size : Nat
  own : OwnCauses
  foreign : List (Nat × HaltCause)
  deriving DecidableEq, Repr

/-- One trailer of a TRAILERS answer (R182). -/
structure TrailerLine where
  address : Nat
  record : TrailerRecord
  deriving DecidableEq, Repr

/-- The content of a TRAILERS answer (R182). -/
structure TrailersAnswer where
  chain : List TrailerLine
  overlength : Bool
  silent : Nat
  lastLamps : Option Lamps
  deriving DecidableEq, Repr

/-- The content of a JOURNAL answer: the held records, oldest first, each with its place (R203). -/
structure JournalAnswer where
  fill : Nat
  lost : Nat
  getIndex : Nat
  putIndex : Nat
  records : List (Nat × Option JournalRecord)
  deriving DecidableEq, Repr

/-- An answer on the service line: a refusal code, or OK with its content (R202 to R204). -/
inductive Answer
  | status (a : StatusAnswer)
  | peers (a : List PeerLine)
  | claims (a : List ClaimLine)
  | roster (a : RosterAnswer)
  | trailers (a : TrailersAnswer)
  | journal (a : JournalAnswer)
  | counters (a : Counters)
  /-- OK to an ACK, with the new fill (R199) -/
  | acknowledged (fill : Nat)
  /-- OK to CLEAR_COUNTERS -/
  | cleared
  /-- OK to RESTART: the SERVICE RESTART follows when it has been sent whole (R204) -/
  | restarting
  | badIndex
  | moving
  | unknown
  | busy
  deriving DecidableEq, Repr

/-- The service unit. -/
structure Svc where
  journal : Journal
  counters : Counters
  /-- the answer being sent; none while the service line is free (R202) -/
  answer : Option Answer
  /-- requests that completed while an answer was being sent and wait for their BUSY answer (R202) -/
  waiting : Nat
  deriving DecidableEq, Repr

/-! ## Messages between the blocks -/

/-- A request to a transmit slot (R42). -/
inductive Request
  | add (c : Content)
  | cancel
  deriving DecidableEq, Repr

/-- The four outcomes (R42). -/
inductive SlotOutcome
  | sent | cancelled | sentDespiteCancel | aborted
  deriving DecidableEq, Repr

/-- An outcome notice (R42): outcome, request numbers, and what it reports on: for the RELEASE slot
the manual's section names, for the HALT slot the content that CVY posted (assumption log 7). -/
structure Notice where
  outcome : SlotOutcome
  numbers : List Nat
  content : Option Content
  deriving DecidableEq, Repr

/-- An own-cause request (R95). -/
structure CauseRequest where
  add : Bool
  cause : HaltCause
  deriving DecidableEq, Repr

/-- A change of the function position (R162). -/
structure FnChange where
  old : FnPosition
  new : FnPosition
  deriving DecidableEq, Repr

/-- What one block has sent another and that other has not yet taken, oldest first in each list
(assumption log 6). -/
structure Mail where
  /-- journal posts to SVC (R197) -/
  posts : List Post
  /-- requests of CVY to the HALT slot (R42) -/
  haltRequests : List Request
  /-- requests of CLM to the RELEASE slot -/
  releaseRequests : List Request
  /-- requests of CLM to the CLAIM slot -/
  claimRequests : List Request
  /-- requests of the beacon timer to the POSITION slot -/
  positionRequests : List Request
  /-- notices of the HALT slot to CVY (R42) -/
  haltNotices : List Notice
  /-- notices of the RELEASE slot to CLM -/
  releaseNotices : List Notice
  /-- notices of the CLAIM slot to CLM -/
  claimNotices : List Notice
  /-- notices of the POSITION slot to the beacon timer -/
  positionNotices : List Notice
  /-- own-cause requests of TRL to CVY (R95) -/
  trlCauses : List CauseRequest
  /-- own-cause requests of CLM to CVY (R95) -/
  clmCauses : List CauseRequest
  /-- function changes to CVY (R162) -/
  cvyChanges : List FnChange
  /-- function changes to NODE (R162) -/
  nodeChanges : List FnChange
  /-- acknowledge gestures to CVY (R96) -/
  gestures : Nat
  deriving DecidableEq, Repr

/-- No message under way. -/
def Mail.empty : Mail := ⟨[], [], [], [], [], [], [], [], [], [], [], [], [], 0⟩

/-! ## The machine -/

/-- No step of the node faults: the manual describes no event that stops it. There is no reason. -/
inductive Fault
  deriving DecidableEq, Repr

/-- Why a command is refused. -/
inductive Refusal
  /-- Raised by an arm of `exec` whose row has no meaning yet; safe (the model stops). No arm does. -/
  | notModelled (mnemonic : String)
  /-- Raised by the meaning of STORE_READ_COMPLETE and of TAG_GAINS_LINE on a command that is not
  well formed (an image that is not 421 bytes, a trailer that cannot have been built): it names no
  event of the hardware. Safe (the model stops). -/
  | illFormed (mnemonic : String)
  deriving DecidableEq, Repr

/-- The state of the machine. -/
structure State where
  /-- the commands waiting, first in, first out (the model's own) -/
  pending : List Instr
  /-- the supply is below the dip threshold and the node is held in reset (R184) -/
  held : Bool
  /-- local time (Conventions, "Time and ages") -/
  time : Time
  pos : Pos
  air : Air
  peer : PeerTable
  cvy : Cvy
  clm : Clm
  gov : Gov
  drv : Drv
  trl : Trl
  /-- the tags on the trailer line, front first (R168) -/
  line : List Tag
  node : Node
  svc : Svc
  /-- messages between the blocks (the model's own, assumption log 6) -/
  mail : Mail
  /-- how many free values have been drawn (the model's own, assumption log 12) -/
  draws : Nat
  deriving DecidableEq, Repr

/-- The START record of a POWER-ON (R185). -/
def JournalRecord.startPowerOn : JournalRecord :=
  ⟨.start, 0, .reset .powerOn, .num 0, .num 0⟩

/-- The machine right after a POWER-ON: every field at its reset value, the START record in place 0
of the cleared journal (R185) and the first read of the settings load begun (R186). -/
def State.reset : State where
  pending := []
  held := false
  time := 0
  pos := Pos.reset
  air := Air.reset
  peer := PeerTable.reset
  cvy := Cvy.reset
  clm := Clm.reset
  gov := Gov.reset
  drv := Drv.reset
  trl := Trl.reset
  line := []
  node :=
    ⟨.starting, .powerOn, 0, none, 0, Settings.defaults, 1, .reading, none, none⟩
  svc := ⟨⟨some JournalRecord.startPowerOn :: List.replicate 15 none, 1, 0, 1, 0⟩, Counters.zero, none, 0⟩
  mail := Mail.empty
  draws := 0

/-! ## Replacing one block's state -/

def State.setPending (s : State) (x : List Instr) : State := { s with pending := x }
def State.setTime (s : State) (x : Time) : State := { s with time := x }
def State.setPos (s : State) (x : Pos) : State := { s with pos := x }
def State.setAir (s : State) (x : Air) : State := { s with air := x }
def State.setPeer (s : State) (x : PeerTable) : State := { s with peer := x }
def State.setCvy (s : State) (x : Cvy) : State := { s with cvy := x }
def State.setClm (s : State) (x : Clm) : State := { s with clm := x }
def State.setGov (s : State) (x : Gov) : State := { s with gov := x }
def State.setDrv (s : State) (x : Drv) : State := { s with drv := x }
def State.setTrl (s : State) (x : Trl) : State := { s with trl := x }
def State.setLine (s : State) (x : List Tag) : State := { s with line := x }
def State.setNode (s : State) (x : Node) : State := { s with node := x }
def State.setSvc (s : State) (x : Svc) : State := { s with svc := x }
def State.setMail (s : State) (x : Mail) : State := { s with mail := x }
def State.setDraws (s : State) (x : Nat) : State := { s with draws := x }

end Sys2Proof.Machine
end

