-- ==== Sys2Proof/Machine/Ops.lean ====
section
/-! DEFINITION. The shared operations: time and ages, bounded arithmetic, messages from one block to
another, the journal, and the guard that a node held in reset takes no event. -/

namespace Sys2Proof.Machine

/-- The outcome of one command. -/
abbrev StepResult := Host.Outcome State Fault Refusal

/-! ## Time and ages -/

/-- Age: local time now minus a recorded local time, modulo 65536 (Conventions). -/
def age (now recorded : Time) : Nat := (now - recorded).toNat

/-- Fresh: an age of at most the lapse time and not above 32767 (Terms; R61, R88, R107). -/
def isFresh (now recorded : Time) (lapse : Nat) : Bool :=
  decide (age now recorded ≤ lapse ∧ age now recorded ≤ 32767)

/-- The lapse time of what a POSITION told: 3000 ms when its PARKED flag is set, the peer lapse
setting otherwise (R61, R84, R88). -/
def lapseTime (s : State) (parked : Bool) : Nat :=
  if parked then 3000 else s.node.settings.peerLapse

/-! ## Bounded arithmetic -/

/-- "Clamped to a..b" (Conventions). -/
def clampTo (lo hi n : Nat) : Nat := max lo (min hi n)

/-- The integer square root, built one bit at a time from bit `k - 1` down. -/
def isqrtBits : Nat → Nat → Nat → Nat
  | 0, root, _ => root
  | k + 1, root, n =>
    if (root + 2 ^ k) * (root + 2 ^ k) ≤ n then isqrtBits k (root + 2 ^ k) n else isqrtBits k root n

/-- isqrt of R138: the largest integer whose square is at most n, for every n below 2^32 (the
manual's arguments stay within 32 bits, R151). -/
def isqrt (n : Nat) : Nat := isqrtBits 16 0 n

/-! ## Lists as queues -/

/-- Take the oldest element that a test picks, leaving the others in their order. -/
def takeOldest {α : Type} (p : α → Bool) : List α → Option (α × List α)
  | [] => none
  | x :: xs =>
    if p x then some (x, xs)
    else match takeOldest p xs with
      | none => none
      | some (y, ys) => some (y, x :: ys)

/-! ## The guard of a reset -/

/-- While the supply is below the dip threshold no block takes any event (R184). -/
def whileUp (s : State) (f : State → State) : StepResult :=
  if s.held then .next s else .next (f s)

/-- The modes in which the node takes frames, requests and tag reads (R6, R28, R43). -/
def onLayout (s : State) : Bool :=
  match s.node.mode with
  | .listening | .running | .parked => true
  | .starting | .unconfigured => false

/-! ## Identity -/

/-- The own station number; 0, "none", before a sound load (R40). -/
def ownStation (s : State) : Nat := s.air.station.getD 0

/-! ## Journal posts -/

/-- A block posts a journal record (R197); SVC takes it by JOURNAL_POST. -/
def post (block : BlockId) (kind : RecordKind) (first second third : Detail) (s : State) : State :=
  s.setMail { s.mail with posts := s.mail.posts ++ [⟨block, kind, first, second, third⟩] }

/-- The detail of a kind that does not use it (R197). -/
def noDetail : Detail := .num 0

/-- SVC takes a record: it goes to the put index, or is lost when fill is 16 (R197, R198). -/
def Journal.take (j : Journal) (r : JournalRecord) : Journal :=
  if j.fill < 16 then
    { j with
      places := j.places.set j.putIndex (some r)
      putIndex := (j.putIndex + 1) % 16
      fill := j.fill + 1 }
  else { j with lost := min 255 (j.lost + 1) }

/-! ## Requests and notices of the transmit slots -/

/-- The requests waiting for a slot, oldest first. -/
def requestsOf (m : Mail) : SlotId → List Request
  | .halt => m.haltRequests
  | .release => m.releaseRequests
  | .claim => m.claimRequests
  | .position => m.positionRequests

/-- Replace the requests waiting for a slot. -/
def Mail.setRequests (m : Mail) (id : SlotId) (rs : List Request) : Mail :=
  match id with
  | .halt => { m with haltRequests := rs }
  | .release => { m with releaseRequests := rs }
  | .claim => { m with claimRequests := rs }
  | .position => { m with positionRequests := rs }

/-- A requester posts a request to its slot (R42). -/
def postRequest (id : SlotId) (r : Request) (s : State) : State :=
  s.setMail (s.mail.setRequests id (requestsOf s.mail id ++ [r]))

/-- The notices of a slot that its requester has not taken, oldest first. -/
def noticesOf (m : Mail) : SlotId → List Notice
  | .halt => m.haltNotices
  | .release => m.releaseNotices
  | .claim => m.claimNotices
  | .position => m.positionNotices

/-- Replace the notices of a slot. -/
def Mail.setNotices (m : Mail) (id : SlotId) (ns : List Notice) : Mail :=
  match id with
  | .halt => { m with haltNotices := ns }
  | .release => { m with releaseNotices := ns }
  | .claim => { m with claimNotices := ns }
  | .position => { m with positionNotices := ns }

/-- AIR raises a notice to the requester of a slot (R42). -/
def notify (id : SlotId) (n : Notice) (s : State) : State :=
  s.setMail (s.mail.setNotices id (noticesOf s.mail id ++ [n]))

/-- CLM or CVY posts a RELEASE for a section (R45). -/
def postRelease (sec : Nat) (s : State) : State :=
  postRequest .release (.add (.release [sec])) s

/-! ## Own-cause requests -/

/-- The own-cause requests of a poster, oldest first (R95). -/
def causesOf (m : Mail) : CauseSource → List CauseRequest
  | .trl => m.trlCauses
  | .clm => m.clmCauses

/-- Replace the own-cause requests of a poster. -/
def Mail.setCauses (m : Mail) (src : CauseSource) (rs : List CauseRequest) : Mail :=
  match src with
  | .trl => { m with trlCauses := rs }
  | .clm => { m with clmCauses := rs }

/-- TRL or CLM posts an own-cause request to CVY (R95). -/
def postCause (src : CauseSource) (add : Bool) (cause : HaltCause) (s : State) : State :=
  s.setMail (s.mail.setCauses src (causesOf s.mail src ++ [⟨add, cause⟩]))

/-! ## Timers -/

/-- A timer expires only while it runs; a stopped timer's expiry does not arise (assumption log 4). -/
def runs (t : Timer) : Bool := t.isSome

end Sys2Proof.Machine
end

