-- ==== Sys2Proof/Machine/Flags.lean ====
section
/-! DEFINITION. The flags and counts that several blocks set and read: the counters of SVC, the causes
of the own halt entry, and the emptiness of the halt set. -/

namespace Sys2Proof.Machine

/-! ## Counters -/

/-- One more, saturating at 65535 (R201). -/
def countUp (n : Nat) : Nat := min 65535 (n + 1)

/-- Read a counter. -/
def Counters.read (c : Counters) : CounterId → Nat
  | .length => c.length
  | .check => c.check
  | .layout => c.layout
  | .kind => c.kind
  | .body => c.body
  | .self => c.self
  | .passed => c.passed
  | .accepted => c.accepted
  | .filteredOut => c.filteredOut
  | .overflow => c.overflow
  | .sent => c.sent
  | .aborted => c.aborted
  | .beaconMerged => c.beaconMerged
  | .peerDropped => c.peerDropped
  | .unmapped => c.unmapped
  | .badMark => c.badMark
  | .stale => c.stale
  | .holderOverflow => c.holderOverflow
  | .invalidPulses => c.invalidPulses
  | .lineErrors => c.lineErrors

/-- Raise a counter by one (R201). -/
def Counters.raise (c : Counters) : CounterId → Counters
  | .length => { c with length := countUp c.length }
  | .check => { c with check := countUp c.check }
  | .layout => { c with layout := countUp c.layout }
  | .kind => { c with kind := countUp c.kind }
  | .body => { c with body := countUp c.body }
  | .self => { c with self := countUp c.self }
  | .passed => { c with passed := countUp c.passed }
  | .accepted => { c with accepted := countUp c.accepted }
  | .filteredOut => { c with filteredOut := countUp c.filteredOut }
  | .overflow => { c with overflow := countUp c.overflow }
  | .sent => { c with sent := countUp c.sent }
  | .aborted => { c with aborted := countUp c.aborted }
  | .beaconMerged => { c with beaconMerged := countUp c.beaconMerged }
  | .peerDropped => { c with peerDropped := countUp c.peerDropped }
  | .unmapped => { c with unmapped := countUp c.unmapped }
  | .badMark => { c with badMark := countUp c.badMark }
  | .stale => { c with stale := countUp c.stale }
  | .holderOverflow => { c with holderOverflow := countUp c.holderOverflow }
  | .invalidPulses => { c with invalidPulses := countUp c.invalidPulses }
  | .lineErrors => { c with lineErrors := countUp c.lineErrors }

/-- Raise one of SVC's counters by one. -/
def raise (id : CounterId) (s : State) : State :=
  s.setSvc { s.svc with counters := s.svc.counters.raise id }

/-! ## Own causes -/

/-- The own entry stands while it holds a cause (R93). -/
def OwnCauses.any (o : OwnCauses) : Bool := o.trailerLoss || o.standoff || o.intrusion

/-- Whether a cause is present in the own entry. -/
def OwnCauses.has (o : OwnCauses) : HaltCause → Bool
  | .trailerLoss => o.trailerLoss
  | .standoff => o.standoff
  | .intrusion => o.intrusion

/-- The own entry with a cause put in or taken out. -/
def OwnCauses.set (o : OwnCauses) (c : HaltCause) (b : Bool) : OwnCauses :=
  match c with
  | .trailerLoss => { o with trailerLoss := b }
  | .standoff => { o with standoff := b }
  | .intrusion => { o with intrusion := b }

/-- The first present own cause in the order TRAILER_LOSS, STANDOFF, INTRUSION (R95). -/
def OwnCauses.first (o : OwnCauses) : Option HaltCause :=
  if o.trailerLoss then some .trailerLoss
  else if o.standoff then some .standoff
  else if o.intrusion then some .intrusion
  else none

/-- The own entry with no cause. -/
def OwnCauses.empty : OwnCauses := ⟨false, false, false⟩

/-- The halt set is empty (R93). -/
def haltSetEmpty (c : Cvy) : Bool := !c.own.any && c.foreign.isEmpty

end Sys2Proof.Machine
end

