-- ==== Sys2Proof/Machine/Road.lean ====
section
/-! DEFINITION. Chapter 1 without its commands: tag translation and acceptance, facing, the odometer,
measured speed and the look-ahead chain. -/

namespace Sys2Proof.Machine

/-- The entry of the section table at an index; an index beyond the table reads as ABSENT. -/
def sectionAt (sections : List SectionEntry) (i : Nat) : SectionEntry :=
  sections.getD i SectionEntry.absent

/-- A section of kind SINGLE in the own section table. -/
def isSingle (sections : List SectionEntry) (i : Nat) : Bool :=
  (sectionAt sections i).kind == .single

/-! ## Tag translation -/

/-- A window matches a tag when it is enabled and the tag shows the base in the masked bits (R4). -/
def TagWindow.isMatch (w : TagWindow) (t : TagNumber) : Bool :=
  w.enable && (t &&& w.mask == w.base &&& w.mask)

/-- The outcome of a translation (R4, R5). -/
inductive Translation
  | place (sec : Nat) (distance : Nat)
  | unmapped
  | badMark
  deriving DecidableEq, Repr

/-- The section and mark a window gives a tag it matches (R4). -/
def TagWindow.locate (w : TagWindow) (t : TagNumber) : Nat × Nat :=
  let offset := (t &&& ~~~w.mask).toNat
  (w.sectionBase + offset / 2 ^ w.markBits, offset % 2 ^ w.markBits)

/-- Translate a tag: the first enabled window that matches decides (R4), and the conditions of R5
are tested in order. -/
def translateTag (windows : List TagWindow) (sections : List SectionEntry) (t : TagNumber) : Translation :=
  match windows.find? (·.isMatch t) with
  | none => .unmapped
  | some w =>
    let sec := (w.locate t).1
    let e := sectionAt sections sec
    let distance := (w.locate t).2 * e.spacing
    if sec > 31 then .unmapped
    else if e.kind = .absent then .unmapped
    else if distance > e.length then .badMark
    else .place sec distance

/-! ## Acceptance -/

/-- The opposite facing. -/
def Facing.flip : Facing → Facing
  | .fwd => .rev
  | .rev => .fwd

/-- Distances rise in the sense of travel: FWD driving forward, or REV driving in reverse (R9, R14). -/
def rising (f : Facing) (d : Travel) : Bool :=
  match f, d with
  | .fwd, .forward => true
  | .fwd, .reverse => false
  | .rev, .forward => false
  | .rev, .reverse => true

/-- A tag is a repeat of the last accepted one while travel since mark is under 500 mm (R8). -/
def isRepeat (p : Position) (t : TagNumber) : Bool :=
  p.lastTag == some t && decide (p.travel < 500)

/-- The stale test (R9). -/
def isStale (p : Position) (d : Travel) (sec distance : Nat) : Bool :=
  p.validity == .valid && p.sec == sec &&
    (if rising p.facing d then decide (distance + 100 < p.distance)
     else decide (distance > p.distance + 100))

/-- Case 3 of the facing rule: by the place of the mark (R12). -/
def facingByMark (e : SectionEntry) (distance : Nat) : Facing :=
  if 2 * distance < e.length then .fwd else .rev

/-- The facing in the new section t of an accepted tag (R12, R13). -/
def facingOnEntry (sections : List SectionEntry) (p : Position) (d : Travel) (t distance : Nat) : Facing :=
  let e := sectionAt sections t
  let f :=
    if p.validity = .none then facingByMark e distance
    else if e.nextRev = some p.sec then .fwd
    else if e.nextFwd = some p.sec then .rev
    else facingByMark e distance
  match d with
  | .forward => f
  | .reverse => f.flip

/-- The position record after a tag is accepted (R10). While validity is NONE the record's section
has no meaning, so the facing is decided by R13 whatever section the tag names. -/
def acceptTag (sections : List SectionEntry) (p : Position) (d : Travel) (t : TagNumber)
    (sec distance : Nat) : Position where
  sec := sec
  facing := if p.validity ≠ .none ∧ p.sec = sec then p.facing else facingOnEntry sections p d sec distance
  distance := distance
  validity := .valid
  travel := 0
  lastTag := some t
  residue := 0

/-! ## Odometer -/

/-- The whole millimetres one pulse moves (R14). -/
def pulseMove (p : Position) (mmPerPulse : Nat) : Nat := (p.residue + mmPerPulse) / 16

/-- The position record after a wheel pulse taken in VALID or LOST, before the lost test (R14, R15). -/
def odometerMove (sections : List SectionEntry) (p : Position) (d : Travel) (mmPerPulse : Nat) : Position :=
  let mm := pulseMove p mmPerPulse
  { p with
    residue := (p.residue + mmPerPulse) % 16
    distance :=
      min (sectionAt sections p.sec).length
        (if rising p.facing d then p.distance + mm else p.distance - mm)
    travel := min 65535 (p.travel + mm) }

/-- Travel since mark exceeds the lost distance while VALID (R16). -/
def becomesLost (p : Position) (lostDistance : Nat) : Bool :=
  p.validity == .valid && decide (p.travel > lostDistance)

/-! ## Measured speed -/

/-- One more pulse in the current bin, saturating at 255 (R17). -/
def countPulse : List Nat → List Nat
  | [] => []
  | b :: bs => min 255 (b + 1) :: bs

/-- Measured speed from the sum of the five bins (R17). -/
def speedOfBins (bins : List Nat) (mmPerPulse : Nat) : Nat :=
  min 1023 (bins.sum * mmPerPulse * 10 / 16)

/-- Clear the oldest bin and make it the current bin (R17). -/
def rotateBins (bins : List Nat) : List Nat := 0 :: bins.dropLast

/-! ## The look-ahead chain -/

/-- An element of the look-ahead chain (R19). -/
structure ChainElement where
  sec : Nat
  kind : SectionKind
  length : Nat
  cap : Nat
  /-- entry facing -/
  facing : Facing
  /-- entry offset -/
  offset : Nat
  span : Nat
  deriving DecidableEq, Repr

/-- The entry facing of a further element u entered from t (R20). -/
def entryFacing (sections : List SectionEntry) (t u : Nat) : Facing :=
  let e := sectionAt sections u
  if e.nextRev = some t then .fwd
  else if e.nextFwd = some t then .rev
  else .fwd

/-- The link of a section followed in a facing sense (R19). -/
def linkFrom (e : SectionEntry) : Facing → Option Nat
  | .fwd => e.nextFwd
  | .rev => e.nextRev

/-- The chain from an element on, with at most `k` further elements (R19). -/
def chainFrom (sections : List SectionEntry) : Nat → List Nat → ChainElement → List ChainElement
  | 0, _, x => [x]
  | k + 1, seen, x =>
    if x.kind = .yard then [x]
    else match linkFrom (sectionAt sections x.sec) x.facing with
      | none => [x]
      | some u =>
        if seen.contains u then [x]
        else
          let e := sectionAt sections u
          x :: chainFrom sections k (u :: seen)
            ⟨u, e.kind, e.length, e.cap, entryFacing sections x.sec u, x.offset + x.span, e.length⟩

/-- The look-ahead chain of a position record (R19). -/
def chainOf (sections : List SectionEntry) (p : Position) : List ChainElement :=
  if p.validity = .none then []
  else
    let e := sectionAt sections p.sec
    let span := match p.facing with
      | .fwd => e.length - p.distance
      | .rev => p.distance
    chainFrom sections 2 [p.sec] ⟨p.sec, e.kind, e.length, e.cap, p.facing, 0, span⟩

/-- The node's look-ahead chain as it stands (R19). -/
def chain (s : State) : List ChainElement := chainOf s.pos.sections s.pos.record

/-- The boundary distance, element 0's span; none with an empty chain (R21). -/
def boundary (s : State) : Option Nat := (chain s).head?.map (·.span)

/-- The next section along travel, element 1 (R21). -/
def nextElement (s : State) : Option ChainElement := (chain s)[1]?

/-- The membership answer: the element of the chain a section appears as (R21). -/
def chainElement (s : State) (sec : Nat) : Option (Nat × ChainElement) :=
  ((List.range 3).zip (chain s)).find? (fun x => x.2.sec == sec)

/-! ## Rig length -/

/-- The rig length, from the chain and OVERLENGTH (R181). -/
def rigLength (s : State) : Nat :=
  let g := s.node.settings
  min 4095
    (g.tractorLength + (s.trl.chain.map (fun r => g.couplingGap + r.record.length)).sum +
      (if s.trl.overlength then g.overlengthAllowance else 0))

end Sys2Proof.Machine
end

