-- ==== Sys2Proof/Machine/Peers.lean ====
section
/-! DEFINITION. Chapter 4: the peer table, its projections, gaps and the rig ahead, and the commands
PEER_TAKES_POSITION and PEER_SWEEP. -/

namespace Sys2Proof.Machine

/-- The entry a POSITION writes (R62, R64). -/
def PeerEntry.of (station : Nat) (b : Beacon) (pinned : Bool) (received : Time) : PeerEntry where
  station := station
  convoy := b.convoy
  rank := b.rank
  pred := b.pred
  sec := b.sec
  facing := b.facing
  distance := b.distance
  speed := b.speed
  length := b.length
  valid := b.valid
  parked := b.parked
  halted := b.halted
  overlength := b.overlength
  reversing := b.reversing
  pinned := pinned
  received := received

/-- An entry is fresh (R61). -/
def peerFresh (s : State) (e : PeerEntry) : Bool := isFresh s.time e.received (lapseTime s e.parked)

/-- The entry of a station (R77). -/
def peerOf (s : State) (station : Nat) : Option PeerEntry :=
  s.peer.entries.findSome? (fun o => o.bind (fun e => if e.station = station then some e else none))

/-! ## Projection and offsets -/

/-- The projected distance of an entry (R70). -/
def projected (s : State) (e : PeerEntry) : Nat :=
  let travel := e.speed * age s.time e.received / 1000
  min (sectionAt s.pos.sections e.sec).length
    (if rising e.facing (if e.reversing then .reverse else .forward)
     then e.distance + travel else e.distance - travel)

/-- The raw offset of a peer on the own road; none when it is not on the own road (R71 to R73). -/
def rawOffset (s : State) (e : PeerEntry) : Option Int :=
  if peerFresh s e && e.valid then
    match chainElement s e.sec with
    | none => none
    | some (i, x) =>
      if e.facing ≠ x.facing then none
      else
        let p := projected s e
        if i = 0 then
          match x.facing with
          | .fwd => some ((p : Int) - s.pos.record.distance)
          | .rev => some ((s.pos.record.distance : Int) - p)
        else
          match x.facing with
          | .fwd => some ((x.offset + p : Nat) : Int)
          | .rev => some ((x.offset + (x.length - p) : Nat) : Int)
  else none

/-- The gap to a peer with a non-negative raw offset (R74). -/
def gapFrom (offset length : Nat) : Nat := min 16383 (offset - length)

/-- A peer that can be the rig ahead: its raw offset and its entry (R75). -/
structure Ahead where
  offset : Nat
  entry : PeerEntry
  deriving DecidableEq, Repr

/-- The gap to the rig ahead (R74). -/
def Ahead.gap (a : Ahead) : Nat := gapFrom a.offset a.entry.length

/-- An entry as a candidate for the rig ahead: on the own road with a non-negative raw offset. -/
def candidate (s : State) (e : PeerEntry) : Option Ahead :=
  match rawOffset s e with
  | some (.ofNat r) => some ⟨r, e⟩
  | _ => none

/-- The smaller raw offset is ahead; of equal ones, the lower station number (R75). -/
def Ahead.before (a b : Ahead) : Bool :=
  decide (a.offset < b.offset ∨ (a.offset = b.offset ∧ a.entry.station < b.entry.station))

/-- The nearer of a candidate and the best so far. -/
def nearer (best : Option Ahead) (a : Ahead) : Option Ahead :=
  match best with
  | none => some a
  | some b => if a.before b then some a else some b

/-- The rig ahead (R75). -/
def rigAhead (s : State) : Option Ahead :=
  (s.peer.entries.filterMap (fun o => o.bind (candidate s))).foldl nearer none

/-- The answer to a rig-ahead request (R75): the rig ahead, if there is one, with its entry and raw
offset, and the gap. -/
structure AheadAnswer where
  rig : Option Ahead
  /-- 0..16383 -/
  gap : Nat
  deriving DecidableEq, Repr

/-- PEER answers a rig-ahead request: with no rig ahead the gap is 16383 (R75). -/
def rigAheadAnswer (s : State) : AheadAnswer :=
  match rigAhead s with
  | some a => ⟨some a, a.gap⟩
  | none => ⟨none, 16383⟩

/-- The gap to a named station; none for "not ahead" (R76). -/
def gapTo (s : State) (station : Nat) : Option Nat :=
  ((peerOf s station).bind (candidate s)).map Ahead.gap

/-! ## Admission -/

/-- The claim unit's own state for a section is not NONE (R65). -/
def claimsSection (s : State) (sec : Nat) : Bool :=
  s.clm.entries.any (fun e => e.sec == sec && e.state != .none)

/-- A newcomer is relevant (R65). -/
def relevant (s : State) (b : Beacon) : Bool :=
  (b.valid && s.pos.record.validity != .none && b.sec == s.pos.record.sec) ||
  (b.valid && (chainElement s b.sec).isSome) ||
  (b.valid && isSingle s.pos.sections b.sec && claimsSection s b.sec) ||
  (s.cvy.convoy != 0 && b.convoy == s.cvy.convoy)

/-- An entry may be the victim: not pinned and not the rig ahead (R66). -/
def maybeVictim (s : State) (e : PeerEntry) : Bool :=
  !e.pinned && (rigAhead s).all (fun a => a.entry.station != e.station)

/-- The older of a possible victim and the oldest so far; the lower index stays on a tie (R66). -/
def older (s : State) (best : Option (Nat × PeerEntry)) (x : Nat × PeerEntry) : Option (Nat × PeerEntry) :=
  match best with
  | none => some x
  | some y => if age s.time x.2.received > age s.time y.2.received then some x else some y

/-- The entries in use, each with its index. -/
def indexedEntries (entries : List (Option PeerEntry)) : List (Nat × PeerEntry) :=
  ((List.range entries.length).zip entries).filterMap (fun x => x.2.map (fun e => (x.1, e)))

/-- The index of the victim for a relevant newcomer (R66). -/
def victim (s : State) : Option Nat :=
  (((indexedEntries s.peer.entries).filter (fun x => maybeVictim s x.2)).foldl (older s) none).map (·.1)

/-- The lowest free index (R64). -/
def freeIndex (entries : List (Option PeerEntry)) : Option Nat := entries.findIdx? (·.isNone)

/-- Write an entry at an index of the table. -/
def setPeerEntry (i : Nat) (e : PeerEntry) (s : State) : State :=
  s.setPeer { s.peer with entries := s.peer.entries.set i (some e) }

/-- The WATCHED_PEER record of a new entry decided WATCH (R64, R66). -/
def postWatched (d : FilterAction) (station : Nat) (s : State) : State :=
  if d = .watch then post .peer .watchedPeer (.num station) noDetail noDetail s else s

/-- Where PEER puts a newcomer: a free entry, else a victim's for a relevant one, else nowhere
(R64 to R67). -/
def placeFor (s : State) (b : Beacon) : Option Nat :=
  match freeIndex s.peer.entries with
  | some i => some i
  | none => if relevant s b then victim s else none

/-- PEER takes a POSITION (R62 to R67). -/
def peerTake (station : Nat) (b : Beacon) (received : Time) (d : FilterAction) (s : State) : State :=
  match s.peer.entries.findIdx? (fun o => o.any (fun e => e.station == station)) with
  | some i =>
    let pinned := d == .pin || ((s.peer.entries.getD i none).map (·.pinned)).getD false
    setPeerEntry i (PeerEntry.of station b pinned received) s
  | none =>
    match placeFor s b with
    | some i => postWatched d station (setPeerEntry i (PeerEntry.of station b (d == .pin) received) s)
    | none => raise .peerDropped s

/-- PEER takes the oldest copy from its dispatch queue (R36). -/
def peerTakesOldest (s : State) : State :=
  match s.air.peerQueue with
  | [] => s
  | (r, d) :: rest =>
    let s' := s.setAir { s.air with peerQueue := rest }
    match r.telegram.matter with
    | .position b => peerTake r.telegram.source b r.time d s'
    | _ => s'

/-- PEER_TAKES_POSITION. -/
def execPeerTakesPosition (s : State) : StepResult := whileUp s peerTakesOldest

/-- Free every lapsed entry (R68). -/
def sweepPeers (s : State) : State :=
  s.setPeer { s.peer with
    entries := s.peer.entries.map (fun o => o.filter (peerFresh s))
    sweep := some 100 }

/-- PEER_SWEEP: the 100 ms sweep timer expires (R68). -/
def execPeerSweep (s : State) : StepResult :=
  whileUp s fun s => if runs s.peer.sweep then sweepPeers s else s

end Sys2Proof.Machine
end

