-- ==== Sys2Proof/Machine/Convoy.lean ====
section
/-! DEFINITION. Chapter 5: the role record, the roster, the halt set, and CVY's commands. -/

namespace Sys2Proof.Machine

/-! ## Reading -/

/-- The convoy size: the number of roster entries, 1 when SOLO (R91). -/
def convoySize (s : State) : Nat :=
  if s.cvy.role = .solo then 1 else s.cvy.members.length + 1

/-- A member entry is fresh (R88). -/
def memberFresh (s : State) (m : Member) : Bool := isFresh s.time m.lastHeard (lapseTime s m.parked)

/-- A station stands in the roster: the own station while in a convoy, or a member (R88). -/
def inRoster (s : State) (station : Nat) : Bool :=
  s.cvy.role != .solo &&
    (station == ownStation s || s.cvy.members.any (fun m => m.station == station))

/-! ## Halt requests -/

/-- CVY posts a HALT under R95, which returns retry used to no (R97). -/
def postHalt (cause : HaltCause) (s : State) : State :=
  postRequest .halt (.add (.halt cause)) (s.setCvy { s.cvy with retryUsed := false })

/-- CVY posts a RESUME under R95 or R96, which returns retry used to no (R97). -/
def postResume (s : State) : State :=
  postRequest .halt (.add .resume) (s.setCvy { s.cvy with retryUsed := false })

/-- The convoy ID has taken a new non-zero value: a standing own entry is told to the new convoy
with its first cause (R95). -/
def tellNewConvoy (s : State) : State :=
  match s.cvy.own.first with
  | some c => postHalt c s
  | none => s

/-! ## Joining and leaving -/

/-- Leave the convoy (R83). -/
def leave (cause : LeaveCause) (s : State) : State :=
  post .cvy .convoyLeft (.leave cause) (.num s.cvy.convoy) (.num s.cvy.rank)
    (s.setCvy { s.cvy with role := .solo, convoy := 0, rank := 0, pred := 0, members := [], foreign := [] })

/-- The join conditions of R80 on a rig ahead. -/
def joinable (s : State) (a : Ahead) : Bool :=
  s.drv.position == .convoy && s.pos.record.validity == .valid && haltSetEmpty s.cvy &&
    decide (a.gap ≤ s.node.settings.joinGap) && !a.entry.parked && !a.entry.halted &&
    decide (a.entry.rank < 8) && a.entry.convoy != ownStation s && a.entry.pred != ownStation s

/-- Become FOLLOWER of the rig ahead (R80). -/
def join (e : PeerEntry) (s : State) : State :=
  let convoy := if e.convoy = 0 then e.station else e.convoy
  let rank := if e.rank = 0 then 2 else e.rank + 1
  post .cvy .convoyJoined (.num e.station) (.num convoy) (.num rank)
    (s.setCvy { s.cvy with
      role := .follower, pred := e.station, convoy := convoy, rank := rank, members := [] })

/-- The join test of a SOLO node (R80). -/
def joinTest (s : State) : State :=
  match rigAhead s with
  | none => s
  | some a => if joinable s a then join a.entry s else s

/-- The leave tests of a FOLLOWER in order (R82). -/
def leaveCause (s : State) : Option LeaveCause :=
  if s.drv.position = .solo ∨ s.drv.position = .park then some .function
  else if ¬((peerOf s s.cvy.pred).any (peerFresh s)) then some .predLapsed
  else if (gapTo s s.cvy.pred).all (fun g => decide (g > s.node.settings.breakGap)) then some .breakGap
  else if ¬((rigAhead s).any (fun a => a.entry.station == s.cvy.pred)) then some .cutIn
  else none

/-- The role check at each governor update (R79). -/
def roleCheck (s : State) : State :=
  match s.cvy.role with
  | .solo => joinTest s
  | .follower =>
    match leaveCause s with
    | some c => leave c s
    | none => s
  | .leader => s

/-- A FOLLOWER leaves when the function position changes to SOLO or PARK (R81). -/
def followFunction (c : FnChange) (s : State) : State :=
  if s.cvy.role = .follower ∧ c.new ≠ .convoy then leave .function s else s

/-- CVY takes the oldest function change (R162). -/
def cvyTakesChange (s : State) : State :=
  match s.mail.cvyChanges with
  | [] => s
  | c :: rest => followFunction c (s.setMail { s.mail with cvyChanges := rest })

/-- CVY_FUNCTION_CHANGE. -/
def execCvyFunctionChange (s : State) : StepResult := whileUp s cvyTakesChange

/-! ## The roster -/

/-- Progress: the distance from the section's start end in the facing sense, an ABSENT section
counting as length 0 (R91). A distance beyond the section's length gives a negative progress. -/
def progress (sections : List SectionEntry) (sec : Nat) (f : Facing) (distance : Nat) : Int :=
  match f with
  | .fwd => (distance : Int)
  | .rev =>
    ((if (sectionAt sections sec).kind = .absent then 0 else (sectionAt sections sec).length : Nat) : Int)
      - distance

/-- Roster order of two entries by rank, then progress (greatest first), then station (R91). -/
def rosterBefore (sections : List SectionEntry) (rank₁ sec₁ : Nat) (f₁ : Facing) (d₁ station₁ : Nat)
    (rank₂ sec₂ : Nat) (f₂ : Facing) (d₂ station₂ : Nat) : Bool :=
  let p₁ := progress sections sec₁ f₁ d₁
  let p₂ := progress sections sec₂ f₂ d₂
  decide (rank₁ < rank₂ ∨ (rank₁ = rank₂ ∧ (p₁ > p₂ ∨ (p₁ = p₂ ∧ station₁ < station₂))))

/-- Roster order of two members. -/
def Member.before (sections : List SectionEntry) (a b : Member) : Bool :=
  rosterBefore sections a.rank a.sec a.facing a.distance a.station b.rank b.sec b.facing b.distance b.station

/-- Put a member in its place in roster order. -/
def insertMember (sections : List SectionEntry) (m : Member) : List Member → List Member
  | [] => [m]
  | x :: xs => if m.before sections x then m :: x :: xs else x :: insertMember sections m xs

/-- The member entry a POSITION writes (R88). -/
def Member.of (station : Nat) (b : Beacon) (received : Time) : Member :=
  ⟨station, b.rank, b.pred, b.sec, b.facing, b.distance, b.parked, received⟩

/-- Set the members of the roster. -/
def setMembers (ms : List Member) (s : State) : State := s.setCvy { s.cvy with members := ms }

/-- The leader test: a LEADER whom no fresh member names as pred leaves (R87). -/
def leaderTest (s : State) : State :=
  if s.cvy.role = .leader ∧
      ¬(s.cvy.members.any (fun m => memberFresh s m && m.pred == ownStation s)) then
    leave .noFollower s
  else s

/-- The members without a station. -/
def without (station : Nat) (ms : List Member) : List Member := ms.filter (fun m => m.station != station)

/-- A newcomer to a full roster takes the place of the member of highest rank, when its own rank is
lower (R90). The members stand in roster order, so that member is the last. The leader test that the
removal asks for (R87) is made once, with the newcomer in its place (DESIGN CHOICE, assumption log 31). -/
def fullRoster (m : Member) (s : State) : State :=
  match s.cvy.members.getLast? with
  | none => s
  | some last =>
    if m.rank < last.rank then
      leaderTest (setMembers (insertMember s.pos.sections m s.cvy.members.dropLast) s)
    else s

/-- Part 3 of R84: roster membership (R89). -/
def membership (station : Nat) (b : Beacon) (received : Time) (s : State) : State :=
  if s.cvy.role = .solo then s
  else
    let m := Member.of station b received
    match s.cvy.members.find? (fun x => x.station == station) with
    | some old =>
      if b.convoy = s.cvy.convoy then
        let s' := setMembers (insertMember s.pos.sections m (without station s.cvy.members)) s
        if old.pred = m.pred then s' else leaderTest s'
      else leaderTest (setMembers (without station s.cvy.members) s)
    | none =>
      if b.convoy ≠ s.cvy.convoy then s
      else if s.cvy.members.length + 1 < 8 then
        setMembers (insertMember s.pos.sections m s.cvy.members) s
      else fullRoster m s

/-! ## Leading and rank propagation -/

/-- A SOLO node named as pred and convoy becomes LEADER (R85). -/
def becomeLeader (station : Nat) (s : State) : State :=
  tellNewConvoy (post .cvy .convoyLed (.num station) noDetail noDetail
    (s.setCvy { s.cvy with role := .leader, convoy := ownStation s, rank := 1, pred := 0, members := [] }))

/-- The convoy ID and rank a FOLLOWER derives from its pred's beacon (R85). -/
def derived (pred : Nat) (b : Beacon) : Nat × Nat :=
  if b.convoy = 0 then (pred, 2) else (b.convoy, b.rank + 1)

/-- A FOLLOWER re-derives its convoy from its pred's beacon; a derived rank of 9, which no beacon with a
rank of at most 8 exceeds, makes it leave (R85, R86). -/
def propagate (b : Beacon) (s : State) : State :=
  let d := derived s.cvy.pred b
  if d.2 > 8 then leave .rankLimit s
  else if d.1 = s.cvy.convoy then s.setCvy { s.cvy with rank := d.2 }
  else
    tellNewConvoy (post .cvy .convoyJoined (.num s.cvy.pred) (.num d.1) (.num d.2)
      (s.setCvy { s.cvy with convoy := d.1, rank := d.2, members := [], foreign := [] }))

/-- Parts 1 and 2 of R84. -/
def leadOrPropagate (station : Nat) (b : Beacon) (s : State) : State :=
  match s.cvy.role with
  | .solo =>
    if b.pred = ownStation s ∧ b.convoy = ownStation s then becomeLeader station s else s
  | .follower => if station = s.cvy.pred then propagate b s else s
  | .leader => s

/-! ## Halts -/

/-- Remove the foreign halt entry of a source. -/
def liftHalt (source : Nat) (s : State) : State :=
  s.setCvy { s.cvy with foreign := s.cvy.foreign.filter (fun x => x.1 != source) }

/-- Part 4 of R84: a halt ends by its source's beacon (R94). -/
def haltEndsByBeacon (station : Nat) (b : Beacon) (s : State) : State :=
  if b.halted then s else liftHalt station s

/-- CVY takes a POSITION: a stale one is discarded, a fresh one is applied in the order of R84. -/
def cvyTakePosition (station : Nat) (b : Beacon) (received : Time) (s : State) : State :=
  if isFresh s.time received (lapseTime s b.parked) then
    haltEndsByBeacon station b (membership station b received (leadOrPropagate station b s))
  else s

/-- Two records of CVY whose order the manual leaves open (assumption log 14). -/
def postEitherOrder (f g : State → State) (s : State) : State :=
  let s' := s.setDraws (s.draws + 1)
  if Config.freeFlag s.draws then g (f s') else f (g s')

/-- A HALT addressed to the current convoy is recorded, or finds the set full (R93). The foreign entries
stand in the order in which their sources were added, a new cause keeping its entry's place (DESIGN
CHOICE, assumption log 32). -/
def recordHalt (source : Nat) (cause : HaltCause) (s : State) : State :=
  let heard := post .cvy .haltHeard (.num source) (.halt cause) noDetail
  if s.cvy.foreign.any (fun x => x.1 == source) then
    heard (s.setCvy { s.cvy with
      foreign := s.cvy.foreign.map (fun x => if x.1 = source then (source, cause) else x) })
  else if s.cvy.foreign.length < 7 then
    heard (s.setCvy { s.cvy with foreign := s.cvy.foreign ++ [(source, cause)] })
  else postEitherOrder heard (post .cvy .haltSetFull (.num source) noDetail noDetail) s

/-- CVY takes the oldest telegram from its dispatch queue when `p` picks it. -/
def cvyTakes (p : Matter → Bool) (f : Received → State → State) (s : State) : State :=
  match s.air.cvyQueue with
  | [] => s
  | r :: rest =>
    if p r.telegram.matter then f r (s.setAir { s.air with cvyQueue := rest }) else s

/-- The telegram is a POSITION. -/
def Matter.isPosition : Matter → Bool
  | .position _ => true
  | _ => false

/-- The telegram is a HALT. -/
def Matter.isHalt : Matter → Bool
  | .halt _ => true
  | _ => false

/-- The telegram is a RESUME. -/
def Matter.isResume : Matter → Bool
  | .resume => true
  | _ => false

/-- CVY_TAKES_POSITION (R84). -/
def execCvyTakesPosition (s : State) : StepResult :=
  whileUp s <| cvyTakes Matter.isPosition fun r s =>
    match r.telegram.matter with
    | .position b => cvyTakePosition r.telegram.source b r.time s
    | _ => s

/-- CVY_TAKES_HALT: discarded when the destination no longer equals the convoy ID (R93). -/
def execCvyTakesHalt (s : State) : StepResult :=
  whileUp s <| cvyTakes Matter.isHalt fun r s =>
    match r.telegram.matter with
    | .halt cause => if r.telegram.number = s.cvy.convoy then recordHalt r.telegram.source cause s else s
    | _ => s

/-- CVY_TAKES_RESUME: discarded when the destination no longer equals the convoy ID (R93). -/
def execCvyTakesResume (s : State) : StepResult :=
  whileUp s <| cvyTakes Matter.isResume fun r s =>
    if r.telegram.number = s.cvy.convoy then liftHalt r.telegram.source s else s

/-- Remove every member that is not fresh, then the leader test, at every expiry (R87, R92). -/
def sweepMembers (s : State) : State :=
  leaderTest (s.setCvy { s.cvy with members := s.cvy.members.filter (memberFresh s), sweep := some 100 })

/-- CVY_SWEEP: the 100 ms sweep timer expires (R92). -/
def execCvySweep (s : State) : StepResult :=
  whileUp s fun s => if runs s.cvy.sweep then sweepMembers s else s

/-- An own cause is added (R95). -/
def addCause (cause : HaltCause) (s : State) : State :=
  if s.cvy.own.has cause then s
  else
    let s' := s.setCvy { s.cvy with own := s.cvy.own.set cause true }
    if s.cvy.role = .solo then s' else postHalt cause s'

/-- An own cause is removed (R95). -/
def removeCause (cause : HaltCause) (s : State) : State :=
  if ¬s.cvy.own.has cause then s
  else
    let s' := s.setCvy { s.cvy with own := s.cvy.own.set cause false }
    if s'.cvy.own.any ∨ s.cvy.role = .solo then s' else postResume s'

/-- CVY takes the oldest own-cause request of a poster when it is of the given sort. -/
def takeCause (src : CauseSource) (add : Bool) (s : State) : State :=
  match causesOf s.mail src with
  | [] => s
  | c :: rest =>
    if c.add = add then
      let s' := s.setMail (s.mail.setCauses src rest)
      if add then addCause c.cause s' else removeCause c.cause s'
    else s

/-- OWN_CAUSE_ADD (R95). -/
def execOwnCauseAdd (src : CauseSource) (s : State) : StepResult := whileUp s (takeCause src true)

/-- OWN_CAUSE_REMOVE (R95). -/
def execOwnCauseRemove (src : CauseSource) (s : State) : StepResult := whileUp s (takeCause src false)

/-- Empty the halt set on the acknowledge gesture (R96). -/
def acknowledge (s : State) : State :=
  let s' := s.setCvy { s.cvy with own := OwnCauses.empty, foreign := [] }
  if s.cvy.own.any ∧ s.cvy.role ≠ .solo then postResume s' else s'

/-- CVY takes one gesture from NODE. -/
def takeGesture (s : State) : State :=
  if s.mail.gestures = 0 then s
  else acknowledge (s.setMail { s.mail with gestures := s.mail.gestures - 1 })

/-- ACKNOWLEDGE_GESTURE (R96). -/
def execAcknowledgeGesture (s : State) : StepResult := whileUp s takeGesture

/-- The repost of an aborted content that still stands for the present state, once (R97). -/
def repostHalt (content : Option Content) (s : State) : State :=
  if s.cvy.retryUsed ∨ s.cvy.role = .solo then s
  else
    let used := s.setCvy { s.cvy with retryUsed := true }
    match content, s.cvy.own.first with
    | some (.halt _), some c => postRequest .halt (.add (.halt c)) used
    | some .resume, none => postRequest .halt (.add .resume) used
    | _, _ => s

/-- CVY acts on an outcome notice of the HALT slot (R97). -/
def onHaltNotice (n : Notice) (s : State) : State :=
  match n.outcome with
  | .sent => s.setCvy { s.cvy with retryUsed := false }
  | .cancelled => s
  | .sentDespiteCancel => s
  | .aborted => repostHalt n.content s

/-- The requester of a slot takes the slot's oldest notice. -/
def takeNotice (id : SlotId) (f : Notice → State → State) (s : State) : State :=
  match noticesOf s.mail id with
  | [] => s
  | n :: rest => f n (s.setMail (s.mail.setNotices id rest))

/-- CVY_HALT_NOTICE (R97). -/
def execCvyHaltNotice (s : State) : StepResult := whileUp s (takeNotice .halt onHaltNotice)

end Sys2Proof.Machine
end

