-- ==== Sys2Proof/Machine/Claims.lean ====
section
/-! DEFINITION. Chapter 6: the claim table, locks and keys, position checks, reviews, windows,
standoffs, the stop requirement, and CLM's commands. -/

namespace Sys2Proof.Machine

/-! ## Entries -/

/-- The claim-table entry of a section. -/
def claimEntry (s : State) (sec : Nat) : Option ClaimEntry := s.clm.entries.find? (fun e => e.sec == sec)

/-- Replace the claim-table entry of a section. -/
def setClaimEntry (e : ClaimEntry) (s : State) : State :=
  s.setClm { s.clm with entries := s.clm.entries.map (fun f => if f.sec = e.sec then e else f) }

/-- Act on the entry of a section, if the table holds one. -/
def onEntry (sec : Nat) (f : ClaimEntry → State → State) (s : State) : State :=
  match claimEntry s sec with
  | some e => f e s
  | none => s

/-- The sections of the table, in ascending order (R99). -/
def claimSections (s : State) : List Nat := s.clm.entries.map (·.sec)

/-- Act on every entry, in ascending order of section number (DESIGN CHOICE, assumption log 38). -/
def onEveryEntry (f : ClaimEntry → State → State) (s : State) : State :=
  (claimSections s).foldl (fun s sec => onEntry sec f s) s

/-- The direction of a claim by a facing (Terms). -/
def dirOf : Facing → Dir
  | .fwd => .ab
  | .rev => .ba

/-- The opposite direction. -/
def Dir.flip : Dir → Dir
  | .ab => .ba
  | .ba => .ab

/-- The node is inside the section: its position record stands there, or the tail is above 0 (R109). -/
def insideEntry (s : State) (e : ClaimEntry) : Bool :=
  (s.pos.record.validity != .none && s.pos.record.sec == e.sec) || decide (e.tail > 0)

/-- The entries of other sections whose own state is not NONE. -/
def othersActive (s : State) (sec : Nat) : List ClaimEntry :=
  s.clm.entries.filter (fun e => e.sec != sec && e.state != .none)

/-! ## Freshness, locks, keys -/

/-- A time recorded by CLM is fresh: an age of at most the peer lapse setting (R106, R107). -/
def clmFresh (s : State) (t : Time) : Bool := isFresh s.time t s.node.settings.peerLapse

/-- The entry's last-hold-heard of a direction (R99). -/
def ClaimEntry.heard (e : ClaimEntry) : Dir → Option Time
  | .ab => e.heardAB
  | .ba => e.heardBA

/-- Set the entry's last-hold-heard of a direction. -/
def ClaimEntry.setHeard (e : ClaimEntry) (d : Dir) (t : Option Time) : ClaimEntry :=
  match d with
  | .ab => { e with heardAB := t }
  | .ba => { e with heardBA := t }

/-- A direction is locked (R107). -/
def locked (s : State) (e : ClaimEntry) (d : Dir) : Bool :=
  e.holders.any (fun h => h.dir == d && clmFresh s h.lastHeard) || (e.heard d).any (clmFresh s)

/-- A claim key: waited, convoy size, station (R108). -/
structure ClaimKey where
  waited : Bool
  size : Nat
  station : Nat
  deriving DecidableEq, Repr

/-- The first claim key is the better one (R108). -/
def ClaimKey.better (a b : ClaimKey) : Bool :=
  if a.waited ≠ b.waited then a.waited
  else if a.size ≠ b.size then decide (a.size > b.size)
  else decide (a.station < b.station)

/-- The first holder key (size, station) is the better one (R108). -/
def holderKeyBetter (size₁ station₁ size₂ station₂ : Nat) : Bool :=
  if size₁ ≠ size₂ then decide (size₁ > size₂) else decide (station₁ < station₂)

/-- A claimant record's key (R108). -/
def Claimant.key (c : Claimant) : ClaimKey := ⟨c.waited, c.size, c.station⟩

/-- A holder record's key is better than the node's own holder key (R108). -/
def beatsOwn (s : State) (h : Holder) : Bool :=
  holderKeyBetter h.size h.station (convoySize s) (ownStation s)

/-- The fresh holder records in the opposite direction. -/
def opposingHolders (s : State) (e : ClaimEntry) : List Holder :=
  e.holders.filter (fun h => h.dir == e.dir.flip && clmFresh s h.lastHeard)

/-- The fresh opposite holder records with inside yes. -/
def opposingInside (s : State) (e : ClaimEntry) : List Holder :=
  (opposingHolders s e).filter (·.inside)

/-- The fresh claimant records in the opposite direction (R113). -/
def opposingClaimants (s : State) (e : ClaimEntry) : List Claimant :=
  e.claimants.filter (fun c => c.dir == e.dir.flip && clmFresh s c.received)

/-- pred has a fresh holder record in the own direction, and the node follows it (R110, R115). -/
def canRide (s : State) (e : ClaimEntry) : Bool :=
  s.cvy.role == .follower &&
    e.holders.any (fun h => h.station == s.cvy.pred && h.dir == e.dir && clmFresh s h.lastHeard)

/-- The node is a convoy rider (R113). -/
def convoyRider (s : State) (e : ClaimEntry) : Bool :=
  s.cvy.role != .solo &&
    e.holders.any (fun h => h.dir == e.dir && clmFresh s h.lastHeard && inRoster s h.station)

/-- The courtesy test (R113). -/
def courtesy (s : State) (e : ClaimEntry) : Bool :=
  locked s e e.dir && !(opposingClaimants s e).isEmpty && !convoyRider s e

/-- A claimant was heard within the window: its age is at most local time now less the window's
start (R112). -/
def heardWithin (s : State) (w : Window) (c : Claimant) : Bool :=
  decide (age s.time c.received ≤ age s.time w.start)

/-- The node's own claim key while its window runs (R108). -/
def ownClaimKey (s : State) (e : ClaimEntry) : ClaimKey := ⟨e.waited, e.size, ownStation s⟩

/-- The window evaluation: the first test that holds, or none (R113). -/
def evaluate (s : State) (e : ClaimEntry) (w : Window) : Option WaitCause :=
  if locked s e e.dir.flip then some .lock
  else if (opposingClaimants s e).any
      (fun c => heardWithin s w c && c.key.better (ownClaimKey s e)) then some .key
  else if courtesy s e then some .courtesy
  else none

/-- The conditions on which a WAITING entry claims again (R114). -/
def mayClaimAgain (s : State) (e : ClaimEntry) : Bool :=
  !locked s e e.dir.flip &&
    !(opposingClaimants s e).any (fun c => c.key.better ⟨true, convoySize s, ownStation s⟩) &&
    !courtesy s e

/-! ## Posting claims -/

/-- A record joins the claim-post list; in a full list it replaces the older (R99). -/
def joinPosts (p : ClaimPost) (posts : List ClaimPost) : List ClaimPost :=
  if posts.length < 2 then posts ++ [p] else posts.drop (posts.length - 1) ++ [p]

/-- The request number AIR will give the next request to the CLAIM slot: numbers are given in the
order CLM posts (R42; assumption log 8). -/
def nextClaimNumber (s : State) : Nat :=
  (s.air.claimSlot.counter + s.mail.claimRequests.length) % 256

/-- CLM posts the CLAIM of an entry and puts its request number in the claim-post list (R110). -/
def postClaim (e : ClaimEntry) (s : State) : State :=
  let n := nextClaimNumber s
  postRequest .claim (.add (.claim e.sec e.dir e.waited e.size))
    (s.setClm { s.clm with posts := joinPosts ⟨n, e.sec, false⟩ s.clm.posts })

/-- A window starting now (R112). -/
def newWindow (s : State) : Window :=
  ⟨s.time, s.time + BitVec.ofNat 16 s.node.settings.claimWindow⟩

/-- The state becomes CLAIMING: the claim size is the convoy size now, a CLAIM is posted and a
window starts (R110, R112). -/
def startClaim (e : ClaimEntry) (s : State) : State :=
  let e' := { e with
    state := .claiming, size := convoySize s, window := some (newWindow s), repostUsed := false }
  postClaim e' (setClaimEntry e' s)

/-- The entry in WAITING: waited yes, no window (R114). -/
def ClaimEntry.toWaiting (e : ClaimEntry) : ClaimEntry :=
  { e with state := .waiting, waited := true, window := none }

/-- The halt cause of a standoff cause. -/
def StandoffCause.halt : StandoffCause → HaltCause
  | .standoff => .standoff
  | .intrusion => .intrusion

/-- Another entry stands in STANDOFF with this cause. -/
def otherStandoff (s : State) (sec : Nat) (c : StandoffCause) : Bool :=
  s.clm.entries.any (fun e => e.sec != sec && e.state == .standoff && e.cause == some c)

/-- The entry goes to STANDOFF with a cause: an own-cause add is posted unless another entry already
stands so, and a STANDOFF record is posted (R119, R121). -/
def goStandoff (e : ClaimEntry) (c : StandoffCause) (station : Nat) (role : StandoffRole) (s : State) :
    State :=
  let s₁ := setClaimEntry { e with state := .standoff, cause := some c, window := none } s
  let s₂ := if otherStandoff s e.sec c then s₁ else postCause .clm true c.halt s₁
  post .clm .standoff (.num e.sec) (.num station) (.role role) s₂

/-- Removing the own cause of an entry that has left STANDOFF (R122). -/
def dropCause (e : ClaimEntry) (s : State) : State :=
  match e.cause with
  | none => s
  | some c => if otherStandoff s e.sec c then s else postCause .clm false c.halt s

/-- The tail has reached 0 through a forward move: the section is released, and a STANDOFF entry's
own cause removed (R122, R123). -/
def endByTail (e : ClaimEntry) (s : State) : State :=
  let s' := postRelease e.sec
    (setClaimEntry { e with state := .none, waited := false, tail := 0, cause := none } s)
  if e.state = .standoff then dropCause e s' else s'

/-! ## Choosing a station among several -/

/-- One of several holder records, by a free value when there is a choice (assumption log 12). -/
def pickHolder (hs : List Holder) (s : State) : Option Holder × State :=
  match hs with
  | [] => (none, s)
  | [h] => (some h, s)
  | h :: rest =>
    (some ((h :: rest).getD (Config.freePick s.draws % (h :: rest).length) h), s.setDraws (s.draws + 1))

/-- Act with the station of one of the holder records, if there is one. -/
def withHolder (hs : List Holder) (f : Nat → State → State) (s : State) : State :=
  match pickHolder hs s with
  | (some h, s') => f h.station s'
  | (none, s') => s'

/-! ## Reviews -/

/-- A RIDING entry not inside whose pred holds no longer has lost its ride and claims (R115). -/
def reviewRiding (e : ClaimEntry) (s : State) : State :=
  if e.state = .riding ∧ ¬insideEntry s e ∧ ¬canRide s e then startClaim e s else s

/-- A HOLDING entry not inside yields to an opposite holder that is inside or has a better key
(R117). -/
def reviewHeld (e : ClaimEntry) (s : State) : State :=
  if e.state = .holding ∧ ¬insideEntry s e then
    withHolder ((opposingHolders s e).filter (fun h => h.inside || beatsOwn s h))
      (fun station s => post .clm .claimYielded (.num e.sec) (.num station) noDetail
        (postRelease e.sec (setClaimEntry e.toWaiting s))) s
  else s

/-- A HOLDING entry inside that meets an opposite inside holder has lost a standoff to a better key
(R119), or is its winner (R120). -/
def reviewInside (e : ClaimEntry) (s : State) : State :=
  if e.state = .holding ∧ insideEntry s e then
    let better := (opposingInside s e).filter (beatsOwn s)
    if better.isEmpty then
      withHolder (opposingInside s e)
        (fun station s =>
          if e.noted = some station then s
          else post .clm .standoff (.num e.sec) (.num station) (.role .winner)
            (setClaimEntry { e with noted := some station } s)) s
    else withHolder better (fun station => goStandoff e .standoff station .loser) s
  else s

/-- Standoff noted becomes none when no fresh opposite holder is inside (R120). -/
def reviewNoted (e : ClaimEntry) (s : State) : State :=
  if (opposingInside s e).isEmpty then setClaimEntry { e with noted := none } s else s

/-- A WAITING entry rides behind pred (R115), or claims again (R114). -/
def reviewWaiting (e : ClaimEntry) (s : State) : State :=
  if e.state = .waiting then
    if canRide s e then setClaimEntry { e with state := .riding } s
    else if mayClaimAgain s e then startClaim e s
    else s
  else s

/-- The review of an entry whose state is not NONE (R109). The parts are taken in an order in which
each change of state a part makes is reviewed by a part that follows it (assumption log 9). An entry in
NONE is not reviewed by the sweep or at a change of its lists either, and keeps its standoff noted
(DESIGN CHOICE, assumption log 40). -/
def review (sec : Nat) (s : State) : State :=
  if (claimEntry s sec).any (fun e => e.state != .none) then
    onEntry sec reviewWaiting (onEntry sec reviewNoted (onEntry sec reviewInside
      (onEntry sec reviewHeld (onEntry sec reviewRiding s))))
  else s

/-- Review every entry (R109), in ascending order of section number (DESIGN CHOICE, assumption log 38). -/
def reviewAll (s : State) : State := (claimSections s).foldl (fun s sec => review sec s) s

/-! ## Own travel -/

/-- An entry has left the approach (R125): the effect by its state. -/
def leaveApproach (e : ClaimEntry) (s : State) : State :=
  match e.state with
  | .claiming =>
    let s₁ := setClaimEntry { e with state := .none, window := none } s
    postRequest .claim .cancel
      (s₁.setClm { s₁.clm with posts := s₁.clm.posts.map (fun p => { p with cancelled := true }) })
  | .waiting => setClaimEntry { e with state := .none } s
  | .riding => setClaimEntry { e with state := .none } s
  | .holding => postRelease e.sec (setClaimEntry { e with state := .none } s)
  | .none => s
  | .standoff => s

/-- The section is no longer element 1, or the boundary distance exceeds the approach distance by
more than 100 mm (R125). -/
def hasLeftApproach (s : State) (sec : Nat) : Bool :=
  !((nextElement s).any (fun x => x.sec == sec)) ||
    (boundary s).any (fun b => decide (b > s.node.settings.approachDistance + 100))

/-- Step 3 of the position check for one entry (R109, R125). -/
def checkLeaving (e : ClaimEntry) (s : State) : State :=
  let subject := match e.state with
    | .claiming | .waiting | .riding => true
    | .holding => !insideEntry s e
    | .none | .standoff => false
  if subject && hasLeftApproach s e.sec then leaveApproach e s else s

/-- Exit from a SINGLE section (R122, R123, R124). -/
def exitEntry (e : ClaimEntry) (s : State) : State :=
  match e.state, s.gov.direction with
  | .holding, .forward => setClaimEntry { e with tail := rigLength s, tailLimit := rigLength s } s
  | .holding, .reverse => postRelease e.sec (setClaimEntry { e with state := .none } s)
  | .standoff, .forward => setClaimEntry { e with tail := rigLength s, tailLimit := rigLength s } s
  | .standoff, .reverse =>
    dropCause e (postRelease e.sec (setClaimEntry { e.toWaiting with cause := none } s))
  | _, _ => s

/-- Of two tails the smaller ends, and of equal ones that of the lower section number (R116). -/
def shorterTail : List ClaimEntry → Option ClaimEntry
  | [] => none
  | e :: es =>
    match shorterTail es with
    | none => some e
    | some f => if f.tail < e.tail then some f else some e

/-- Before the table of R116 is applied: with two other entries not NONE, those not inside leave the
approach, in ascending order of section number (DESIGN CHOICE, assumption log 38), and if two still
stand the one with the smaller tail ends. -/
def makeRoom (sec : Nat) (s : State) : State :=
  if (othersActive s sec).length < 2 then s
  else
    let s' := (othersActive s sec).foldl
      (fun s e => if insideEntry s e then s else leaveApproach e s) s
    if (othersActive s' sec).length < 2 then s'
    else match shorterTail (othersActive s' sec) with
      | some e => endByTail e s'
      | none => s'

/-- Entering by STANDOFF with cause INTRUSION, in the entry direction (R116, R121). -/
def intrude (e : ClaimEntry) (d : Dir) (s : State) : State :=
  goStandoff { e with dir := d } .intrusion 0 .intrusion s

/-- The entry holds: CLAIM_HELD is posted (R113). -/
def holdEntry (e : ClaimEntry) (s : State) : State :=
  post .clm .claimHeld (.num e.sec) (.dir e.dir) (.num e.size)
    (setClaimEntry { e with state := .holding, window := none } s)

/-- The table of R116, for an entry whose tail has become 0. -/
def enterTable (e : ClaimEntry) (d : Dir) (s : State) : State :=
  match e.state with
  | .holding => if d = e.dir then setClaimEntry e s else intrude e d s
  | .riding => if d = e.dir then setClaimEntry { e with state := .holding } s else intrude e d s
  | .claiming =>
    match e.window with
    | some w => if (evaluate s e w).isNone then holdEntry e s else intrude e d s
    | none => intrude e d s
  | .none => intrude e d s
  | .waiting => intrude e d s
  | .standoff => setClaimEntry e s

/-- Entry into a SINGLE section (R116). -/
def enterEntry (sec : Nat) (s : State) : State :=
  match claimEntry s sec with
  | none => s
  | some _ =>
    onEntry sec (fun e s => enterTable { e with tail := 0 } (dirOf s.pos.record.facing) s)
      (makeRoom sec s)

/-- Step 1 of the position check: a change of own section out of and into SINGLE sections (R109).
`before` is the own section before the change, none while it had no meaning. -/
def crossing (before : Option Nat) (s : State) : State :=
  if before = some s.pos.record.sec then s
  else
    enterEntry s.pos.record.sec
      (match before with
        | some p => onEntry p exitEntry s
        | none => s)

/-- The tail countdown of one entry for a move of `mm` whole millimetres (R123). -/
def moveTail (mm : Nat) (e : ClaimEntry) (s : State) : State :=
  if e.tail = 0 then s
  else match s.gov.direction with
    | .forward =>
      if e.tail ≤ mm then endByTail e s else setClaimEntry { e with tail := e.tail - mm } s
    | .reverse => setClaimEntry { e with tail := min e.tailLimit (e.tail + mm) } s

/-- Step 2 of the position check (R109): the tails, at an odometer move. -/
def tailCountdown (move : Option Nat) (s : State) : State :=
  match move with
  | some mm => onEveryEntry (moveTail mm) s
  | none => s

/-- The approach conditions of R110 hold for this section, whatever the other entries do. -/
def approachHolds (s : State) (x : ChainElement) (e : ClaimEntry) : Bool :=
  x.kind == .single && e.state == .none &&
    (boundary s).any (fun b => decide (b ≤ s.node.settings.approachDistance))

/-- Step 4 of the position check: ride or claim the next section (R110), unless deferred (R111). -/
def approach (s : State) : State :=
  match nextElement s with
  | none => s
  | some x =>
    onEntry x.sec (fun e s =>
      if approachHolds s x e ∧ (othersActive s x.sec).length < 2 then
        let e' := { e with dir := dirOf x.facing }
        if canRide s e' then setClaimEntry { e' with state := .riding } s else startClaim e' s
      else s) s

/-- The position check (R109). `move` is the odometer move that led to it, none at a tag or on
entering RUNNING. -/
def positionCheck (before : Option Nat) (move : Option Nat) (s : State) : State :=
  if s.node.mode = .running ∧ s.pos.record.validity ≠ .none then
    reviewAll (approach (onEveryEntry checkLeaving (tailCountdown move (crossing before s))))
  else s

/-! ## Learning -/

/-- Remove a station from a holder list. -/
def dropHolder (station : Nat) (e : ClaimEntry) : ClaimEntry :=
  { e with holders := e.holders.filter (fun h => h.station != station) }

/-- Remove a station from a claimant list. -/
def dropClaimant (station : Nat) (e : ClaimEntry) : ClaimEntry :=
  { e with claimants := e.claimants.filter (fun c => c.station != station) }

/-- The holder list holds a station. -/
def holdsStation (station : Nat) (e : ClaimEntry) : Bool := e.holders.any (fun h => h.station == station)

/-- The claimant record of worst key; keys of different stations differ (R105, R108). -/
def worstClaimant : List Claimant → Option Claimant
  | [] => none
  | c :: cs =>
    match worstClaimant cs with
    | none => some c
    | some d => if c.key.better d.key then some d else some c

/-- Add or refresh a claimant record, or compare it with the worst of a full list (R105). A record
refreshed keeps its place and a new one stands last (DESIGN CHOICE, assumption log 37). -/
def learnClaimant (c : Claimant) (e : ClaimEntry) : ClaimEntry :=
  if e.claimants.any (fun x => x.station == c.station) then
    { e with claimants := e.claimants.map (fun x => if x.station = c.station then c else x) }
  else if e.claimants.length < 6 then { e with claimants := e.claimants ++ [c] }
  else match worstClaimant e.claimants with
    | none => e
    | some w =>
      if c.key.better w.key then
        { e with claimants := e.claimants.filter (fun x => x.station != w.station) ++ [c] }
      else e

/-- A hold entry's mode sets a holder (R101), not a claimant (R102). -/
def HoldMode.holds : HoldMode → Bool
  | .holding | .riding | .clearing => true
  | .waiting => false

/-- The holder record a hold entry gives (R101). -/
def Holder.of (station : Nat) (b : Beacon) (h : HoldEntry) (received : Time) : Holder where
  station := station
  dir := h.dir
  riding := h.mode == .riding
  size := b.size
  inside := h.mode == .clearing || (b.valid && b.sec == h.sec)
  lastHeard := received

/-- Learn a holder: last-hold-heard, the claimant list, the holder list (R101). In a full list the
record is left out (R105). A record refreshed keeps its place and a new one stands last (DESIGN CHOICE,
assumption log 37). -/
def learnHolder (h : Holder) (e : ClaimEntry) : ClaimEntry :=
  let e := dropClaimant h.station (e.setHeard h.dir (some h.lastHeard))
  if holdsStation h.station e then
    { e with holders := e.holders.map (fun x => if x.station = h.station then h else x) }
  else if e.holders.length < 8 then { e with holders := e.holders ++ [h] }
  else e

/-- One hold entry of a POSITION is learned (R101, R102); a section without an entry is passed over. -/
def learnHold (station : Nat) (b : Beacon) (received : Time) (h : HoldEntry) (s : State) : State :=
  onEntry h.sec (fun e s =>
    if h.mode.holds then
      let s' := setClaimEntry (learnHolder (Holder.of station b h received) e) s
      if ¬holdsStation station e ∧ e.holders.length ≥ 8 then raise .holderOverflow s' else s'
    else
      setClaimEntry
        (learnClaimant ⟨station, h.dir, true, b.size, received⟩ (dropHolder station e)) s) s

/-- After the hold entries, the source leaves the holder list of every section not named (R102), in
ascending order of section number (DESIGN CHOICE, assumption log 38). -/
def dropOmitted (station : Nat) (b : Beacon) (s : State) : State :=
  onEveryEntry (fun e s =>
    if b.holds.any (fun h => h.sec == e.sec) then s else setClaimEntry (dropHolder station e) s) s

/-- An entry's holder or claimant list has changed. -/
def listsChanged (old : State) (e : ClaimEntry) : Bool :=
  match claimEntry old e.sec with
  | some o => o.holders != e.holders || o.claimants != e.claimants
  | none => false

/-- Review the entries whose lists a telegram has changed (R109), in ascending order of section number
(assumption log 20). -/
def reviewChanged (old : State) (s : State) : State :=
  ((s.clm.entries.filter (listsChanged old)).map (·.sec)).foldl (fun s sec => review sec s) s

/-- CLM takes a POSITION (R101, R102). -/
def clmTakePosition (station : Nat) (b : Beacon) (received : Time) (s : State) : State :=
  reviewChanged s
    (dropOmitted station b (b.holds.foldl (fun s h => learnHold station b received h s) s))

/-- CLM takes a CLAIM (R103). -/
def clmTakeClaim (sec : Nat) (c : Claimant) (s : State) : State :=
  reviewChanged s
    (onEntry sec (fun e s => if holdsStation c.station e then s else setClaimEntry (learnClaimant c e) s) s)

/-- CLM takes a RELEASE (R104). -/
def clmTakeRelease (station : Nat) (secs : List Nat) (s : State) : State :=
  reviewChanged s
    (secs.foldl (fun s sec =>
      onEntry sec (fun e s => setClaimEntry (dropClaimant station (dropHolder station e)) s) s) s)

/-- CLM takes the oldest telegram from its dispatch queue when `f` has a meaning for its matter. -/
def clmTakes (f : Received → Option (State → State)) (s : State) : State :=
  match s.air.clmQueue with
  | [] => s
  | r :: rest =>
    match f r with
    | some g => g (s.setAir { s.air with clmQueue := rest })
    | none => s

/-- CLM_TAKES_POSITION. -/
def execClmTakesPosition (s : State) : StepResult :=
  whileUp s <| clmTakes fun r =>
    match r.telegram.matter with
    | .position b => some (clmTakePosition r.telegram.source b r.time)
    | _ => none

/-- CLM_TAKES_CLAIM. -/
def execClmTakesClaim (s : State) : StepResult :=
  whileUp s <| clmTakes fun r =>
    match r.telegram.matter with
    | .claim sec d waited size => some (clmTakeClaim sec ⟨r.telegram.source, d, waited, size, r.time⟩)
    | _ => none

/-- CLM_TAKES_RELEASE. -/
def execClmTakesRelease (s : State) : StepResult :=
  whileUp s <| clmTakes fun r =>
    match r.telegram.matter with
    | .release secs => some (clmTakeRelease r.telegram.source secs)
    | _ => none

/-- The entry without its lapsed records and last-hold-heard times (R106). -/
def sweepEntry (s : State) (e : ClaimEntry) : ClaimEntry :=
  { e with
    holders := e.holders.filter (fun h => clmFresh s h.lastHeard)
    claimants := e.claimants.filter (fun c => clmFresh s c.received)
    heardAB := e.heardAB.filter (clmFresh s)
    heardBA := e.heardBA.filter (clmFresh s) }

/-- The claim sweep, then a review of the entries (R106, R109), in ascending order of section number
(DESIGN CHOICE, assumption log 38). -/
def sweepClaims (s : State) : State :=
  reviewAll (s.setClm { s.clm with entries := s.clm.entries.map (sweepEntry s), sweep := some 100 })

/-- CLM_SWEEP: the 100 ms sweep timer expires (R106). -/
def execClmSweep (s : State) : StepResult :=
  whileUp s fun s => if runs s.clm.sweep then sweepClaims s else s

/-! ## Windows -/

/-- The window of an entry expires (R113). -/
def closeWindow (e : ClaimEntry) (s : State) : State :=
  match e.state, e.window with
  | .claiming, some w =>
    match evaluate s e w with
    | none => holdEntry e s
    | some c =>
      post .clm .claimWaited (.num e.sec) (.dir e.dir) (.wait c) (setClaimEntry e.toWaiting s)
  | _, _ => s

/-- CLAIM_WINDOW: the window of this section's entry expires while it is CLAIMING; the change of
state is reviewed (R109, R113). -/
def execClaimWindow (sec : Nat) (s : State) : StepResult :=
  whileUp s fun s =>
    if (claimEntry s sec).any (fun e => e.state == .claiming && e.window.isSome) then
      review sec (onEntry sec closeWindow s)
    else s

/-! ## Slot outcomes -/

/-- The own states in which a possibly heard claim is not released (R126). -/
def keepsClaim : ClaimState → Bool
  | .claiming | .holding | .riding | .standoff => true
  | .none | .waiting => false

/-- A RELEASE after a claim that may have been heard (R126). -/
def releaseHeard (sec : Nat) (s : State) : State :=
  onEntry sec (fun e s => if keepsClaim e.state then s else postRelease sec s) s

/-- The CLAIM of a running window is posted once more (R126). -/
def repostClaim (sec : Nat) (s : State) : State :=
  onEntry sec (fun e s =>
    if e.state = .claiming ∧ e.repostUsed = false then
      postClaim e (setClaimEntry { e with repostUsed := true } s)
    else s) s

/-- The effect of an outcome on one claim-post record (R126). -/
def onClaimPost (o : SlotOutcome) (p : ClaimPost) (s : State) : State :=
  match o with
  | .sent => s
  | .cancelled => s
  | .sentDespiteCancel => releaseHeard p.sec s
  | .aborted => if p.cancelled then releaseHeard p.sec s else repostClaim p.sec s

/-- CLM acts on a notice of the CLAIM slot: the records found leave the list first (R126). -/
def onClaimNotice (n : Notice) (s : State) : State :=
  let found := s.clm.posts.filter (fun p => n.numbers.contains p.number)
  found.foldl (fun s p => onClaimPost n.outcome p s)
    (s.setClm { s.clm with posts := s.clm.posts.filter (fun p => !n.numbers.contains p.number) })

/-- CLM_CLAIM_NOTICE (R126). -/
def execClmClaimNotice (s : State) : StepResult := whileUp s (takeNotice .claim onClaimNotice)

/-- CLM_RELEASE_NOTICE: no further action (R127). -/
def execClmReleaseNotice (s : State) : StepResult := whileUp s (takeNotice .release fun _ s => s)

/-! ## What the other blocks read -/

/-- The mode an entry is listed with in the hold list, if it is listed (R100). -/
def listedMode (e : ClaimEntry) : Option HoldMode :=
  match e.state with
  | .holding => some (if e.tail = 0 then .holding else .clearing)
  | .standoff => some (if e.tail = 0 then .holding else .clearing)
  | .riding => some .riding
  | .waiting => some .waiting
  | .none => none
  | .claiming => none

/-- The node's hold list (R100). -/
def holdList (s : State) : List HoldEntry :=
  s.clm.entries.filterMap (fun e => (listedMode e).map (fun m => ⟨e.sec, e.dir, m⟩))

/-- Some entry stands in STANDOFF: the node is the standoff loser (R128). -/
def inStandoff (s : State) : Bool := s.clm.entries.any (fun e => e.state == .standoff)

/-- The stop requirement (R128). -/
inductive StopRequirement
  | none
  /-- STOP_AT_MARK at a distance, which may be negative -/
  | atMark (distance : Int)
  | now
  deriving DecidableEq, Repr

/-- The node is a holder inside with a fresh opposite holder inside (R128). -/
def winnerStops (s : State) (e : ClaimEntry) : Bool :=
  e.state == .holding && insideEntry s e && !(opposingInside s e).isEmpty

/-- Element 1's entry asks for a stop short of it: CLAIMING, WAITING, or a deferred approach (R111,
R128). -/
def stopsShort (s : State) (x : ChainElement) (e : ClaimEntry) : Bool :=
  e.state == .claiming || e.state == .waiting ||
    (approachHolds s x e && decide ((othersActive s x.sec).length ≥ 2))

/-- The stop requirement, computed from the entries, the position record and the chain (R128). -/
def stopRequirement (s : State) : StopRequirement :=
  if inStandoff s then .now
  else if s.clm.entries.any (winnerStops s) then .now
  else match nextElement s, boundary s with
    | some x, some b =>
      if (claimEntry s x.sec).any (stopsShort s x) then
        .atMark ((b : Int) - s.node.settings.stopMargin)
      else .none
    | _, _ => .none

/-- Some own state is not NONE, a wake cause that refuses park (R128, R193). -/
def claimsAnything (s : State) : Bool := s.clm.entries.any (fun e => e.state != .none)

end Sys2Proof.Machine
end

