-- ==== Sys2Proof/Machine/Position.lean ====
section
/-! DEFINITION. Chapter 1's commands: TAG_READ, WHEEL_PULSE and BIN_TIMER. -/

namespace Sys2Proof.Machine

/-- The own section before a change of the position record; none while it had no meaning (R7). -/
def ownSection (s : State) : Option Nat :=
  if s.pos.record.validity = .none then none else some s.pos.record.sec

/-! ## Tags -/

/-- A translated tag is a repeat, is STALE, or is accepted (R8 to R10). CLM makes a position check
on the new record (R109). -/
def tagPlaced (tag : TagNumber) (sec distance : Nat) (s : State) : State :=
  if isRepeat s.pos.record tag then s
  else if isStale s.pos.record s.gov.direction sec distance then raise .stale s
  else
    positionCheck (ownSection s) none
      (s.setPos { s.pos with
        record := acceptTag s.pos.sections s.pos.record s.gov.direction tag sec distance })

/-- A tag read is translated, and counted when it yields no usable place (R4, R5). -/
def tagArrives (tag : TagNumber) (s : State) : State :=
  match translateTag s.pos.windows s.pos.sections tag with
  | .unmapped => raise .unmapped s
  | .badMark => raise .badMark s
  | .place sec distance => tagPlaced tag sec distance s

/-- TAG_READ: discarded in STARTING and UNCONFIGURED (R6). -/
def execTagRead (tag : TagNumber) (s : State) : StepResult :=
  whileUp s fun s => if onLayout s then tagArrives tag s else s

/-! ## Wheel pulses -/

/-- POSITION_LOST with the section, the distance and travel since mark (R16). -/
def postLost (p : Position) (s : State) : State :=
  post .pos .positionLost (.num p.sec) (.num p.distance) (.num p.travel) s

/-- The record after an odometer move, LOST when the lost distance is exceeded (R14 to R16). -/
def movedRecord (s : State) : Position :=
  let p := odometerMove s.pos.sections s.pos.record s.gov.direction s.node.settings.mmPerPulse
  if becomesLost p s.node.settings.lostDistance then { p with validity := .lost } else p

/-- POSITION_LOST is posted when the move makes validity LOST (R16). -/
def noteLost (before : Position) (s : State) : State :=
  if before.validity = .valid ∧ s.pos.record.validity = .lost then postLost s.pos.record s else s

/-- The odometer move of a pulse, and CLM's position check on it (R14, R109, R123). -/
def movePosition (s : State) : State :=
  let mm := pulseMove s.pos.record s.node.settings.mmPerPulse
  positionCheck (some s.pos.record.sec) (some mm)
    (noteLost s.pos.record (s.setPos { s.pos with record := movedRecord s }))

/-- A wheel pulse counts in the current bin in any mode and validity, and moves the record in VALID
and LOST (R14, R17). -/
def pulseArrives (s : State) : State :=
  let s' := s.setPos { s.pos with bins := countPulse s.pos.bins }
  if s.pos.record.validity = .none then s' else movePosition s'

/-- WHEEL_PULSE. -/
def execWheelPulse (s : State) : StepResult := whileUp s pulseArrives

/-! ## The bin timer -/

/-- The bin timer expires: measured speed, still count, bins (R17, R18). -/
def binExpires (s : State) : State :=
  let v := speedOfBins s.pos.bins s.node.settings.mmPerPulse
  s.setPos { s.pos with
    speed := v
    still := if v = 0 then min 25 (s.pos.still + 1) else 0
    bins := rotateBins s.pos.bins
    binTimer := some 20 }

/-- BIN_TIMER (R17). -/
def execBinTimer (s : State) : StepResult :=
  whileUp s fun s => if runs s.pos.binTimer then binExpires s else s

end Sys2Proof.Machine
end

