-- ==== Sys2Proof/Machine/Telegrams.lean ====
section
/-! DEFINITION. Chapter 2's frames: the check byte, the layouts in both directions, and the body test. -/

namespace Sys2Proof.Machine

/-! ## The check byte -/

/-- One shift of the check register (R23). -/
def crcShift (r : Byte) : Byte := if r.msb then (r <<< 1) ^^^ 0x07#8 else r <<< 1

/-- `n` shifts of the check register. -/
def crcShifts : Nat → Byte → Byte
  | 0, r => r
  | n + 1, r => crcShifts n (crcShift r)

/-- The check register takes a byte (R23). -/
def crcByte (r b : Byte) : Byte := crcShifts 8 (r ^^^ b)

/-- The check over a list of bytes, from 0xFF (R23). -/
def crc (bytes : List Byte) : Byte := bytes.foldl crcByte 0xFF#8

/-! ## Building a frame -/

/-- A byte of a given value. -/
def toByte (n : Nat) : Byte := BitVec.ofNat 8 n

/-- A two-byte field, high byte first (R22). -/
def twoBytes (n : Nat) : List Byte := [toByte (n / 256), toByte (n % 256)]

/-- 1 for a set bit. -/
def bit (b : Bool) : Nat := if b then 1 else 0

/-- The code of a facing (2.3). -/
def Facing.code : Facing → Nat
  | .fwd => 0
  | .rev => 1

/-- The code of a direction (2.3). -/
def Dir.code : Dir → Nat
  | .ab => 0
  | .ba => 1

/-- The code of a hold mode (2.3). -/
def HoldMode.code : HoldMode → Nat
  | .holding => 0
  | .riding => 1
  | .waiting => 2
  | .clearing => 3

/-- The code of a halt cause (2.3). -/
def HaltCause.code : HaltCause → Nat
  | .trailerLoss => 1
  | .standoff => 2
  | .intrusion => 3

/-- The kind byte (R24). -/
def Matter.kindCode : Matter → Nat
  | .position _ => 1
  | .claim _ _ _ _ => 2
  | .release _ => 3
  | .halt _ => 4
  | .resume => 5

/-- The form each kind carries: 0 ALL, 2 CONVOY (R24). -/
def formOfKind (kind : Nat) : Nat := if kind = 4 ∨ kind = 5 then 2 else 0

/-- A hold entry as a byte (2.3). -/
def HoldEntry.toByte (h : HoldEntry) : Byte :=
  Machine.toByte (h.sec + 32 * h.dir.code + 64 * h.mode.code)

/-- The flags byte of a POSITION (2.3). -/
def Beacon.flags (b : Beacon) : Nat :=
  bit b.valid + 2 * bit b.parked + 4 * bit b.halted + 8 * bit b.overlength + 16 * bit b.reversing

/-- The body bytes after the header (2.3). -/
def Matter.bytes : Matter → List Byte
  | .position b =>
    [toByte b.flags, toByte b.convoy, toByte b.rank, toByte b.pred, toByte b.size,
      toByte (b.sec + 128 * b.facing.code)] ++ twoBytes b.distance ++ twoBytes b.speed ++
      twoBytes b.length ++ [toByte b.holds.length] ++ b.holds.map HoldEntry.toByte
  | .claim sec dir waited size => [toByte (sec + 32 * dir.code + 64 * bit waited), toByte size]
  | .release secs => toByte secs.length :: secs.map toByte
  | .halt cause => [toByte cause.code]
  | .resume => []

/-- The body of a frame: the common header (R24), then the kind's bytes. -/
def bodyOf (layout : Nat) (t : Telegram) : List Byte :=
  [toByte t.matter.kindCode, toByte layout, toByte t.source,
    toByte (64 * formOfKind t.matter.kindCode + t.number)] ++ t.matter.bytes

/-- The whole frame: length byte, body, check byte (R22). -/
def frameOf (layout : Nat) (t : Telegram) : List Byte :=
  let body := bodyOf layout t
  let covered := toByte body.length :: body
  covered ++ [crc covered]

/-! ## Reading a body -/

/-- The value of a body byte. -/
def byteOf (body : List Byte) (i : Nat) : Nat := (body.getD i 0).toNat

/-- The value of a two-byte field, high byte first (R22). -/
def wordOf (body : List Byte) (i : Nat) : Nat := 256 * byteOf body i + byteOf body (i + 1)

/-- A facing read from its bit. -/
def Facing.ofCode (n : Nat) : Facing := if n = 0 then .fwd else .rev

/-- A direction read from its bit. -/
def Dir.ofCode (n : Nat) : Dir := if n = 0 then .ab else .ba

/-- A hold mode read from its two bits. -/
def HoldMode.ofCode : Nat → HoldMode
  | 0 => .holding
  | 1 => .riding
  | 2 => .waiting
  | _ => .clearing

/-- A hold entry read from its byte (2.3). -/
def HoldEntry.ofByte (b : Byte) : HoldEntry :=
  ⟨b.toNat % 32, Dir.ofCode (b.toNat / 32 % 2), HoldMode.ofCode (b.toNat / 64)⟩

/-- A bit of a body byte. -/
def bitOf (n k : Nat) : Bool := n / 2 ^ k % 2 == 1

/-- A POSITION read from a body, with the tests of R31 on its length and fields. Bits shown as 0 are
ignored (R22). -/
def readPosition (body : List Byte) : Option Matter :=
  let count := byteOf body 16
  let holds := (body.drop 17).map HoldEntry.ofByte
  if body.length < 17 then none
  else if body.length ≠ 17 + count ∨ count > 2 then none
  else if byteOf body 6 > 8 ∨ byteOf body 8 = 0 ∨ byteOf body 8 > 8 then none
  else if byteOf body 5 > 62 ∨ byteOf body 7 > 62 then none
  else if wordOf body 10 > 16383 ∨ wordOf body 12 > 1023 ∨ wordOf body 14 > 4095 then none
  else if ¬(holds.map (·.sec)).Nodup then none
  else some (.position {
    valid := bitOf (byteOf body 4) 0
    parked := bitOf (byteOf body 4) 1
    halted := bitOf (byteOf body 4) 2
    overlength := bitOf (byteOf body 4) 3
    reversing := bitOf (byteOf body 4) 4
    convoy := byteOf body 5
    rank := byteOf body 6
    pred := byteOf body 7
    size := byteOf body 8
    sec := byteOf body 9 % 32
    facing := Facing.ofCode (byteOf body 9 / 128)
    distance := wordOf body 10
    speed := wordOf body 12
    length := wordOf body 14
    holds := holds })

/-- A CLAIM read from a body (R26, R31). -/
def readClaim (body : List Byte) : Option Matter :=
  if body.length ≠ 6 then none
  else if byteOf body 5 = 0 ∨ byteOf body 5 > 8 then none
  else some (.claim (byteOf body 4 % 32) (Dir.ofCode (byteOf body 4 / 32 % 2))
    (bitOf (byteOf body 4) 6) (byteOf body 5))

/-- A RELEASE read from a body (R27, R31). -/
def readRelease (body : List Byte) : Option Matter :=
  let secs := (body.drop 5).map BitVec.toNat
  if body.length < 5 then none
  else if byteOf body 4 = 0 ∨ byteOf body 4 > 2 ∨ body.length ≠ 5 + byteOf body 4 then none
  else if ¬(secs.all (· ≤ 31)) ∨ ¬secs.Nodup then none
  else some (.release secs)

/-- A HALT read from a body (R27, R31). -/
def readHalt (body : List Byte) : Option Matter :=
  if body.length ≠ 5 then none
  else match byteOf body 4 with
    | 1 => some (.halt .trailerLoss)
    | 2 => some (.halt .standoff)
    | 3 => some (.halt .intrusion)
    | _ => none

/-- A RESUME read from a body (R27, R31). -/
def readResume (body : List Byte) : Option Matter :=
  if body.length = 4 then some .resume else none

/-- What a body says, by its kind byte; none when the tests of R31 on length and fields fail. -/
def readMatter (body : List Byte) : Option Matter :=
  match byteOf body 0 with
  | 1 => readPosition body
  | 2 => readClaim body
  | 3 => readRelease body
  | 4 => readHalt body
  | 5 => readResume body
  | _ => none

/-- The telegram in a body, or none when the body test of R31 fails: the form is the kind's, the
source is a station, and the rest reads. -/
def readBody (body : List Byte) : Option Telegram :=
  let dest := byteOf body 3
  if dest / 64 ≠ formOfKind (byteOf body 0) then none
  else if byteOf body 2 = 0 ∨ byteOf body 2 > 62 then none
  else (readMatter body).map (fun m => ⟨byteOf body 2, dest % 64, m⟩)

end Sys2Proof.Machine
end

