-- ==== Sys2Proof/Machine/Receive.lean ====
section
/-! DEFINITION. Chapter 2's receive path: the assembler, the completion checks, the filter list and
dispatch, and the commands RECEIVE_BYTE and BYTE_GAP_TIMEOUT. -/

namespace Sys2Proof.Machine

/-! ## The filter list -/

/-- An enabled element matches a station (R38). -/
def FilterElement.isMatch (e : FilterElement) (station : Nat) : Bool :=
  e.enable &&
    match e.matchType with
    | .range => decide (e.first.toNat ≤ station ∧ station ≤ e.second.toNat)
    | .pair => decide (station = e.first.toNat ∨ station = e.second.toNat)
    | .masked => BitVec.ofNat 6 station &&& e.first == e.second &&& e.first

/-- The filter decision on a source station (R38). -/
def filterDecision (s : State) (station : Nat) : FilterAction :=
  match s.air.filter.find? (·.isMatch station) with
  | some e => e.action
  | none => if s.node.settings.defaultReject then .reject else .accept

/-! ## Dispatch -/

/-- The capacity of each dispatch queue (R36). -/
def dispatchCapacity : Nat := 4

/-- A copy for PEER (R35, R36). -/
def dispatchPeer (r : Received) (d : FilterAction) (s : State) : State :=
  if s.air.peerQueue.length < dispatchCapacity then
    s.setAir { s.air with peerQueue := s.air.peerQueue ++ [(r, d)] }
  else raise .overflow s

/-- A copy for CVY (R35, R36). -/
def dispatchCvy (r : Received) (s : State) : State :=
  if s.air.cvyQueue.length < dispatchCapacity then
    s.setAir { s.air with cvyQueue := s.air.cvyQueue ++ [r] }
  else raise .overflow s

/-- A copy for CLM (R35, R36). -/
def dispatchClm (r : Received) (s : State) : State :=
  if s.air.clmQueue.length < dispatchCapacity then
    s.setAir { s.air with clmQueue := s.air.clmQueue ++ [r] }
  else raise .overflow s

/-- PEER's part of a POSITION, by the filter decision (R35, R39). -/
def dispatchFiltered (r : Received) (s : State) : State :=
  match filterDecision s r.telegram.source with
  | .reject => raise .filteredOut s
  | d => dispatchPeer r d s

/-- Dispatch an accepted telegram by kind (R35). -/
def dispatch (r : Received) (s : State) : State :=
  match r.telegram.matter with
  | .position _ => dispatchClm r (dispatchCvy r (dispatchFiltered r s))
  | .claim _ _ _ _ => dispatchClm r s
  | .release _ => dispatchClm r s
  | .halt _ => dispatchCvy r s
  | .resume => dispatchCvy r s

/-! ## The completion checks -/

/-- The addressing test (R33). No kind carries the form STATION, so that row is not reached. -/
def addressed (s : State) (t : Telegram) : Bool :=
  match t.matter with
  | .halt _ | .resume => t.number != 0 && t.number == s.cvy.convoy
  | _ => true

/-- What the completion checks make of a frame (R30). -/
inductive Verdict
  | drop (cause : CounterId)
  | accepted (t : Telegram)
  deriving DecidableEq, Repr

/-- The completion checks in order (R30). `computed` is the check register over the length byte and
the body, `check` the check byte received. -/
def judge (s : State) (body : List Byte) (computed check : Byte) : Verdict :=
  if computed ≠ check then .drop .check
  else if s.air.layoutCode ≠ some (byteOf body 1) then .drop .layout
  else if byteOf body 0 = 0 ∨ byteOf body 0 > 5 then .drop .kind
  else match readBody body with
    | none => .drop .body
    | some t =>
      if t.source = ownStation s then .drop .self
      else if addressed s t then .accepted t
      else .drop .passed

/-- The first SELF drop after each reset posts STATION_CLASH with the kind of the frame (R32). -/
def noteClash (kind : Nat) (s : State) : State :=
  if s.air.clashPosted then s
  else post .air .stationClash (.num kind) noDetail noDetail (s.setAir { s.air with clashPosted := true })

/-- A complete frame is dropped with a count, or accepted and dispatched (R30). -/
def complete (body : List Byte) (computed check : Byte) (received : Time) (s : State) : State :=
  match judge s body computed check with
  | .accepted t => dispatch ⟨t, received⟩ (raise .accepted s)
  | .drop .self => noteClash (byteOf body 0) (raise .self s)
  | .drop c => raise c s

/-! ## The assembler -/

/-- Set the assembler and its byte-gap timer. -/
def setAssembler (a : Assembler) (gap : Timer) (s : State) : State :=
  s.setAir { s.air with assembler := a, byteGap := gap }

/-- A start-marked byte opens a frame, or is dropped as LENGTH (R28, R29). -/
def openFrame (b : Byte) (s : State) : State :=
  if 4 ≤ b.toNat ∧ b.toNat ≤ 24 then
    setAssembler (.collecting b.toNat [] (crcByte 0xFF#8 b) s.time) (some 5) s
  else raise .length (setAssembler .idle none s)

/-- The assembler takes a byte (R28, R29). -/
def takeByte (start : Bool) (b : Byte) (s : State) : State :=
  match s.air.assembler with
  | .idle => if start then openFrame b s else s
  | .collecting expected bytes check received =>
    if start then openFrame b (raise .length (setAssembler .idle none s))
    else if bytes.length < expected then
      setAssembler (.collecting expected (bytes ++ [b]) (crcByte check b) received) (some 5) s
    else complete bytes check b received (setAssembler .idle none s)

/-- RECEIVE_BYTE. In STARTING and UNCONFIGURED every byte is discarded (R34). -/
def execReceiveByte (start : Bool) (b : Byte) (s : State) : StepResult :=
  whileUp s fun s => if onLayout s then takeByte start b s else s

/-- No byte for 5 ms: the partial frame is dropped as LENGTH (R29). -/
def dropPartial (s : State) : State :=
  match s.air.assembler with
  | .idle => s
  | .collecting _ _ _ _ => raise .length (setAssembler .idle none s)

/-- BYTE_GAP_TIMEOUT: no byte for 5 ms while COLLECTING (R29). -/
def execByteGapTimeout (s : State) : StepResult := whileUp s dropPartial

end Sys2Proof.Machine
end

