-- ==== Sys2Proof/Machine/Operands.lean ====
section
/-! DEFINITION. What the commands' operands say: the class of a pulse by its width, the slot a request
names, and the outcome of a transaction on the trailer line by what is heard of it. -/

namespace Sys2Proof.Machine

/-! ## Pulse measurement -/

/-- The class of a pulse by its width (R152). -/
inductive PulseClass
  | glitch | invalid | valid
  deriving DecidableEq, Repr

/-- Classify a pulse (R152). -/
def classOf (width : Nat) : PulseClass :=
  if width < 20 then .glitch
  else if width < 900 then .invalid
  else if width ≤ 2100 then .valid
  else .invalid

/-- The class of a valid function width (R160). -/
def functionClass (width : Nat) : FnPosition :=
  if width ≤ 1299 then .solo else if width ≤ 1700 then .convoy else .park

/-! ## Slots -/

/-- The slot an operand of ADD_REQUEST names. -/
def supersedingId : SupersedingSlot → SlotId
  | .claim => .claim
  | .halt => .halt

/-! ## The trailer line -/

/-- The outcome of a POLL or ASSIGN for the node (R169). -/
inductive LineOutcome
  | answered (r : TagRecord)
  | silent
  | error
  deriving DecidableEq, Repr

/-- What reaches the node in the answer window: no answer, a spoiled one, or contents. -/
inductive Heard
  | nothing
  | spoiled
  | contents (a : TagAnswer)
  deriving DecidableEq, Repr

/-- The answer of the tag that took the transaction, as it arrives. -/
def hear (answer : Option TagAnswer) : Reception → Heard
  | .asSent => match answer with
    | some a => .contents a
    | none => .nothing
  | .silence => .nothing
  | .spoiled => .spoiled
  | .other a => .contents a

/-- A POLL's answer is well formed: it names the address polled, its length is in range, and for an
assigned address its trailer ID is the chain record's (R169). -/
def pollOutcome (address : Nat) (id : Option TrailerId) : Heard → LineOutcome
  | .nothing => .silent
  | .spoiled => .error
  | .contents a =>
    if a.address = address ∧ 100 ≤ a.record.length ∧ a.record.length ≤ 1500 ∧ id.all (· == a.record.id)
    then .answered a.record
    else .error

/-- An ASSIGN's confirmation is well formed: it names the address carried and the trailer ID of the
discovery answer (R169, R176). -/
def assignOutcome (address : Nat) (r : TagRecord) : Heard → LineOutcome
  | .nothing => .silent
  | .spoiled => .error
  | .contents a => if a.address = address ∧ a.record.id = r.id then .answered r else .error

end Sys2Proof.Machine
end

