-- ==== Sys2Proof/Machine/Driver.lean ====
section
/-! DEFINITION. Chapter 8: the throttle and function channels, the motor output and the lamps, and
their commands. -/

namespace Sys2Proof.Machine

/-! ## The throttle channel -/

/-- The third valid pulse in a row ends the failsafe; of cause SILENCE, with a record (R157). -/
def endFailsafe (width : Nat) (s : State) : State :=
  let s' := s.setDrv { s.drv with failsafe := false, validRun := 0 }
  if s.drv.failsafeCause = .silence then
    post .drv .failsafeEnded (.num width) noDetail noDetail s'
  else s'

/-- A valid throttle pulse (R155). -/
def validThrottle (width : Nat) (s : State) : State :=
  let s' := s.setDrv { s.drv with throttleWidth := width, silence := some 300 }
  if s.drv.failsafe = false then s'
  else if s.drv.validRun < 2 then s'.setDrv { s'.drv with validRun := s.drv.validRun + 1 }
  else endFailsafe width s'

/-- A throttle pulse ends (R152, R153, R155). -/
def throttle (width : Nat) (s : State) : State :=
  match classOf width with
  | .glitch => s
  | .invalid => raise .invalidPulses (s.setDrv { s.drv with validRun := 0 })
  | .valid => validThrottle width s

/-- THROTTLE_PULSE. -/
def execThrottlePulse (width : Nat) (s : State) : StepResult := whileUp s (throttle width)

/-- 300 ms without a valid throttle pulse (R156). -/
def throttleSilent (s : State) : State :=
  if s.drv.failsafe then s.setDrv { s.drv with silence := none, validRun := 0 }
  else
    post .drv .failsafe (.num s.drv.throttleWidth) (.mode s.node.mode) noDetail
      (s.setDrv { s.drv with silence := none, failsafe := true, failsafeCause := .silence, validRun := 0 })

/-- SILENCE_TIMER (R156). -/
def execSilenceTimer (s : State) : StepResult :=
  whileUp s fun s => if runs s.drv.silence then throttleSilent s else s

/-! ## The function channel -/

/-- A change is reported to CVY and to NODE (R162). -/
def reportChange (c : FnChange) (s : State) : State :=
  s.setMail { s.mail with
    cvyChanges := s.mail.cvyChanges ++ [c], nodeChanges := s.mail.nodeChanges ++ [c] }

/-- The position becomes the candidate's class (R160). -/
def confirmFunction (c : FnPosition) (s : State) : State :=
  reportChange ⟨s.drv.position, c⟩ (s.setDrv { s.drv with position := c, candidate := none })

/-- A valid function pulse of this class (R160). -/
def validFunction (c : FnPosition) (s : State) : State :=
  let s' := s.setDrv { s.drv with fnSilence := some 300 }
  if c = s.drv.position then s'.setDrv { s'.drv with candidate := none }
  else if s.drv.candidate ≠ some c then
    s'.setDrv { s'.drv with candidate := some c, candidateSince := s.time }
  else if age s.time s.drv.candidateSince < 300 then s'
  else confirmFunction c s'

/-- A function pulse ends (R152, R153, R160). -/
def functionInput (width : Nat) (s : State) : State :=
  match classOf width with
  | .glitch => s
  | .invalid => raise .invalidPulses s
  | .valid => validFunction (functionClass width) s

/-- FUNCTION_PULSE. -/
def execFunctionPulse (width : Nat) (s : State) : StepResult := whileUp s (functionInput width)

/-- FUNCTION_SILENCE_TIMER: the candidate is dropped (R161). -/
def execFunctionSilenceTimer (s : State) : StepResult :=
  whileUp s fun s =>
    if runs s.drv.fnSilence then s.setDrv { s.drv with candidate := none, fnSilence := none } else s

/-! ## The motor output -/

/-- A pulse of a width begins (R163). -/
def beginPulse (width : Nat) (d : Drv) : Drv := { d with emitting := some ⟨width, width⟩ }

/-- FRAME_TIMER in NEUTRAL: re-arm and begin a 1500 µs pulse (R163). -/
def execFrameTimer (s : State) : StepResult :=
  whileUp s fun s =>
    if s.drv.output = .neutral ∧ runs s.drv.frameTimer then
      s.setDrv (beginPulse 1500 { s.drv with frameTimer := some 20 })
    else s

/-- MOTOR_PULSE_END: the pulse has reached its width (R163), also while the node is held in reset
(R165). -/
def execMotorPulseEnd (s : State) : StepResult := .next (s.setDrv { s.drv with emitting := none })

/-- The governor's hand-over (R164), and the lamps it sets (R166). -/
def motorHandOver (s : State) : State :=
  let g := s.gov
  let d := { s.drv with
    heldWidth := g.width
    output := .governed
    frameTimer := match s.drv.output with
      | .neutral => none
      | .governed => s.drv.frameTimer
    brakeLamp := g.lowered || g.speed == 0
    reverseLamp := g.direction == .reverse }
  s.setDrv (match s.drv.emitting with
    | some _ => d
    | none => beginPulse g.width d)

/-- Leaving RUNNING into PARKED: neutral frames, brake on, reverse off (R165, R166). -/
def motorNeutral (s : State) : State :=
  s.setDrv { s.drv with
    output := .neutral, heldWidth := 1500, frameTimer := some 20, brakeLamp := true, reverseLamp := false }

/-! ## Hazard -/

/-- Hazard: the halt set is not empty, or an entry stands in STANDOFF (R167). -/
def hazard (s : State) : Bool := !haltSetEmpty s.cvy || inStandoff s

/-- The three lamp states as TRL reads them (R167, R180). -/
def lampStates (s : State) : Lamps := ⟨s.drv.brakeLamp, s.drv.reverseLamp, hazard s⟩

end Sys2Proof.Machine
end

