-- ==== Sys2Proof/Machine/Governor.lean ====
section
/-! DEFINITION. Chapter 7: the speed governor's update, from the driver's demand to the motor pulse. -/

namespace Sys2Proof.Machine

/-! ## Driver demand -/

/-- The forward demand of a throttle width (R133). -/
def forwardDemand (g : Settings) (p : Nat) : Nat :=
  if p > g.centreTrim + g.deadband then
    min g.vmax ((p - g.centreTrim - g.deadband) * g.vmax / (500 - g.deadband))
  else 0

/-- The reverse demand of a throttle width (R133). -/
def reverseDemand (g : Settings) (p : Nat) : Nat :=
  if p + g.deadband < g.centreTrim then
    min g.reverseCap ((g.centreTrim - g.deadband - p) * g.reverseCap / (500 - g.deadband))
  else 0

/-- The demands as the governor takes them: 0 while FAILSAFE is active (R134). -/
def demand (f : Settings → Nat → Nat) (s : State) : Nat :=
  if s.drv.failsafe then 0 else f s.node.settings s.drv.throttleWidth

/-! ## The terms -/

/-- A term of the target with its name. -/
structure NamedTerm where
  value : Nat
  name : Term
  deriving DecidableEq, Repr

/-- The first term, by the role (R135). -/
def firstTerm (s : State) : NamedTerm :=
  match s.cvy.role with
  | .solo | .leader => ⟨demand forwardDemand s, .driver⟩
  | .follower => ⟨s.node.settings.vmax, .convoy⟩

/-- The gap term of a rig-ahead answer (R136). -/
def gapValue (g : Settings) (a : AheadAnswer) : Nat :=
  if a.rig.isNone then 1023
  else if a.gap ≤ g.standstillGap then 0
  else min 1023 ((a.gap - g.standstillGap) * 100 / g.headway)

/-- The gap term (R136). -/
def gapTerm (s : State) : NamedTerm := ⟨gapValue s.node.settings (rigAheadAnswer s), .gap⟩

/-- The section cap, with a chain (R137). -/
def sectionTerm (s : State) : Option NamedTerm := (chain s).head?.map (fun x => ⟨x.cap, .sec⟩)

/-- The cap-ahead speed v_next (R138). -/
def capAhead (g : Settings) (cap span : Nat) : Nat := min 1023 (isqrt (cap * cap + 2 * g.accelDown * span))

/-- The cap ahead, with an element 1 (R138). -/
def aheadTerm (s : State) : Option NamedTerm :=
  match nextElement s, boundary s with
  | some x, some b => some ⟨capAhead s.node.settings x.cap b, .aheadCap⟩
  | _, _ => none

/-- The stop term of a stop requirement; a negative distance counts as 0 (R139). -/
def stopValue (g : Settings) : StopRequirement → Option Nat
  | .none => none
  | .atMark d => some (isqrt (2 * g.accelDown * d.toNat))
  | .now => some 0

/-- The stop term (R139). -/
def stopTerm (s : State) : Option NamedTerm :=
  (stopValue s.node.settings (stopRequirement s)).map (fun v => ⟨v, .stop⟩)

/-- No POSITION has been sent since reset, or the last one over 400 ms ago (R140); every age above
32767 is above 400. -/
def beaconOverdue (s : State) : Bool := s.air.lastBeacon.all (fun t => decide (age s.time t > 400))

/-- The first crawl condition that holds, in the table's order (R140). -/
def crawlCause (s : State) : Option CrawlCause :=
  if s.pos.record.validity ≠ .valid then some .position
  else if beaconOverdue s then some .beacon
  else if s.trl.overlength then some .overlength
  else none

/-- The crawl term (R140). -/
def crawlTerm (s : State) : Option NamedTerm :=
  (crawlCause s).map (fun _ => ⟨s.node.settings.crawlCap, .crawl⟩)

/-- The terms that apply, in the order in which equal ones are named (R142). -/
def forwardTerms (s : State) : List NamedTerm :=
  firstTerm s :: gapTerm s ::
    ((sectionTerm s).toList ++ (aheadTerm s).toList ++ (stopTerm s).toList ++ (crawlTerm s).toList)

/-- The smallest term of a list after `best`; of equal ones the first (R142). -/
def smallestTerm (best : NamedTerm) : List NamedTerm → NamedTerm
  | [] => best
  | t :: ts => smallestTerm (if t.value < best.value then t else best) ts

/-- The forward target with its limiting term (R141, R142). -/
def forwardTarget (s : State) : NamedTerm :=
  if haltSetEmpty s.cvy then smallestTerm (firstTerm s) (forwardTerms s).tail else ⟨0, .halt⟩

/-! ## Reverse -/

/-- Reverse permission (R143). -/
def reversePermission (s : State) : Bool :=
  (s.cvy.role == .solo && haltSetEmpty s.cvy) || inStandoff s

/-- The direction for this update (R143). -/
def updateDirection (s : State) : Travel :=
  if s.gov.speed = 0 then
    if demand reverseDemand s ≠ 0 ∧ reversePermission s then .reverse else .forward
  else s.gov.direction

/-- The reverse target with its limiting term (R144). Where two lines of R144's table or its prose
compete, the halt set decides: without permission and with the halt set not empty the term is HALT,
also at a reverse demand of 0, and also for a standoff loser that has backed out, which then stops at
the brake step (DESIGN CHOICE, assumption log 33). -/
def reverseTarget (s : State) : NamedTerm :=
  let d := demand reverseDemand s
  if reversePermission s then
    if d ≠ 0 ∧ ((crawlCause s).isSome ∨ inStandoff s) ∧ s.node.settings.crawlCap < d then
      ⟨s.node.settings.crawlCap, .crawl⟩
    else ⟨d, .driver⟩
  else if haltSetEmpty s.cvy then ⟨0, .driver⟩
  else ⟨0, .halt⟩

/-- The target of this update in its direction. -/
def targetOf (s : State) : NamedTerm :=
  match updateDirection s with
  | .forward => forwardTarget s
  | .reverse => reverseTarget s

/-! ## The rate limit and the motor width -/

/-- A step of the rate limit from a rate in mm/s² (R145). -/
def rateStep (rate : Nat) : Nat := max 1 (rate * 20 / 1000)

/-- The terms that brake (R146). -/
def Term.brakes : Term → Bool
  | .gap | .stop | .halt => true
  | .driver | .convoy | .sec | .aheadCap | .crawl => false

/-- The new commanded speed (R146). -/
def limitedSpeed (g : Gov) (target : NamedTerm) : Nat :=
  if g.speed < target.value then min target.value (g.speed + g.stepUp)
  else max target.value (g.speed - (if target.name.brakes then g.stepBrake else g.stepDown))

/-- The motor width (R147). -/
def motorWidth (g : Settings) (v : Nat) : Travel → Nat
  | .forward => if v = 0 then 1500 else clampTo 1000 2000 (1500 + g.escStart + v * g.escGain / 256)
  | .reverse => if v = 0 then 1500 else clampTo 1000 2000 (1500 - g.escStart - v * g.escGain / 256)

/-- The governor's record after an update made in a state (R146). -/
def governed (s : State) : Gov :=
  let target := targetOf s
  let v := limitedSpeed s.gov target
  let d := updateDirection s
  { s.gov with
    speed := v
    direction := d
    lastTarget := target.value
    limiting := some target.name
    lowered := decide (target.value < s.gov.speed)
    crawl := (crawlCause s).isSome
    width := motorWidth s.node.settings v d
    timer := some 20 }

/-- CRAWL_ON when crawl in force changes from no to yes (R140). -/
def noteCrawl (s : State) : State :=
  match crawlCause s with
  | some c => if s.gov.crawl then s else post .gov .crawlOn (.crawl c) noDetail noDetail s
  | none => s

/-- One governor update: the role check, the computation, the hand-over to DRV (R79, R132). -/
def governorStep (s : State) : State :=
  let s₁ := roleCheck s
  motorHandOver ((noteCrawl s₁).setGov (governed s₁))

/-- GOVERNOR_UPDATE: the update timer expires in RUNNING (R131). -/
def execGovernorUpdate (s : State) : StepResult :=
  whileUp s fun s => if s.node.mode = .running ∧ runs s.gov.timer then governorStep s else s

/-- Leaving RUNNING into PARKED (R131). -/
def governorParked (g : Gov) : Gov :=
  { g with direction := .forward, lowered := false, crawl := false, width := 1500, timer := none }

/-- Crawl in force as GOV reports it: yes throughout UNCONFIGURED (R131). -/
def crawlReported (s : State) : Bool := s.gov.crawl || s.node.mode == .unconfigured

end Sys2Proof.Machine
end

