-- ==== Sys2Proof/Machine/Image.lean ====
section
/-! DEFINITION. The settings image (chapter 10): its fields, the structural checks of R187, and the
values brought into range by R188. -/

namespace Sys2Proof.Machine

/-! ## Fields -/

/-- A byte of the image. -/
def imageByte (img : List Byte) (i : Nat) : Nat := (img.getD i 0).toNat

/-- A two-byte field of the image, high byte first. -/
def imageWord (img : List Byte) (i : Nat) : Nat := 256 * imageByte img i + imageByte img (i + 1)

/-- The place of section entry i. -/
def sectionPlace (i : Nat) : Nat := 49 + 9 * i

/-- The place of window j. -/
def windowPlace (j : Nat) : Nat := 337 + 7 * j

/-- The place of filter element k. -/
def filterPlace (k : Nat) : Nat := 379 + 5 * k

/-- The kind code of section entry i. -/
def kindCode (img : List Byte) (i : Nat) : Nat := imageByte img (sectionPlace i)

/-- The link bytes of section entry i: next_fwd, next_rev. -/
def linkBytes (img : List Byte) (i : Nat) : List Nat :=
  [imageByte img (sectionPlace i + 7), imageByte img (sectionPlace i + 8)]

/-! ## Structural checks -/

/-- The sum of bytes 0..418 modulo 65536. -/
def imageSum (img : List Byte) : Nat := ((img.take 419).map BitVec.toNat).sum % 65536

/-- A link byte at fault: in 32..254, or naming an ABSENT entry (R187). -/
def linkAtFault (img : List Byte) (l : Nat) : Bool :=
  decide (32 ≤ l ∧ l ≤ 254) || (decide (l < 32) && kindCode img l == 0)

/-- A section entry at fault (R187, check 5). -/
def sectionAtFault (img : List Byte) (i : Nat) : Bool :=
  decide (kindCode img i > 3) || (kindCode img i != 0 && (linkBytes img i).any (linkAtFault img))

/-- A SINGLE entry of the image. -/
def singleInImage (img : List Byte) (i : Nat) : Bool := kindCode img i == 2

/-- Section t is a neighbour of section s: a link of one names the other (R2). -/
def neighbours (img : List Byte) (s t : Nat) : Bool :=
  (linkBytes img s).contains t || (linkBytes img t).contains s

/-- A SINGLE entry with a SINGLE neighbour, itself included when it links to itself (R2). -/
def adjacentSingle (img : List Byte) (s : Nat) : Bool :=
  singleInImage img s && (List.range 32).any (fun t => singleInImage img t && neighbours img s t)

/-- The number of SINGLE entries. -/
def singleCount (img : List Byte) : Nat := ((List.range 32).filter (singleInImage img)).length

/-- The structural checks 2 to 7 of R187 in order: the first that fails, with its detail. -/
def structuralFault (img : List Byte) : Option (FaultCause × Nat) :=
  if imageSum img ≠ imageWord img 419 then some (.sum, imageSum img)
  else if imageByte img 0 ≠ 1 ∨ imageWord img 1 ≠ 421 then some (.format, imageByte img 0)
  else if imageByte img 4 = 0 ∨ imageByte img 4 > 62 then some (.station, imageByte img 4)
  else match (List.range 32).find? (sectionAtFault img) with
    | some i => some (.sec, i)
    | none =>
      if singleCount img > 8 then some (.singleCount, singleCount img)
      else match (List.range 32).find? (adjacentSingle img) with
        | some i => some (.singleAdjacent, i)
        | none => none

/-! ## Values brought into range -/

/-- A setting as it was read and as it is used, with its index in the image (R188). -/
structure Taken where
  index : Nat
  read : Nat
  used : Nat
  deriving DecidableEq, Repr

/-- A one-byte setting with a numeric range. -/
def takeByteIn (img : List Byte) (i lo hi : Nat) : Taken := ⟨i, imageByte img i, clampTo lo hi (imageByte img i)⟩

/-- A two-byte setting with a numeric range. -/
def takeWordIn (img : List Byte) (i lo hi : Nat) : Taken := ⟨i, imageWord img i, clampTo lo hi (imageWord img i)⟩

/-- The break gap: its own clamp, then raised to join gap + 300 (R82, R188). -/
def takeBreakGap (img : List Byte) : Taken :=
  ⟨39, imageWord img 39,
    max (clampTo 500 6000 (imageWord img 39)) ((takeWordIn img 37 300 3000).used + 300)⟩

/-- The default filter action: above 1 is ADMIT (R188). -/
def takeDefaultAction (img : List Byte) : Taken :=
  ⟨47, imageByte img 47, if imageByte img 47 > 1 then 0 else imageByte img 47⟩

/-- The settings of the rig, governor and air blocks, in order of index. -/
def settingsTaken (img : List Byte) : List Taken :=
  [takeWordIn img 5 150 1500, takeByteIn img 7 0 100, takeWordIn img 8 0 1500,
    takeByteIn img 10 8 255, takeWordIn img 11 1000 8000,
    takeWordIn img 13 1450 1550, takeByteIn img 15 10 60, takeWordIn img 16 100 1023,
    takeWordIn img 18 40 300, takeWordIn img 20 50 400, takeByteIn img 22 20 200,
    takeWordIn img 23 50 1000, takeWordIn img 25 50 1500, takeWordIn img 27 200 3000,
    takeByteIn img 29 40 200, takeByteIn img 30 0 200, takeWordIn img 31 16 1023,
    takeByteIn img 33 50 250, takeByteIn img 34 0 3, takeWordIn img 35 300 3000,
    takeWordIn img 37 300 3000, takeBreakGap img, takeWordIn img 41 600 4000,
    takeWordIn img 43 100 1000, takeWordIn img 45 30 300, takeDefaultAction img,
    takeByteIn img 48 0 16]

/-- The three numeric settings of section entry i; an ABSENT entry's are not read (R188). -/
def sectionTaken (img : List Byte) (i : Nat) : List Taken :=
  if kindCode img i = 0 then []
  else [takeWordIn img (sectionPlace i + 1) 256 16383, takeWordIn img (sectionPlace i + 3) 50 1000,
    takeWordIn img (sectionPlace i + 5) 40 1023]

/-- The two settings of window j that have a range. -/
def windowTaken (img : List Byte) (j : Nat) : List Taken :=
  [takeByteIn img (windowPlace j + 5) 0 31, takeByteIn img (windowPlace j + 6) 0 6]

/-- The record of a filter element whose match type or action names nothing (R37, R188). -/
def filterTaken (img : List Byte) (k : Nat) : List Taken :=
  if imageByte img (filterPlace k + 1) > 2 then
    [⟨filterPlace k + 1, imageByte img (filterPlace k + 1), 0⟩]
  else if imageByte img (filterPlace k + 4) > 3 then
    [⟨filterPlace k + 4, imageByte img (filterPlace k + 4), 0⟩]
  else []

/-- Every setting of the image in order of index (R188). -/
def takenAll (img : List Byte) : List Taken :=
  settingsTaken img ++ (List.range 32).flatMap (sectionTaken img) ++
    (List.range 6).flatMap (windowTaken img) ++ (List.range 8).flatMap (filterTaken img)

/-- The settings whose value used differs from the value read: each posts one record (R188). -/
def clamped (img : List Byte) : List Taken := (takenAll img).filter (fun t => t.used != t.read)

/-- The value used of the setting at an index. -/
def usedAt (ts : List Taken) (i : Nat) : Nat := ((ts.find? (fun t => t.index == i)).map (·.used)).getD 0

/-- The settings in use after a sound load (R188). -/
def settingsOf (img : List Byte) : Settings :=
  let u := usedAt (settingsTaken img)
  { tractorLength := u 5
    couplingGap := u 7
    overlengthAllowance := u 8
    mmPerPulse := u 10
    lostDistance := u 11
    centreTrim := u 13
    deadband := u 15
    vmax := u 16
    reverseCap := u 18
    standstillGap := u 20
    headway := u 22
    accelUp := u 23
    accelDown := u 25
    accelBrake := u 27
    crawlCap := u 29
    escStart := u 30
    escGain := u 31
    beaconInterval := u 33
    contentionCode := u 34
    peerLapse := u 35
    joinGap := u 37
    breakGap := u 39
    approachDistance := u 41
    claimWindow := u 43
    stopMargin := u 45
    defaultReject := u 47 == 1
    watermark := u 48 }

/-! ## The tables -/

/-- A link byte: 0..31 names a section, 255 is END. -/
def linkOf (l : Nat) : Option Nat := if l < 32 then some l else none

/-- Section entry i of a sound image (R1). -/
def sectionOf (img : List Byte) (i : Nat) : SectionEntry :=
  let entry := fun (k : SectionKind) =>
    let u := usedAt (sectionTaken img i)
    (⟨k, u (sectionPlace i + 1), u (sectionPlace i + 3), u (sectionPlace i + 5),
      linkOf (imageByte img (sectionPlace i + 7)), linkOf (imageByte img (sectionPlace i + 8))⟩ : SectionEntry)
  match kindCode img i with
  | 1 => entry .road
  | 2 => entry .single
  | 3 => entry .yard
  | _ => SectionEntry.absent

/-- Window j of a sound image; base and mask are cut to 12 bits (R3). -/
def windowOf (img : List Byte) (j : Nat) : TagWindow where
  enable := imageByte img (windowPlace j) != 0
  base := BitVec.ofNat 12 (imageWord img (windowPlace j + 1))
  mask := BitVec.ofNat 12 (imageWord img (windowPlace j + 3))
  sectionBase := usedAt (windowTaken img j) (windowPlace j + 5)
  markBits := usedAt (windowTaken img j) (windowPlace j + 6)

/-- Filter element k of a sound image; parameters are cut to 6 bits, and a code that names nothing
disables the element (R37). -/
def filterOf (img : List Byte) (k : Nat) : FilterElement :=
  let p := filterPlace k
  if (filterTaken img k).isEmpty then
    { enable := imageByte img p != 0
      matchType := match imageByte img (p + 1) with
        | 0 => .range
        | 1 => .pair
        | _ => .masked
      first := BitVec.ofNat 6 (imageByte img (p + 2))
      second := BitVec.ofNat 6 (imageByte img (p + 3))
      action := match imageByte img (p + 4) with
        | 0 => .accept
        | 1 => .pin
        | 2 => .reject
        | _ => .watch }
  else FilterElement.disabled

end Sys2Proof.Machine
end

