-- ==== Sys2Proof/Machine/Trailers.lean ====
section
/-! DEFINITION. Chapter 9: the tags on the trailer line, the poll cycle, hitching, loss, the lamp
step, and their commands. -/

namespace Sys2Proof.Machine

/-! ## The tags -/

/-- The tag that answers at an address: the reachable ASSIGNED tag there, or for address 0 the first
UNASSIGNED one. An UNASSIGNED tag's open switch cuts off every tag behind it (R168). -/
def tagAnswering : List Tag → Nat → Option Tag
  | [], _ => none
  | t :: ts, a =>
    match t.address with
    | none => if a = 0 then some t else none
    | some k => if k = a then some t else tagAnswering ts a

/-- The reachable UNASSIGNED tag takes an ASSIGN (R169). -/
def assignTag (address : Nat) : List Tag → List Tag
  | [] => []
  | t :: ts =>
    match t.address with
    | none => { t with address := some address } :: ts
    | some _ => t :: assignTag address ts

/-- The reachable ASSIGNED tag at an address takes a FORGET (R169). -/
def forgetTag (address : Nat) : List Tag → List Tag
  | [] => []
  | t :: ts =>
    match t.address with
    | none => t :: ts
    | some k => if k = address then Tag.fresh t.record :: ts else t :: forgetTag address ts

/-- Every reachable tag takes a LAMP (R169). -/
def lampTags (l : Lamps) : List Tag → List Tag
  | [] => []
  | t :: ts =>
    match t.address with
    | none => { t with lamps := l } :: ts
    | some _ => { t with lamps := l } :: lampTags l ts

/-- TRL sends FORGET to an address. -/
def sendForget (address : Nat) (s : State) : State := s.setLine (forgetTag address s.line)

/-- FORGET to addresses 4, 3, 2 and 1, on leaving STARTING (R171). -/
def forgetAll (s : State) : State := sendForget 1 (sendForget 2 (sendForget 3 (sendForget 4 s)))

/-- A tag's brake lamp, reverse lamp and hazard lights, for a trailer that carries lamps (R169). -/
def Tag.shows (t : Tag) : Lamps := if t.record.lamp then t.lamps else Lamps.dark

/-- A tag's trailer brake is applied (R169). -/
def Tag.brakes (t : Tag) : Bool := t.record.braked && t.lamps.brake

/-! ## Outcomes on the line -/

/-- The answer a tag gives to a POLL of an address. -/
def pollAnswer (line : List Tag) (address : Nat) : Option TagAnswer :=
  (tagAnswering line address).map (fun t => ⟨address, t.record⟩)

/-- Each error raises the trailer-line errors counter (R169). -/
def countError (o : LineOutcome) (s : State) : State :=
  match o with
  | .error => raise .lineErrors s
  | .answered _ => s
  | .silent => s

/-! ## The cycle -/

/-- Set the step of the poll cycle. -/
def setCycle (c : Cycle) (s : State) : State := s.setTrl { s.trl with cycle := c }

/-- Set the chain. -/
def setChain (c : List TrailerRecord) (s : State) : State := s.setTrl { s.trl with chain := c }

/-- The cycle interval of the mode in force (R171). -/
def cycleInterval (s : State) : Nat := if s.node.mode = .parked then 1000 else 200

/-- The cycle timer expires: re-arm, and begin a cycle if none is in progress (R171, R172). -/
def beginCycle (s : State) : State :=
  let s' := s.setTrl { s.trl with timer := some (cycleInterval s) }
  if s.trl.cycle = .idle then
    setCycle (if s.trl.chain.isEmpty then .discovering else .polling 1) s'
  else s'

/-- CYCLE_TIMER. -/
def execCycleTimer (s : State) : StepResult :=
  whileUp s fun s => if runs s.trl.timer then beginCycle s else s

/-! ## Polls, loss and popping -/

/-- The rig is stationary (R18, R175). -/
def stationary (s : State) : Bool := s.pos.still == 25

/-- Take the top record off the chain: FORGET to its address, and TRAILER_DROPPED when the rig is
stationary (R174, R175). -/
def popTop (still : Bool) (s : State) : State :=
  match s.trl.chain.getLast? with
  | none => s
  | some r =>
    let address := s.trl.chain.length
    let s' := sendForget address (setChain s.trl.chain.dropLast s)
    if still then post .trl .trailerDropped (.num address) (.num r.record.id.toNat) noDetail s' else s'

/-- The last record of a pop has gone: the loss decision is taken once, for a rig that was not
stationary, and the cycle goes on to discovery (R173, R175). -/
def popEnds (lost : Nat) (still : Bool) (id : TrailerId) (count : Nat) (s : State) : State :=
  let s' := setCycle .discovering s
  if still then s'
  else
    postCause .trl true .trailerLoss
      (post .trl .trailerLoss (.num lost) (.num id.toNat) (.num count) s')

/-- The removals of a pop, top down, with `n` records to go. Each is one change, and another block may
read between two of them (R174, R182): a free value says whether the pop goes on at once or is left
part-way (assumption log 35). -/
def popOn (lost : Nat) (still : Bool) (id : TrailerId) (count : Nat) : Nat → State → State
  | 0, s => popEnds lost still id count s
  | 1, s => popEnds lost still id count (popTop still s)
  | n + 2, s =>
    let s' := popTop still s
    let drawn := s'.setDraws (s'.draws + 1)
    if Config.freeFlag s'.draws then setCycle (.popping lost still id count) drawn
    else popOn lost still id count (n + 1) drawn

/-- A pop from the lost address k begins: every record at k and above goes. The still count is read
once, now (R174, R175). -/
def popFrom (k : Nat) (id : TrailerId) (s : State) : State :=
  let n := s.trl.chain.length + 1 - k
  popOn k (stationary s) id n n s

/-- A pop that was left part-way goes on; with none part-way nothing happens. -/
def popResumes (s : State) : State :=
  match s.trl.cycle with
  | .popping lost still id count => popOn lost still id count (s.trl.chain.length + 1 - lost) s
  | _ => s

/-- Set missed of the record at an address. -/
def setMissed (k m : Nat) (s : State) : State :=
  setChain (s.trl.chain.modify (k - 1) (fun r => { r with missed := m })) s

/-- The next step after a POLL of address k (R172, R173). -/
def afterPoll (k : Nat) (s : State) : State :=
  setCycle (if k < s.trl.chain.length then .polling (k + 1) else .discovering) s

/-- A POLL of the assigned address k ends (R173). -/
def pollEnds (k : Nat) (r : TrailerRecord) (o : LineOutcome) (s : State) : State :=
  match o with
  | .answered _ => afterPoll k (setMissed k 0 s)
  | _ =>
    let s' := setMissed k (r.missed + 1) (countError o s)
    if r.missed + 1 < 3 then afterPoll k s' else popFrom k r.record.id s'

/-- The answer window of the POLL under way closes; with none under way nothing happens. -/
def pollWindow (r : Reception) (s : State) : State :=
  match s.trl.cycle with
  | .polling k =>
    match s.trl.chain[k - 1]? with
    | some t => pollEnds k t (pollOutcome k (some t.record.id) (hear (pollAnswer s.line k) r)) s
    | none => setCycle .discovering s
  | _ => s

/-- POLL (R173). -/
def execPoll (r : Reception) (s : State) : StepResult := whileUp s (pollWindow r)

/-! ## The lamp step -/

/-- Some record in the chain has braked or lamp set (R180). -/
def lampTrailers (s : State) : Bool := s.trl.chain.any (fun r => r.record.braked || r.record.lamp)

/-- The lamp step (R180), after which the cycle is idle. -/
def lampStep (s : State) : State :=
  let l := lampStates s
  let s' := setCycle .idle s
  if lampTrailers s && (s.trl.lastLamps != some l || s.trl.refresh) then
    (s'.setTrl { s'.trl with lastLamps := some l, refresh := false }).setLine (lampTags l s.line)
  else s'

/-! ## Discovery and hitching -/

/-- The lowest address whose record carries a trailer ID (R177). -/
def addressOf (chain : List TrailerRecord) (id : TrailerId) : Option Nat :=
  (chain.findIdx? (fun r => r.record.id == id)).map (· + 1)

/-- An answered discovery poll ends the row of silent ones while OVERLENGTH is set (R170, R176). -/
def breakSilence (s : State) : State :=
  if s.trl.overlength then s.setTrl { s.trl with silent := 0 } else s

/-- A discovery poll answered while the chain is full by a tag not in it (R178). -/
def tooLong (r : TagRecord) (s : State) : State :=
  let s' := s.setTrl { s.trl with overlength := true, silent := 0 }
  if s.trl.overlength then s'
  else post .trl .overlength (.num r.id.toNat) (.num r.length) noDetail s'

/-- A silent discovery poll (R179). -/
def silentDiscovery (s : State) : State :=
  if s.trl.overlength then
    if s.trl.silent + 1 < 3 then s.setTrl { s.trl with silent := s.trl.silent + 1 }
    else s.setTrl { s.trl with overlength := false, silent := 0 }
  else s

/-- The POLL to address 0 ends (R176 to R179). -/
def discoveryEnds (o : LineOutcome) (s : State) : State :=
  match o with
  | .answered r =>
    match addressOf s.trl.chain r.id with
    | some k => setCycle (.assigning k r true) (breakSilence s)
    | none =>
      if s.trl.chain.length < 4 then
        setCycle (.assigning (s.trl.chain.length + 1) r false) (breakSilence s)
      else lampStep (tooLong r s)
  | .silent => lampStep (silentDiscovery s)
  | .error => lampStep (countError .error s)

/-- The answer window of the POLL to address 0 closes; with none under way nothing happens. -/
def discoveryWindow (r : Reception) (s : State) : State :=
  match s.trl.cycle with
  | .discovering => discoveryEnds (pollOutcome 0 none (hear (pollAnswer s.line 0) r)) s
  | _ => s

/-- DISCOVERY. -/
def execDiscovery (r : Reception) (s : State) : StepResult := whileUp s (discoveryWindow r)

/-- A new record is pushed on the chain (R176). -/
def pushTrailer (r : TagRecord) (s : State) : State :=
  let address := s.trl.chain.length + 1
  post .trl .trailerCoupled (.num address) (.num r.id.toNat) (.num r.length)
    (s.setTrl { s.trl with
      chain := s.trl.chain ++ [⟨r, 0⟩], refresh := s.trl.refresh || r.braked || r.lamp })

/-- An ASSIGN ends: push or re-address on answered, FORGET otherwise (R176, R177). -/
def assignEnds (address : Nat) (r : TagRecord) (rejoin : Bool) (o : LineOutcome) (s : State) : State :=
  match o with
  | .answered _ => lampStep (if rejoin then setMissed address 0 s else pushTrailer r s)
  | _ => lampStep (sendForget address (countError o s))

/-- The confirmation of the tag that takes an ASSIGN: the new address and its trailer ID (R169). -/
def assignAnswer (line : List Tag) (address : Nat) : Option TagAnswer :=
  (tagAnswering line 0).map (fun t => ⟨address, t.record⟩)

/-- The answer window of the ASSIGN under way closes: the reachable UNASSIGNED tag has taken it (R169).
With none under way nothing happens. -/
def assignWindow (r : Reception) (s : State) : State :=
  match s.trl.cycle with
  | .assigning address rec rejoin =>
    assignEnds address rec rejoin (assignOutcome address rec (hear (assignAnswer s.line address) r))
      (s.setLine (assignTag address s.line))
  | _ => s

/-- ASSIGN. -/
def execAssign (r : Reception) (s : State) : StepResult := whileUp s (assignWindow r)

/-! ## Gaining and losing the line -/

/-- A tag gains the line: a trailer hitched behind the last, or a tag that comes back from a
brown-out in its place (R168). -/
def gainLine (g : TagGain) (line : List Tag) : List Tag :=
  match g with
  | .hitched r => line ++ [Tag.fresh r]
  | .recovered place => line.modify place (fun t => Tag.fresh t.record)

/-- TAG_GAINS_LINE. The tags are outside the node, so this happens whatever the node does. A trailer
that cannot have been built is refused. -/
def execTagGainsLine (g : TagGain) (s : State) : StepResult :=
  if (Instr.tagGainsLine g).wellFormed then .next (s.setLine (gainLine g s.line))
  else .refused (.illFormed "TAG_GAINS_LINE")

/-- TAG_LOSES_LINE: every tag behind the parted coupling loses the line and its state (R168). -/
def execTagLosesLine (place : Nat) (s : State) : StepResult := .next (s.setLine (s.line.take place))

end Sys2Proof.Machine
end

