-- ==== Sys2Proof/Machine/Transmit.lean ====
section
/-! DEFINITION. Chapter 3: the transmit slots, add and cancel requests, hand-over and completion, the
beacon timer, channel access and the backoff generator, and their commands. -/

namespace Sys2Proof.Machine

/-! ## Slots -/

/-- A slot of AIR. -/
def Air.slot (a : Air) : SlotId → Slot
  | .halt => a.haltSlot
  | .release => a.releaseSlot
  | .claim => a.claimSlot
  | .position => a.positionSlot

/-- Replace a slot of AIR. -/
def Air.setSlot (a : Air) (id : SlotId) (x : Slot) : Air :=
  match id with
  | .halt => { a with haltSlot := x }
  | .release => { a with releaseSlot := x }
  | .claim => { a with claimSlot := x }
  | .position => { a with positionSlot := x }

/-- Replace a slot. -/
def setSlot (id : SlotId) (x : Slot) (s : State) : State := s.setAir (s.air.setSlot id x)

/-- The order of hand-over (R57). -/
def slotOrder : List SlotId := [.halt, .release, .claim, .position]

/-- Some slot is PENDING. -/
def anyPending (s : State) : Bool := slotOrder.any (fun id => (s.air.slot id).state == .pending)

/-- The request numbers of an answered set. -/
def numbersOf (rs : List Numbered) : List Nat := rs.map (·.number)

/-! ## Channel access -/

/-- An attempt begins: the count is undrawn, access is SENSING, and the quiet timer starts if the
carrier is absent (R56). -/
def beginAttempt (s : State) : State :=
  s.setAir { s.air with
    access := .sensing, drawn := false, count := 0, countdown := none,
    quiet := if s.air.carrier then none else some 2 }

/-- A slot has become PENDING: an attempt begins while access is IDLE (R56). -/
def wakeAccess (s : State) : State := if s.air.access = .idle then beginAttempt s else s

/-- The attempt ends and access goes IDLE (R57). -/
def endAttempt (s : State) : State :=
  s.setAir { s.air with access := .idle, drawn := false, count := 0, quiet := none, countdown := none }

/-- A transmission has ended: a new attempt with a slot PENDING, IDLE otherwise (R50). -/
def afterTransmission (s : State) : State := if anyPending s then beginAttempt s else endAttempt s

/-! ## Taking requests -/

/-- AIR gives the request it takes the next number of the slot (R42). -/
def takeNumber (id : SlotId) (s : State) : State :=
  let x := s.air.slot id
  setSlot id { x with counter := (x.counter + 1) % 256 } s

/-- A CANCELLED notice, for a non-empty set of requests. -/
def notifyCancelled (id : SlotId) (content : Option Content) (numbers : List Nat) (s : State) : State :=
  if numbers.isEmpty then s else notify id ⟨.cancelled, numbers, content⟩ s

/-- An add request to the CLAIM or HALT slot, by the slot's state (R44). -/
def addSuperseding (id : SlotId) (c : Content) (n : Nat) (s : State) : State :=
  let x := s.air.slot id
  match x.state with
  | .empty =>
    wakeAccess (setSlot id { x with state := .pending, content := some c, answered := [⟨n, none⟩] } s)
  | .pending =>
    notifyCancelled id x.content (numbersOf x.answered)
      (setSlot id { x with content := some c, answered := [⟨n, none⟩] } s)
  | .onAir =>
    let s' := setSlot id { x with reload := some ⟨c, [⟨n, none⟩]⟩ } s
    match x.reload with
    | some r => notifyCancelled id (some r.content) (numbersOf r.answered) s'
    | none => s'

/-- The sections of a RELEASE content. -/
def releaseSections : Option Content → List Nat
  | some (.release secs) => secs
  | _ => []

/-- A section joins the reload of the RELEASE slot; the older section of a full one is displaced and
its requests receive CANCELLED (R45, R46). -/
def addToReload (x : Slot) (sec n : Nat) (s : State) : State :=
  let req : Numbered := ⟨n, some sec⟩
  match x.reload with
  | none => setSlot .release { x with reload := some ⟨.release [sec], [req]⟩ } s
  | some r =>
    let secs := releaseSections (some r.content)
    if secs.contains sec then
      setSlot .release { x with reload := some ⟨r.content, r.answered ++ [req]⟩ } s
    else if secs.length < 2 then
      setSlot .release { x with reload := some ⟨.release (secs ++ [sec]), r.answered ++ [req]⟩ } s
    else
      let oldest := secs.headD 0
      let stay := r.answered.filter (fun q => q.sec != some oldest)
      let gone := r.answered.filter (fun q => q.sec == some oldest)
      notifyCancelled .release (some (.release [oldest])) (numbersOf gone)
        (setSlot .release
          { x with reload := some ⟨.release (secs.drop 1 ++ [sec]), stay ++ [req]⟩ } s)

/-- An add request to the RELEASE slot, naming one section (R45). -/
def addRelease (sec n : Nat) (s : State) : State :=
  let x := s.air.releaseSlot
  let req : Numbered := ⟨n, some sec⟩
  match x.state with
  | .empty =>
    wakeAccess (setSlot .release
      { x with state := .pending, content := some (.release [sec]), answered := [req] } s)
  | .pending =>
    let secs := releaseSections x.content
    if secs.contains sec then setSlot .release { x with answered := x.answered ++ [req] } s
    else if secs.length < 2 then
      setSlot .release
        { x with content := some (.release (secs ++ [sec])), answered := x.answered ++ [req] } s
    else addToReload x sec n s
  | .onAir => addToReload x sec n s

/-- An add request to the POSITION slot (R47). -/
def addPosition (n : Nat) (s : State) : State :=
  let x := s.air.positionSlot
  match x.state with
  | .empty =>
    wakeAccess (setSlot .position
      { x with state := .pending, content := some .position, answered := [⟨n, none⟩] } s)
  | _ => raise .beaconMerged (notify .position ⟨.cancelled, [n], some .position⟩ s)

/-- A cancel request, by the slot's state (R48). -/
def cancelSlot (id : SlotId) (n : Nat) (s : State) : State :=
  let x := s.air.slot id
  let dropReload := fun (s : State) => match x.reload with
    | some r => notifyCancelled id (some r.content) (numbersOf r.answered) s
    | none => s
  match x.state with
  | .empty => notify id ⟨.cancelled, [n], none⟩ s
  | .pending =>
    dropReload (notify id ⟨.cancelled, numbersOf x.answered ++ [n], x.content⟩
      (setSlot id { x with state := .empty, content := none, answered := [], reload := none } s))
  | .onAir => dropReload (setSlot id { x with mark := x.mark ++ [n], reload := none } s)

/-- AIR takes the oldest request of a slot when `f` has a meaning for it: the request gets its
number, and in STARTING and UNCONFIGURED is answered CANCELLED at once (R42, R43). -/
def takeRequest (id : SlotId) (f : Request → Option (Nat → State → State)) (s : State) : State :=
  match requestsOf s.mail id with
  | [] => s
  | r :: rest =>
    match f r with
    | none => s
    | some g =>
      let n := (s.air.slot id).counter
      let s' := takeNumber id (s.setMail (s.mail.setRequests id rest))
      if onLayout s then g n s'
      else
        notify id ⟨.cancelled, [n], match r with | .add c => some c | .cancel => none⟩ s'

/-- ADD_REQUEST (R44). -/
def execAddRequest (slot : SupersedingSlot) (s : State) : StepResult :=
  whileUp s <| takeRequest (supersedingId slot) fun r =>
    match r with
    | .add c => some (addSuperseding (supersedingId slot) c)
    | .cancel => none

/-- RELEASE_ADD_REQUEST (R45, R46). -/
def execReleaseAddRequest (s : State) : StepResult :=
  whileUp s <| takeRequest .release fun r =>
    match r with
    | .add c => some (addRelease ((releaseSections (some c)).headD 0))
    | .cancel => none

/-- POSITION_ADD_REQUEST (R47). -/
def execPositionAddRequest (s : State) : StepResult :=
  whileUp s <| takeRequest .position fun r =>
    match r with
    | .add _ => some addPosition
    | .cancel => none

/-- CANCEL_REQUEST (R48). -/
def execCancelRequest (slot : SlotId) (s : State) : StepResult :=
  whileUp s <| takeRequest slot fun r =>
    match r with
    | .cancel => some (cancelSlot slot)
    | .add _ => none

/-! ## Content at hand-over -/

/-- The POSITION composed from the state of the node's blocks at this moment (R53). -/
def composeBeacon (s : State) : Beacon :=
  let p := s.pos.record
  let fix := p.validity != .none
  { valid := p.validity == .valid
    parked := s.node.mode == .parked
    halted := !haltSetEmpty s.cvy
    overlength := s.trl.overlength
    reversing := s.gov.direction == .reverse
    convoy := s.cvy.convoy
    rank := s.cvy.rank
    pred := s.cvy.pred
    size := convoySize s
    sec := if fix then p.sec else 0
    facing := if fix then p.facing else .fwd
    distance := if fix then p.distance else 0
    speed := s.pos.speed
    length := rigLength s
    holds := holdList s }

/-- The matter of a content at hand-over (R53, R54). -/
def matterOf (s : State) : Content → Matter
  | .halt c => .halt c
  | .resume => .resume
  | .release secs => .release secs
  | .claim sec d w n => .claim sec d w n
  | .position => .position (composeBeacon s)

/-- A content goes to the own convoy (R54). -/
def Content.toConvoy : Content → Bool
  | .halt _ | .resume => true
  | .release _ | .claim _ _ _ _ | .position => false

/-- The telegram handed over (R24, R53, R54). -/
def telegramOf (s : State) (c : Content) : Telegram :=
  ⟨ownStation s, if c.toConvoy then s.cvy.convoy else 63, matterOf s c⟩

/-- Hand a slot to the transceiver (R49). -/
def transmit (id : SlotId) (c : Content) (s : State) : State :=
  let x := s.air.slot id
  let frame := frameOf (s.air.layoutCode.getD 0) (telegramOf s c)
  s.setAir { s.air.setSlot id { x with state := .onAir } with
    access := .transmitting, transceiver := some 20, frame := frame,
    quiet := none, countdown := none, drawn := false, count := 0 }

/-- The slot drops its content and mark, and a reload becomes PENDING (R50). -/
def Slot.next (x : Slot) : Slot :=
  match x.reload with
  | some r =>
    { x with state := .pending, content := some r.content, answered := r.answered, mark := [], reload := none }
  | none => { x with state := .empty, content := none, answered := [], mark := [] }

/-- A HALT or RESUME with no convoy to reach is withdrawn (R54). -/
def withdraw (id : SlotId) (s : State) : State :=
  let x := s.air.slot id
  notify id ⟨.cancelled, numbersOf x.answered, x.content⟩ (setSlot id x.next s)

/-- Hand over the first PENDING slot in this order that has something to send; with none, the
attempt ends (R54, R57). -/
def handOverFrom : List SlotId → State → State
  | [], s => endAttempt s
  | id :: rest, s =>
    let x := s.air.slot id
    match x.state, x.content with
    | .pending, some c =>
      if id = .halt ∧ s.cvy.convoy = 0 then handOverFrom rest (withdraw id s) else transmit id c s
    | _, _ => handOverFrom rest s

/-- The end of the countdown (R57). -/
def handOver (s : State) : State := handOverFrom slotOrder s

/-! ## Completion -/

/-- The slot on the air, if one is. -/
def slotOnAir (s : State) : Option SlotId := slotOrder.find? (fun id => (s.air.slot id).state == .onAir)

/-- The notice of a completed content answers its requests and the cancels of its mark (R50, R51). -/
def completionNotice (x : Slot) (o : SlotOutcome) : Notice :=
  ⟨o, numbersOf x.answered ++ x.mark, x.content⟩

/-- The transmission has ended: the slot moves on and the transceiver is free. -/
def clearAir (id : SlotId) (s : State) : State :=
  let x := s.air.slot id
  s.setAir { s.air.setSlot id x.next with transceiver := none, frame := [] }

/-- Record the local time of a beacon's done signal (R50, R59). -/
def noteBeacon (id : SlotId) (s : State) : State :=
  if id = .position then s.setAir { s.air with lastBeacon := some s.time } else s

/-- The done signal of a slot on the air (R50). -/
def finishSent (id : SlotId) (s : State) : State :=
  let x := s.air.slot id
  let o : SlotOutcome := if x.mark.isEmpty then .sent else .sentDespiteCancel
  afterTransmission (clearAir id (noteBeacon id (raise .sent (notify id (completionNotice x o) s))))

/-- The transceiver timeout of a slot on the air (R51). -/
def finishAborted (id : SlotId) (s : State) : State :=
  let x := s.air.slot id
  afterTransmission (clearAir id
    (post .air .airAbort (.slot id) noDetail noDetail
      (raise .aborted (notify id (completionNotice x .aborted) s))))

/-- The slot on the air is finished; with none on the air nothing happens. -/
def onAirSlot (f : SlotId → State → State) (s : State) : State :=
  match slotOnAir s with
  | some id => f id s
  | none => s

/-- DONE_SIGNAL: a late signal is discarded (R50). -/
def execDoneSignal (s : State) : StepResult := whileUp s (onAirSlot finishSent)

/-- TRANSCEIVER_TIMEOUT (R51). -/
def execTransceiverTimeout (s : State) : StepResult := whileUp s (onAirSlot finishAborted)

/-! ## The backoff generator -/

/-- One step: the exclusive-or of bits 15, 13, 12 and 10 is shifted in at bit 0 (R58). -/
def generatorStep (r : BitVec 16) : BitVec 16 :=
  let feedback := r.getLsbD 15 ^^ r.getLsbD 13 ^^ r.getLsbD 12 ^^ r.getLsbD 10
  (r <<< 1) ||| (if feedback then 1#16 else 0#16)

/-- `n` steps of the generator. -/
def generatorSteps : Nat → BitVec 16 → BitVec 16
  | 0, r => r
  | n + 1, r => generatorSteps n (generatorStep r)

/-- The generator after a draw: eight steps (R58). -/
def drawRegister (r : BitVec 16) : BitVec 16 := generatorSteps 8 r

/-- The value a draw in 0..N yields from the register it leaves, N being 7, 15, 31 or 63 (R58). -/
def drawValue (r : BitVec 16) (n : Nat) : Nat := (r &&& BitVec.ofNat 16 n).toNat

/-- The seed (R58). -/
def seedOf (station count : Nat) : BitVec 16 := BitVec.ofNat 16 (station * 256 + count)

/-- Draw a value in 0..N and act with it. The generator is seeded whenever a draw is needed; the
unseeded register reads 0. -/
def draw (n : Nat) (f : Nat → State → State) (s : State) : State :=
  let r := drawRegister (s.air.generator.getD 0)
  f (drawValue r n) (s.setAir { s.air with generator := s.air.generator.map (fun _ => r) })

/-- The contention width W = 7, 15, 31 or 63 of its code 0..3 (R56). -/
def contentionWidth (code : Nat) : Nat := 2 ^ (code + 3) - 1

/-! ## Channel access commands -/

/-- CARRIER_APPEARS: in SENSING the quiet timer stops; in COUNTING the countdown freezes (R56). -/
def carrierOn (s : State) : State :=
  let a := { s.air with carrier := true }
  match s.air.access with
  | .sensing => s.setAir { a with quiet := none }
  | .counting => s.setAir { a with access := .sensing, quiet := none, countdown := none }
  | .idle => s.setAir a
  | .transmitting => s.setAir a

/-- CARRIER_ABSENT: in SENSING the quiet timer starts afresh (R56). -/
def carrierOff (s : State) : State :=
  let a := { s.air with carrier := false }
  match s.air.access with
  | .sensing => s.setAir { a with quiet := some 2 }
  | .idle | .counting | .transmitting => s.setAir a

/-- CARRIER_APPEARS. The line's level is known whatever the node does. -/
def execCarrierAppears (s : State) : StepResult := .next (carrierOn s)

/-- CARRIER_ABSENT. -/
def execCarrierAbsent (s : State) : StepResult := .next (carrierOff s)

/-- Enter COUNTING with the count as it stands; a count of 0 ends the countdown on entry (R56). -/
def startCounting (s : State) : State :=
  if s.air.count = 0 then handOver (s.setAir { s.air with access := .counting, quiet := none })
  else s.setAir { s.air with access := .counting, quiet := none, countdown := some 1 }

/-- 2 ms of quiet have passed in SENSING: draw the count if it is undrawn, then count (R56). -/
def quietPassed (s : State) : State :=
  if s.air.drawn then startCounting s
  else
    draw (contentionWidth s.node.settings.contentionCode)
      (fun k s => startCounting (s.setAir { s.air with count := k, drawn := true })) s

/-- QUIET_TIMER (R56). -/
def execQuietTimer (s : State) : StepResult :=
  whileUp s fun s => if s.air.access = .sensing ∧ runs s.air.quiet then quietPassed s else s

/-- A tick lowers the count by one, and 0 ends the countdown (R56). -/
def tickCount (s : State) : State :=
  let k := s.air.count - 1
  if k = 0 then handOver (s.setAir { s.air with count := 0, countdown := none })
  else s.setAir { s.air with count := k, countdown := some 1 }

/-- COUNTDOWN_TICK (R56). -/
def execCountdownTick (s : State) : StepResult :=
  whileUp s fun s => if s.air.access = .counting ∧ runs s.air.countdown then tickCount s else s

/-! ## The beacon timer -/

/-- The beacon interval in the mode in force (R55). -/
def beaconInterval (s : State) : Nat :=
  if s.node.mode = .parked then 1000 else s.node.settings.beaconInterval

/-- Arm the beacon timer with an interval and a jitter draw of 0..15 ms (R55). -/
def armBeacon (interval : Nat) (s : State) : State :=
  draw 15 (fun j s => s.setAir { s.air with beacon := some (interval + j) }) s

/-- The beacon timer expires: post, and re-arm (R55). -/
def beaconDue (s : State) : State :=
  armBeacon (beaconInterval s) (postRequest .position (.add .position) s)

/-- BEACON_TIMER (R55). An expiry queued behind a change out of PARKED acts on the timer that change has
re-armed: it posts at once and re-arms a full interval (DESIGN CHOICE, assumption log 36). -/
def execBeaconTimer (s : State) : StepResult :=
  whileUp s fun s => if runs s.air.beacon then beaconDue s else s

/-- BEACON_NOTICE: the beacon timer acts on none of its notices (R55). -/
def execBeaconNotice (s : State) : StepResult := whileUp s (takeNotice .position fun _ s => s)

end Sys2Proof.Machine
end

