-- ==== Sys2Proof/Machine/NodeControl.lean ====
section
/-! DEFINITION. Chapter 10 without the resets: the settings load, the listen period, parking and the
acknowledge gesture, and their commands. -/

namespace Sys2Proof.Machine

/-! ## The end of the load -/

/-- A structural fault ends the load: nothing is written into any block, the tags are sent FORGET,
and the node enters UNCONFIGURED (R187). -/
def loadFails (cause : FaultCause) (detail : Nat) (s : State) : State :=
  let s' := forgetAll (s.setNode { s.node with
    mode := .unconfigured, faultCause := some cause, faultDetail := detail,
    store := .idle, retryTimer := none })
  post .node .configFault (.fault cause) (.num detail) noDetail s'

/-- A read has failed: it is begun again 10 ms later, or the third failure ends the load with fault
STORE (R186, R187). -/
def readFailed (s : State) : State :=
  if s.node.loadAttempts < 3 then s.setNode { s.node with store := .retry, retryTimer := some 10 }
  else loadFails .store s.node.loadAttempts s

/-- The SETTING_CLAMPED records, in order of index (R188). -/
def postClamped (img : List Byte) (s : State) : State :=
  (clamped img).foldl
    (fun s t => post .node .settingClamped (.num t.index) (.num t.read) (.num t.used) s) s

/-- Each block takes its part of the image as one change (R189), with the tables of R2, R3, R37, the
seed of R58, the claim table of R99 and the steps of R145. -/
def handSettings (img : List Byte) (s : State) : State :=
  let g := settingsOf img
  let sections := (List.range 32).map (sectionOf img)
  let station := imageByte img 4
  { s with
    node := { s.node with settings := g }
    pos := { s.pos with sections := sections, windows := (List.range 6).map (windowOf img) }
    air := { s.air with
      filter := (List.range 8).map (filterOf img)
      layoutCode := some (imageByte img 3)
      station := some station
      generator := some (seedOf station s.node.resetCount) }
    clm := { s.clm with entries := ((List.range 32).filter (isSingle sections)).map ClaimEntry.built }
    gov := { s.gov with
      stepUp := rateStep g.accelUp, stepDown := rateStep g.accelDown, stepBrake := rateStep g.accelBrake } }

/-- Entering LISTENING: the listen timer, the sweeps, the FORGETs and the cycle timer start, and the
beacon timer is armed with a jitter draw alone (R55, R68, R78, R106, R171, R191). -/
def enterListening (s : State) : State :=
  let s' := forgetAll s
  armBeacon 0 { s' with
    node := { s'.node with mode := .listening, listenTimer := some 1000, store := .idle, retryTimer := none }
    peer := { s'.peer with sweep := some 100 }
    cvy := { s'.cvy with sweep := some 100 }
    clm := { s'.clm with sweep := some 100 }
    trl := { s'.trl with timer := some 200 } }

/-- All 421 bytes have arrived: the checks, the clamps, the hand-out (R187 to R189). -/
def readCompletes (img : List Byte) (s : State) : State :=
  match structuralFault img with
  | some (cause, detail) => loadFails cause detail s
  | none => enterListening (handSettings img (postClamped img s))

/-- LOAD_RETRY: 10 ms after a failed read a new one begins, while load attempts is below 3 (R186). Load
attempts rises as the read begins (DESIGN CHOICE, assumption log 34). -/
def execLoadRetry (s : State) : StepResult :=
  whileUp s fun s =>
    if s.node.store = .retry then
      s.setNode { s.node with
        store := .reading, retryTimer := none, loadAttempts := s.node.loadAttempts + 1 }
    else s

/-- STORE_NO_ACK: the read under way has failed (R186). -/
def execStoreNoAck (s : State) : StepResult :=
  whileUp s fun s => if s.node.store = .reading then readFailed s else s

/-- STORE_BYTE_TIMEOUT: the transfer has stopped, and the read has failed (R186). -/
def execStoreByteTimeout (s : State) : StepResult :=
  whileUp s fun s => if s.node.store = .reading then readFailed s else s

/-- STORE_READ_COMPLETE (R187). A list that is not 421 bytes is no complete read and is refused. -/
def execStoreReadComplete (image : List Byte) (s : State) : StepResult :=
  if (Instr.storeReadComplete image).wellFormed then
    whileUp s fun s => if s.node.store = .reading then readCompletes image s else s
  else .refused (.illFormed "STORE_READ_COMPLETE")

/-! ## RUNNING -/

/-- Entering RUNNING: the governor's update timer starts and CLM makes a position check at once
(R129, R131, R192). -/
def enterRunning (s : State) : State :=
  positionCheck none none { s with
    node := { s.node with mode := .running, listenTimer := none }
    gov := { s.gov with timer := some 20 } }

/-- LISTEN_TIMER: the 1000 ms listen timer expires (R191). -/
def execListenTimer (s : State) : StepResult :=
  whileUp s fun s =>
    if s.node.mode = .listening ∧ runs s.node.listenTimer then enterRunning s else s

/-! ## Parking -/

/-- The throttle stands at centre, within the deadband (R193). -/
def throttleCentred (s : State) : Bool :=
  let g := s.node.settings
  decide (g.centreTrim - g.deadband ≤ s.drv.throttleWidth ∧ s.drv.throttleWidth ≤ g.centreTrim + g.deadband)

/-- The number of entries the halt set holds (R194). -/
def haltEntries (c : Cvy) : Nat := c.foreign.length + (if c.own.any then 1 else 0)

/-- A park is refused (R193). -/
def refusePark (cause : ParkCause) (s : State) : State :=
  post .node .parkRefused (.park cause) noDetail noDetail s

/-- The acknowledge gesture is sent to CVY and journalled (R194). -/
def sendGesture (s : State) : State :=
  post .node .haltAcknowledged (.num (haltEntries s.cvy)) (.flag s.cvy.own.any) noDetail
    (s.setMail { s.mail with gestures := s.mail.gestures + 1 })

/-- Entering PARKED (R131, R165, R195). -/
def enterParked (s : State) : State :=
  motorNeutral ((s.setNode { s.node with mode := .parked }).setGov (governorParked s.gov))

/-- The park test (R193). -/
def parkTest (s : State) : State :=
  if s.gov.speed ≠ 0 ∨ s.pos.speed ≠ 0 then refusePark .moving s
  else if ¬haltSetEmpty s.cvy then sendGesture s
  else if s.drv.failsafe then refusePark .failsafe s
  else if ¬throttleCentred s then refusePark .throttle s
  else if claimsAnything s then refusePark .claim s
  else enterParked s

/-- A cycle timer with more than 200 ms left is re-armed to 200 ms on a change out of PARKED (R171). -/
def shortenCycle (t : Timer) : Timer := t.map (min 200)

/-- Out of PARKED: the beacon timer is re-armed at once with a jitter draw alone and the cycle timer
shortened; then RUNNING is entered (R55, R171, R195). -/
def leaveParked (s : State) : State :=
  enterRunning (armBeacon 0 (s.setTrl { s.trl with timer := shortenCycle s.trl.timer }))

/-- NODE acts on a function change (R193, R195). -/
def nodeChange (c : FnChange) (s : State) : State :=
  match s.node.mode with
  | .running => if c.new = .park then parkTest s else s
  | .parked => if c.new ≠ .park then leaveParked s else s
  | .starting | .unconfigured | .listening => s

/-- NODE takes the oldest function change (R162). -/
def nodeTakesChange (s : State) : State :=
  match s.mail.nodeChanges with
  | [] => s
  | c :: rest => nodeChange c (s.setMail { s.mail with nodeChanges := rest })

/-- NODE_FUNCTION_CHANGE (R193). -/
def execNodeFunctionChange (s : State) : StepResult := whileUp s nodeTakesChange

end Sys2Proof.Machine
end

