-- ==== Sys2Proof/Machine/Service.lean ====
section
/-! DEFINITION. Chapter 11: the journal, the fault lamp, the answers of the service line, and the
commands of the service unit. -/

namespace Sys2Proof.Machine

/-! ## The journal -/

/-- Set the journal. -/
def setJournal (j : Journal) (s : State) : State := s.setSvc { s.svc with journal := j }

/-- The record SVC makes of a post taken at a local time (R197). -/
def Post.record (p : Post) (time : Time) : JournalRecord := ⟨p.kind, time, p.first, p.second, p.third⟩

/-- SVC takes the oldest post of a block (R197, R198). -/
def takePost (block : BlockId) (s : State) : State :=
  match takeOldest (fun p => p.block == block) s.mail.posts with
  | none => s
  | some (p, rest) =>
    setJournal (s.svc.journal.take (p.record s.time)) (s.setMail { s.mail with posts := rest })

/-- JOURNAL_POST. -/
def execJournalPost (block : BlockId) (s : State) : StepResult := whileUp s (takePost block)

/-- The place of the k-th held record, k from 0: its index and the record (R197). -/
def Journal.held (j : Journal) (k : Nat) : Nat × Option JournalRecord :=
  let place := (j.getIndex + k) % 16
  (place, j.places.getD place none)

/-- The held records, oldest first (R197). -/
def Journal.records (j : Journal) : List (Nat × Option JournalRecord) := (List.range j.fill).map j.held

/-! ## The fault lamp -/

/-- The journal watermark is on and reached (R200). -/
def watermarkReached (s : State) : Bool :=
  s.node.settings.watermark != 0 && decide (s.node.settings.watermark ≤ s.svc.journal.fill)

/-- The fault lamp (R200). -/
def faultLamp (s : State) : Bool :=
  watermarkReached s || crawlReported s || s.drv.failsafe || s.trl.overlength || !haltSetEmpty s.cvy

/-! ## Answers -/

/-- The content of a STATUS answer (R203). -/
def statusAnswer (s : State) : StatusAnswer where
  mode := s.node.mode
  resetCause := s.node.resetCause
  resetCount := s.node.resetCount
  faultCause := s.node.faultCause
  faultDetail := s.node.faultDetail
  position := s.pos.record
  measuredSpeed := s.pos.speed
  commandedSpeed := s.gov.speed
  direction := s.gov.direction
  lastTarget := s.gov.lastTarget
  limiting := s.gov.limiting
  crawl := crawlReported s
  throttleWidth := s.drv.throttleWidth
  failsafe := s.drv.failsafe
  failsafeCause := s.drv.failsafeCause
  function := s.drv.position
  role := s.cvy.role
  convoy := s.cvy.convoy
  rank := s.cvy.rank
  pred := s.cvy.pred
  fill := s.svc.journal.fill
  lost := s.svc.journal.lost
  faultLamp := faultLamp s

/-- The content of a PEERS answer: every entry in use (R77), in ascending order of index (DESIGN CHOICE,
assumption log 39). -/
def peersAnswer (s : State) : List PeerLine :=
  (indexedEntries s.peer.entries).map (fun x => ⟨x.1, x.2, age s.time x.2.received, peerFresh s x.2⟩)

/-- The content of a CLAIMS answer (R203), the records of an entry in the order in which they joined its
lists (DESIGN CHOICE, assumption log 37). -/
def claimsAnswer (s : State) : List ClaimLine :=
  s.clm.entries.map (fun e =>
    { entry := e
      holderAges := e.holders.map (fun h => age s.time h.lastHeard)
      claimantAges := e.claimants.map (fun c => age s.time c.received)
      ageAB := e.heardAB.map (age s.time)
      ageBA := e.heardBA.map (age s.time) })

/-- A member's line in a ROSTER answer. -/
def memberLine (s : State) (m : Member) : RosterLine where
  station := m.station
  rank := m.rank
  pred := m.pred
  sec := m.sec
  facing := m.facing
  distance := m.distance
  parked := m.parked
  lastHeard := some m.lastHeard
  age := some (age s.time m.lastHeard)

/-- The own entry's line: rank and pred of the role record, place of the position record, parked by
the mode; it has no last heard (R88). -/
def ownLine (s : State) : RosterLine where
  station := ownStation s
  rank := s.cvy.rank
  pred := s.cvy.pred
  sec := s.pos.record.sec
  facing := s.pos.record.facing
  distance := s.pos.record.distance
  parked := s.node.mode == .parked
  lastHeard := none
  age := none

/-- Roster order of two lines (R91). -/
def RosterLine.before (sections : List SectionEntry) (a b : RosterLine) : Bool :=
  rosterBefore sections a.rank a.sec a.facing a.distance a.station b.rank b.sec b.facing b.distance b.station

/-- Put a line in its place in roster order. -/
def insertLine (sections : List SectionEntry) (l : RosterLine) : List RosterLine → List RosterLine
  | [] => [l]
  | x :: xs => if l.before sections x then l :: x :: xs else x :: insertLine sections l xs

/-- The roster in roster order, the own entry in its place; empty while SOLO (R88, R91). -/
def rosterLines (s : State) : List RosterLine :=
  if s.cvy.role = .solo then []
  else insertLine s.pos.sections (ownLine s) (s.cvy.members.map (memberLine s))

/-- The content of a ROSTER answer (R203). -/
def rosterAnswer (s : State) : RosterAnswer where
  role := s.cvy.role
  convoy := s.cvy.convoy
  rank := s.cvy.rank
  pred := s.cvy.pred
  retryUsed := s.cvy.retryUsed
  roster := rosterLines s
  size := convoySize s
  own := s.cvy.own
  foreign := s.cvy.foreign

/-- The content of a TRAILERS answer, from address 1 upward (R182). -/
def trailersAnswer (s : State) : TrailersAnswer where
  chain := ((List.range s.trl.chain.length).zip s.trl.chain).map (fun x => ⟨x.1 + 1, x.2⟩)
  overlength := s.trl.overlength
  silent := s.trl.silent
  lastLamps := s.trl.lastLamps

/-- The content of a JOURNAL answer (R203). -/
def journalAnswer (s : State) : JournalAnswer where
  fill := s.svc.journal.fill
  lost := s.svc.journal.lost
  getIndex := s.svc.journal.getIndex
  putIndex := s.svc.journal.putIndex
  records := s.svc.journal.records

/-! ## Requests -/

/-- SVC begins to send an answer. -/
def sendAnswer (a : Answer) (s : State) : State := s.setSvc { s.svc with answer := some a }

/-- A request is complete: it is acted on while the service line is free, and otherwise waits for its
BUSY answer (R202). -/
def request (f : State → State) (s : State) : State :=
  match s.svc.answer with
  | none => f s
  | some _ => s.setSvc { s.svc with waiting := s.svc.waiting + 1 }

/-- A request that reads state and changes nothing else (R203). -/
def readRequest (f : State → Answer) (s : State) : State := request (fun s => sendAnswer (f s) s) s

/-- STATUS. -/
def execStatus (s : State) : StepResult := whileUp s (readRequest (fun s => .status (statusAnswer s)))

/-- PEERS. -/
def execPeers (s : State) : StepResult := whileUp s (readRequest (fun s => .peers (peersAnswer s)))

/-- CLAIMS. -/
def execClaims (s : State) : StepResult := whileUp s (readRequest (fun s => .claims (claimsAnswer s)))

/-- ROSTER. -/
def execRoster (s : State) : StepResult := whileUp s (readRequest (fun s => .roster (rosterAnswer s)))

/-- TRAILERS. -/
def execTrailers (s : State) : StepResult :=
  whileUp s (readRequest (fun s => .trailers (trailersAnswer s)))

/-- JOURNAL. -/
def execJournal (s : State) : StepResult := whileUp s (readRequest (fun s => .journal (journalAnswer s)))

/-- COUNTERS. -/
def execCounters (s : State) : StepResult := whileUp s (readRequest (fun s => .counters s.svc.counters))

/-- UNKNOWN: a request of an unknown kind changes nothing (R202). -/
def execUnknown (s : State) : StepResult := whileUp s (readRequest (fun _ => .unknown))

/-- The place of an index among the held records, counted from 1 (R199). -/
def Journal.rankOf (j : Journal) (index : Nat) : Nat := (index + 16 - j.getIndex) % 16 + 1

/-- The index names a held place (R199). -/
def Journal.holds (j : Journal) (index : Nat) : Bool :=
  decide (index < 16) && decide (j.rankOf index ≤ j.fill)

/-- Give up the record at a held place and every older one (R199). -/
def Journal.giveUp (j : Journal) (index : Nat) : Journal :=
  { j with getIndex := (index + 1) % 16, fill := j.fill - j.rankOf index }

/-- ACK (R199). -/
def acknowledgeIndex (index : Nat) (s : State) : State :=
  if s.svc.journal.holds index then
    let j := s.svc.journal.giveUp index
    sendAnswer (.acknowledged j.fill) (setJournal j s)
  else sendAnswer .badIndex s

/-- ACK. -/
def execAck (index : Nat) (s : State) : StepResult := whileUp s (request (acknowledgeIndex index))

/-- CLEAR_COUNTERS: every counter as one change (R201, R204). -/
def clearCounters (s : State) : State :=
  sendAnswer .cleared (s.setSvc { s.svc with counters := Counters.zero })

/-- CLEAR_COUNTERS. -/
def execClearCounters (s : State) : StepResult := whileUp s (request clearCounters)

/-- RESTART: refused while a speed is not 0 (R204). -/
def restartRequest (s : State) : State :=
  sendAnswer (if s.gov.speed ≠ 0 ∨ s.pos.speed ≠ 0 then .moving else .restarting) s

/-- RESTART. -/
def execRestart (s : State) : StepResult := whileUp s (request restartRequest)

/-! ## The end of an answer -/

/-- The answer being sent can end otherwise than in a SERVICE RESTART. -/
def answerEnds (a : Option Answer) : Bool := a.any (· != .restarting)

/-- BUSY: the answer has ended and a waiting request is answered BUSY (R202). -/
def busy (s : State) : State :=
  if answerEnds s.svc.answer ∧ s.svc.waiting > 0 then
    s.setSvc { s.svc with answer := some .busy, waiting := s.svc.waiting - 1 }
  else s

/-- BUSY. -/
def execBusy (s : State) : StepResult := whileUp s busy

/-- ANSWER_ENDED: no request waits, and the service line becomes free (R202). -/
def answerEnded (s : State) : State :=
  if answerEnds s.svc.answer ∧ s.svc.waiting = 0 then s.setSvc { s.svc with answer := none } else s

/-- ANSWER_ENDED. -/
def execAnswerEnded (s : State) : StepResult := whileUp s answerEnded

end Sys2Proof.Machine
end

