-- ==== Sys2Proof/Machine/Resets.lean ====
section
/-! DEFINITION. The three resets of R184 and the hold of the node in reset, as the commands POWER_ON,
SUPPLY_BELOW_DIP_THRESHOLD, SUPPLY_DIP and SERVICE_RESTART. -/

namespace Sys2Proof.Machine

/-- An ASSIGN under way is abandoned by a reset; whether its tag had taken it is free (R171,
assumption log 13). -/
def abandonAssign (s : State) : State :=
  match s.trl.cycle with
  | .assigning address _ _ =>
    let s' := s.setDraws (s.draws + 1)
    if Config.freeFlag s.draws then s'.setLine (assignTag address s.line) else s'
  | _ => s

/-- Every block at its reset values, all work abandoned (R184). The queue of commands, the carrier
line's level, the motor pulse that runs to its end (R165), the tags on the line and the count of free
values stay; the journal and counters are the caller's. -/
def resetBlocks (cause : ResetCause) (count : Nat) (j : Journal) (c : Counters) (s : State) : State where
  pending := s.pending
  held := false
  time := 0
  pos := Pos.reset
  air := { Air.reset with carrier := s.air.carrier }
  peer := PeerTable.reset
  cvy := Cvy.reset
  clm := Clm.reset
  gov := Gov.reset
  drv := { Drv.reset with emitting := s.drv.emitting }
  trl := Trl.reset
  line := s.line
  node := Node.reset cause count
  svc := ⟨j, c, none, 0⟩
  mail := Mail.empty
  draws := s.draws

/-- The START record of a reset, SVC's first act (R185). -/
def startRecord (s : State) : JournalRecord :=
  ⟨.start, s.time, .reset s.node.resetCause, .num s.node.resetCount, noDetail⟩

/-- SVC posts START to itself, and the first read of the settings load begins (R185, R186). Load attempts
rises as the read begins (DESIGN CHOICE, assumption log 34). -/
def startUp (s : State) : State :=
  (setJournal (s.svc.journal.take (startRecord s)) s).setNode
    { s.node with loadAttempts := 1, store := .reading }

/-- A whole reset with its start (R184 to R186). -/
def resetNode (cause : ResetCause) (count : Nat) (j : Journal) (c : Counters) (s : State) : State :=
  startUp (resetBlocks cause count j c s)

/-- The tags lose power and gain the line again with the node (R168). -/
def renewTags (s : State) : State := s.setLine (s.line.map (fun t => Tag.fresh t.record))

/-- POWER_ON: the supply has risen from below the retention level (R184, R185). -/
def execPowerOn (s : State) : StepResult :=
  .next (resetNode .powerOn 0 Journal.cleared Counters.zero (renewTags s))

/-- SUPPLY_BELOW_DIP_THRESHOLD: the node is held in reset (R184). Nothing starts until the supply
returns. -/
def execSupplyBelowDipThreshold (s : State) : StepResult :=
  .next { resetBlocks s.node.resetCause 0 Journal.cleared Counters.zero (abandonAssign s) with held := true }

/-- SUPPLY_DIP: the supply is back above the dip threshold and stayed above the retention level. The
tags keep their state when the trailer line held up through the dip (R184, R185, chapter 9.9). -/
def execSupplyDip (lineHeld : Bool) (s : State) : StepResult :=
  let s' := abandonAssign s
  .next (resetNode .supply 0 Journal.cleared Counters.zero (if lineHeld then s' else renewTags s'))

/-- SERVICE_RESTART: the OK answer to RESTART has been sent whole. The journal and counters are kept
and the reset count rises (R184, R185). -/
def serviceRestart (s : State) : State :=
  if s.svc.answer = some .restarting then
    resetNode .service ((s.node.resetCount + 1) % 256) s.svc.journal s.svc.counters (abandonAssign s)
  else s

/-- SERVICE_RESTART. -/
def execServiceRestart (s : State) : StepResult := whileUp s serviceRestart

end Sys2Proof.Machine
end

