-- ==== Sys2Proof/Machine/Clock.lean ====
section
/-! DEFINITION. What happens inside the node with no command waiting: the events that have come about
are put in the queue, and otherwise a millisecond passes (DESIGN CHOICE, assumption log 10). -/

namespace Sys2Proof.Machine

/-- A timer that has run down. -/
def isDue (t : Timer) : Bool := t == some 0

/-- A timer a millisecond later. -/
def tickTimer (t : Timer) : Timer := t.map (· - 1)

/-! ## Events that have come about -/

/-- The command by which AIR takes the oldest request of a slot. -/
def requestCommand (id : SlotId) : Request → Instr
  | .cancel => .cancelRequest id
  | .add _ =>
    match id with
    | .halt => .addRequest .halt
    | .release => .releaseAddRequest
    | .claim => .addRequest .claim
    | .position => .positionAddRequest

/-- The command by which CVY takes an own-cause request. -/
def causeCommand (src : CauseSource) (r : CauseRequest) : Instr :=
  if r.add then .ownCauseAdd src else .ownCauseRemove src

/-- The command by which CVY takes a telegram; none for a kind CVY is not sent. -/
def cvyCommand (r : Received) : Option Instr :=
  match r.telegram.matter with
  | .position _ => some .cvyTakesPosition
  | .halt _ => some .cvyTakesHalt
  | .resume => some .cvyTakesResume
  | .claim _ _ _ _ => none
  | .release _ => none

/-- The command by which CLM takes a telegram; none for a kind CLM is not sent. -/
def clmCommand (r : Received) : Option Instr :=
  match r.telegram.matter with
  | .position _ => some .clmTakesPosition
  | .claim _ _ _ _ => some .clmTakesClaim
  | .release _ => some .clmTakesRelease
  | .halt _ => none
  | .resume => none

/-- The oldest message of each mailbox, as the command that takes it. -/
def mailCommands (s : State) : List Instr :=
  let m := s.mail
  (m.posts.head?.map (fun p => Instr.journalPost p.block)).toList ++
  slotOrder.filterMap (fun id => (requestsOf m id).head?.map (requestCommand id)) ++
  (m.haltNotices.head?.map (fun _ => Instr.cvyHaltNotice)).toList ++
  (m.releaseNotices.head?.map (fun _ => Instr.clmReleaseNotice)).toList ++
  (m.claimNotices.head?.map (fun _ => Instr.clmClaimNotice)).toList ++
  (m.positionNotices.head?.map (fun _ => Instr.beaconNotice)).toList ++
  (m.trlCauses.head?.map (causeCommand .trl)).toList ++
  (m.clmCauses.head?.map (causeCommand .clm)).toList ++
  (m.cvyChanges.head?.map (fun _ => Instr.cvyFunctionChange)).toList ++
  (m.nodeChanges.head?.map (fun _ => Instr.nodeFunctionChange)).toList ++
  (if m.gestures = 0 then [] else [Instr.acknowledgeGesture]) ++
  (s.air.peerQueue.head?.map (fun _ => Instr.peerTakesPosition)).toList ++
  (s.air.cvyQueue.head?.bind cvyCommand).toList ++
  (s.air.clmQueue.head?.bind clmCommand).toList

/-- The timers of the node, each with the command of its expiry. -/
def timers (s : State) : List (Timer × Instr) :=
  [(s.node.retryTimer, .loadRetry), (s.node.listenTimer, .listenTimer), (s.pos.binTimer, .binTimer),
    (s.air.byteGap, .byteGapTimeout), (s.peer.sweep, .peerSweep), (s.cvy.sweep, .cvySweep),
    (s.clm.sweep, .clmSweep), (s.air.beacon, .beaconTimer), (s.air.quiet, .quietTimer),
    (s.air.countdown, .countdownTick), (s.air.transceiver, .transceiverTimeout),
    (s.gov.timer, .governorUpdate), (s.drv.frameTimer, .frameTimer), (s.drv.silence, .silenceTimer),
    (s.drv.fnSilence, .functionSilenceTimer), (s.trl.timer, .cycleTimer)]

/-- The expiries that are due. -/
def timerCommands (s : State) : List Instr :=
  (timers s).filterMap (fun x => if isDue x.1 then some x.2 else none)

/-- The claim windows that end now (R112). -/
def windowCommands (s : State) : List Instr :=
  s.clm.entries.filterMap (fun e =>
    if e.state == .claiming && e.window.any (fun w => w.expiry == s.time) then some (.claimWindow e.sec)
    else none)

/-- The end of the motor pulse, when it has run its width. -/
def pulseCommands (s : State) : List Instr :=
  if s.drv.emitting.any (fun p => p.left == 0) then [.motorPulseEnd] else []

/-- Everything that has come about inside the node; a node held in reset only ends its motor pulse
(R184). The expiries stand before the messages, so that an expiry is not taken behind a message that
re-arms its timer (DESIGN CHOICE, assumption log 10, 36). -/
def dueCommands (s : State) : List Instr :=
  if s.held then pulseCommands s
  else pulseCommands s ++ timerCommands s ++ windowCommands s ++ mailCommands s

/-! ## A millisecond -/

/-- The motor pulse a millisecond later; it runs on while the node is held in reset (R165). -/
def tickPulse (d : Drv) : Drv :=
  { d with emitting := d.emitting.map (fun p => { p with left := p.left - 1000 }) }

/-- A millisecond passes: local time and every running timer. -/
def tick (s : State) : State :=
  if s.held then s.setDrv (tickPulse s.drv)
  else
    { s with
      time := s.time + 1
      pos := { s.pos with binTimer := tickTimer s.pos.binTimer }
      air := { s.air with
        byteGap := tickTimer s.air.byteGap
        quiet := tickTimer s.air.quiet
        countdown := tickTimer s.air.countdown
        transceiver := tickTimer s.air.transceiver
        beacon := tickTimer s.air.beacon }
      peer := { s.peer with sweep := tickTimer s.peer.sweep }
      cvy := { s.cvy with sweep := tickTimer s.cvy.sweep }
      clm := { s.clm with sweep := tickTimer s.clm.sweep }
      gov := { s.gov with timer := tickTimer s.gov.timer }
      drv := { tickPulse s.drv with
        silence := tickTimer s.drv.silence
        fnSilence := tickTimer s.drv.fnSilence
        frameTimer := tickTimer s.drv.frameTimer }
      trl := { s.trl with timer := tickTimer s.trl.timer }
      node := { s.node with
        retryTimer := tickTimer s.node.retryTimer
        listenTimer := tickTimer s.node.listenTimer } }

/-- A pop is part-way. -/
def popUnderWay (s : State) : Bool :=
  match s.trl.cycle with
  | .popping _ _ _ _ => true
  | .idle | .polling _ | .discovering | .assigning _ _ _ => false

/-- With no command waiting: the commands that are due join the queue; with none due a pop left part-way
goes on (assumption log 35), and otherwise a millisecond passes. -/
def idle (s : State) : State :=
  match dueCommands s with
  | [] => if s.held = false ∧ popUnderWay s then popResumes s else tick s
  | c :: cs => s.setPending (c :: cs)

end Sys2Proof.Machine
end

