-- ==== Sys2Proof/Machine/Dispatch.lean ====
section
/-! DEFINITION. One arm per command: the meaning it has. -/

namespace Sys2Proof.Machine

/-- The effect of a command on everything but the queue. -/
def exec (i : Instr) (s : State) : Host.Outcome State Fault Refusal :=
  match i with
  | .powerOn => Sys2Proof.Machine.execPowerOn s
  | .supplyBelowDipThreshold => Sys2Proof.Machine.execSupplyBelowDipThreshold s
  | .supplyDip lineHeld => Sys2Proof.Machine.execSupplyDip lineHeld s
  | .serviceRestart => Sys2Proof.Machine.execServiceRestart s
  | .loadRetry => Sys2Proof.Machine.execLoadRetry s
  | .storeNoAck => Sys2Proof.Machine.execStoreNoAck s
  | .storeByteTimeout => Sys2Proof.Machine.execStoreByteTimeout s
  | .storeReadComplete image => Sys2Proof.Machine.execStoreReadComplete image s
  | .listenTimer => Sys2Proof.Machine.execListenTimer s
  | .tagRead tag => Sys2Proof.Machine.execTagRead tag s
  | .wheelPulse => Sys2Proof.Machine.execWheelPulse s
  | .binTimer => Sys2Proof.Machine.execBinTimer s
  | .receiveByte start byte => Sys2Proof.Machine.execReceiveByte start byte s
  | .byteGapTimeout => Sys2Proof.Machine.execByteGapTimeout s
  | .peerTakesPosition => Sys2Proof.Machine.execPeerTakesPosition s
  | .peerSweep => Sys2Proof.Machine.execPeerSweep s
  | .cvyTakesPosition => Sys2Proof.Machine.execCvyTakesPosition s
  | .cvyTakesHalt => Sys2Proof.Machine.execCvyTakesHalt s
  | .cvyTakesResume => Sys2Proof.Machine.execCvyTakesResume s
  | .cvySweep => Sys2Proof.Machine.execCvySweep s
  | .cvyFunctionChange => Sys2Proof.Machine.execCvyFunctionChange s
  | .ownCauseAdd source => Sys2Proof.Machine.execOwnCauseAdd source s
  | .ownCauseRemove source => Sys2Proof.Machine.execOwnCauseRemove source s
  | .acknowledgeGesture => Sys2Proof.Machine.execAcknowledgeGesture s
  | .cvyHaltNotice => Sys2Proof.Machine.execCvyHaltNotice s
  | .clmTakesPosition => Sys2Proof.Machine.execClmTakesPosition s
  | .clmTakesClaim => Sys2Proof.Machine.execClmTakesClaim s
  | .clmTakesRelease => Sys2Proof.Machine.execClmTakesRelease s
  | .clmSweep => Sys2Proof.Machine.execClmSweep s
  | .claimWindow sec => Sys2Proof.Machine.execClaimWindow sec s
  | .clmClaimNotice => Sys2Proof.Machine.execClmClaimNotice s
  | .clmReleaseNotice => Sys2Proof.Machine.execClmReleaseNotice s
  | .addRequest slot => Sys2Proof.Machine.execAddRequest slot s
  | .releaseAddRequest => Sys2Proof.Machine.execReleaseAddRequest s
  | .positionAddRequest => Sys2Proof.Machine.execPositionAddRequest s
  | .cancelRequest slot => Sys2Proof.Machine.execCancelRequest slot s
  | .beaconTimer => Sys2Proof.Machine.execBeaconTimer s
  | .beaconNotice => Sys2Proof.Machine.execBeaconNotice s
  | .carrierAppears => Sys2Proof.Machine.execCarrierAppears s
  | .carrierAbsent => Sys2Proof.Machine.execCarrierAbsent s
  | .quietTimer => Sys2Proof.Machine.execQuietTimer s
  | .countdownTick => Sys2Proof.Machine.execCountdownTick s
  | .doneSignal => Sys2Proof.Machine.execDoneSignal s
  | .transceiverTimeout => Sys2Proof.Machine.execTransceiverTimeout s
  | .governorUpdate => Sys2Proof.Machine.execGovernorUpdate s
  | .frameTimer => Sys2Proof.Machine.execFrameTimer s
  | .motorPulseEnd => Sys2Proof.Machine.execMotorPulseEnd s
  | .throttlePulse width => Sys2Proof.Machine.execThrottlePulse width s
  | .silenceTimer => Sys2Proof.Machine.execSilenceTimer s
  | .functionPulse width => Sys2Proof.Machine.execFunctionPulse width s
  | .functionSilenceTimer => Sys2Proof.Machine.execFunctionSilenceTimer s
  | .nodeFunctionChange => Sys2Proof.Machine.execNodeFunctionChange s
  | .cycleTimer => Sys2Proof.Machine.execCycleTimer s
  | .poll r => Sys2Proof.Machine.execPoll r s
  | .discovery r => Sys2Proof.Machine.execDiscovery r s
  | .assign r => Sys2Proof.Machine.execAssign r s
  | .journalPost block => Sys2Proof.Machine.execJournalPost block s
  | .status => Sys2Proof.Machine.execStatus s
  | .peers => Sys2Proof.Machine.execPeers s
  | .claims => Sys2Proof.Machine.execClaims s
  | .roster => Sys2Proof.Machine.execRoster s
  | .trailers => Sys2Proof.Machine.execTrailers s
  | .journal => Sys2Proof.Machine.execJournal s
  | .counters => Sys2Proof.Machine.execCounters s
  | .ack index => Sys2Proof.Machine.execAck index s
  | .clearCounters => Sys2Proof.Machine.execClearCounters s
  | .restart => Sys2Proof.Machine.execRestart s
  | .unknown => Sys2Proof.Machine.execUnknown s
  | .busy => Sys2Proof.Machine.execBusy s
  | .tagGainsLine gain => Sys2Proof.Machine.execTagGainsLine gain s
  | .tagLosesLine place => Sys2Proof.Machine.execTagLosesLine place s
  | .answerEnded => Sys2Proof.Machine.execAnswerEnded s

end Sys2Proof.Machine
end

