-- ==== Sys2Proof/Safety.lean ====
section
/-! DEFINITION. What counts as a safe run: the command is answered with a next state, and the state
keeps, block by block, what the manual says always holds. -/

namespace Sys2Proof.Safety

open Sys2Proof.Machine

/-- A command is answered with a next state: no fault, no refusal. -/
def Answers (r : StepResult) : Prop := ∃ t, r = .next t

/-- Every settings value lies in its range (R188). -/
structure SettingsInRange (g : Settings) : Prop where
  tractor : 150 ≤ g.tractorLength ∧ g.tractorLength ≤ 1500
  coupling : g.couplingGap ≤ 100
  allowance : g.overlengthAllowance ≤ 1500
  pulse : 8 ≤ g.mmPerPulse ∧ g.mmPerPulse ≤ 255
  lost : 1000 ≤ g.lostDistance ∧ g.lostDistance ≤ 8000
  trim : 1450 ≤ g.centreTrim ∧ g.centreTrim ≤ 1550
  deadband : 10 ≤ g.deadband ∧ g.deadband ≤ 60
  vmax : 100 ≤ g.vmax ∧ g.vmax ≤ 1023
  reverse : 40 ≤ g.reverseCap ∧ g.reverseCap ≤ 300
  standstill : 50 ≤ g.standstillGap ∧ g.standstillGap ≤ 400
  headway : 20 ≤ g.headway ∧ g.headway ≤ 200
  up : 50 ≤ g.accelUp ∧ g.accelUp ≤ 1000
  down : 50 ≤ g.accelDown ∧ g.accelDown ≤ 1500
  brake : 200 ≤ g.accelBrake ∧ g.accelBrake ≤ 3000
  crawl : 40 ≤ g.crawlCap ∧ g.crawlCap ≤ 200
  escStart : g.escStart ≤ 200
  escGain : 16 ≤ g.escGain ∧ g.escGain ≤ 1023
  beacon : 50 ≤ g.beaconInterval ∧ g.beaconInterval ≤ 250
  contention : g.contentionCode ≤ 3
  lapse : 300 ≤ g.peerLapse ∧ g.peerLapse ≤ 3000
  join : 300 ≤ g.joinGap ∧ g.joinGap ≤ 3000
  apart : 500 ≤ g.breakGap ∧ g.breakGap ≤ 6000 ∧ g.joinGap + 300 ≤ g.breakGap
  approach : 600 ≤ g.approachDistance ∧ g.approachDistance ≤ 4000
  window : 100 ≤ g.claimWindow ∧ g.claimWindow ≤ 1000
  margin : 30 ≤ g.stopMargin ∧ g.stopMargin ≤ 300
  watermark : g.watermark ≤ 16

/-- The journal is a circular queue of 16 places whose fill records run from the get index (R197). -/
structure JournalInv (j : Journal) : Prop where
  places : j.places.length = 16
  get : j.getIndex < 16
  put : j.putIndex = (j.getIndex + j.fill) % 16
  fill : j.fill ≤ 16
  lost : j.lost ≤ 255
  held : ∀ k < j.fill, (j.held k).2.isSome

/-- Every counter lies in 0..65535 (R201). -/
def CountersInv (c : Counters) : Prop := ∀ id, c.read id ≤ 65535

/-- A claim entry's lists: their capacities, and no station twice in the two together (R99). -/
structure ClaimListsInv (e : ClaimEntry) : Prop where
  holders : e.holders.length ≤ 8
  claimants : e.claimants.length ≤ 6
  once : (e.holders.map (·.station) ++ e.claimants.map (·.station)).Nodup

/-- The claim table: ascending section numbers, at most 2 entries other than NONE, the lists, no tail
above the rig length taken at the exit, and the claim-post list (R99, R123). -/
structure ClaimInv (c : Clm) : Prop where
  ascending : (c.entries.map (·.sec)).Pairwise (· < ·)
  active : (c.entries.filter (fun e => e.state != .none)).length ≤ 2
  lists : ∀ e ∈ c.entries, ClaimListsInv e
  tails : ∀ e ∈ c.entries, e.tail ≤ e.tailLimit
  posts : c.posts.length ≤ 2

/-- The role record, the roster and the halt set (R78, R88, R93). -/
structure ConvoyInv (c : Cvy) : Prop where
  solo : c.role = .solo → c.convoy = 0 ∧ c.rank = 0 ∧ c.pred = 0 ∧ c.members = []
  leader : c.role = .leader → c.rank = 1 ∧ c.pred = 0
  follower : c.role = .follower → 1 ≤ c.rank ∧ c.rank ≤ 8
  members : c.members.length ≤ 7
  once : (c.members.map (·.station)).Nodup
  foreign : c.foreign.length ≤ 7
  sources : (c.foreign.map Prod.fst).Nodup

/-- A slot's parts agree with its state (R41). -/
structure SlotInv (x : Slot) : Prop where
  empty : x.state = .empty → x.content = none ∧ x.answered = [] ∧ x.reload = none
  full : x.state ≠ .empty → x.content.isSome
  mark : x.mark ≠ [] → x.state = .onAir

/-- AIR: the slots and channel access agree, at most one slot is ON_AIR, and the dispatch queues hold
at most 4 copies (R36, R41, R56). -/
structure AirInv (a : Air) : Prop where
  slots : ∀ id, SlotInv (a.slot id)
  reload : ∀ id, id ≠ .release → (a.slot id).reload.isSome → (a.slot id).state = .onAir
  idle : a.access = .idle → ∀ id, (a.slot id).state ≠ .pending
  onAir : a.access = .transmitting ↔ ∃ id, (a.slot id).state = .onAir
  single : ∀ i j, (a.slot i).state = .onAir → (a.slot j).state = .onAir → i = j
  peerQueue : a.peerQueue.length ≤ 4
  cvyQueue : a.cvyQueue.length ≤ 4
  clmQueue : a.clmQueue.length ≤ 4

/-- The poll cycle under way names addresses of the chain, or the next one; a pop part-way has removed a
record and has one to go (R170, R172, R174, R176). -/
def CycleInv (n : Nat) : Cycle → Prop
  | .idle => True
  | .polling k => 1 ≤ k ∧ k ≤ n
  | .discovering => True
  | .assigning k _ rejoin => 1 ≤ k ∧ (if rejoin then k ≤ n else k = n + 1 ∧ k ≤ 4)
  | .popping k _ _ count => 1 ≤ k ∧ k ≤ n ∧ n + 1 < k + count ∧ k + count ≤ 5

/-- The trailer port: at most 4 records, the silent count, and missed at most 2 between the steps, 3 only
at the lost address of a pop that is part-way (R170, R173). -/
structure TrailerInv (t : Trl) : Prop where
  chain : t.chain.length ≤ 4
  missed : ∀ (i : Nat) (r : TrailerRecord), t.chain[i]? = some r →
    r.missed ≤ 2 ∨ (r.missed = 3 ∧ ∃ still id count, t.cycle = .popping (i + 1) still id count)
  silent : t.silent ≤ 2
  counting : t.overlength = false → t.silent = 0
  cycle : CycleInv t.chain.length t.cycle

/-- The position record stands on the map (R7, R14 to R16). -/
structure PositionInv (p : Pos) : Prop where
  residue : p.record.residue ≤ 15
  travel : p.record.travel ≤ 65535
  place : p.record.validity ≠ .none →
    p.record.sec < 32 ∧ (sectionAt p.sections p.record.sec).kind ≠ .absent ∧
      p.record.distance ≤ (sectionAt p.sections p.record.sec).length
  bins : p.bins.length = 5 ∧ ∀ b ∈ p.bins, b ≤ 255
  speed : p.speed ≤ 1023
  still : p.still ≤ 25

/-- The node stands on a map only while its mode lets it, and only a RUNNING node can drive: in every
other mode the commanded speed is 0, the motor output neutral, the brake lamp lit and every claim NONE. A
RUNNING node that stands in a SINGLE section holds it or is in standoff there (R116, R131, R163, R166,
R183, R193). -/
structure ModeInv (s : State) : Prop where
  settings : SettingsInRange s.node.settings
  loading : s.node.store ≠ .idle → s.node.mode = .starting
  noFix : s.node.mode = .starting ∨ s.node.mode = .unconfigured → s.pos.record.validity = .none
  position : PositionInv s.pos
  speed : s.gov.speed ≤ 1023
  width : 1000 ≤ s.gov.width ∧ s.gov.width ≤ 2000
  held : 1000 ≤ s.drv.heldWidth ∧ s.drv.heldWidth ≤ 2000
  rest : s.node.mode ≠ .running →
    s.gov.speed = 0 ∧ s.gov.timer = none ∧ s.gov.width = 1500 ∧ s.gov.direction = .forward
  neutral : s.node.mode ≠ .running →
    s.drv.output = .neutral ∧ s.drv.heldWidth = 1500 ∧ s.drv.brakeLamp = true ∧ s.drv.reverseLamp = false
  unclaimed : s.node.mode ≠ .running → ∀ e ∈ s.clm.entries, e.state = .none
  occupied : s.node.mode = .running → s.pos.record.validity ≠ .none →
    ∀ e, claimEntry s s.pos.record.sec = some e → (e.state = .holding ∨ e.state = .standoff) ∧ e.tail = 0

/-- Everything that always holds. -/
structure Inv (s : State) : Prop where
  journal : JournalInv s.svc.journal
  counters : CountersInv s.svc.counters
  claims : ClaimInv s.clm
  convoy : ConvoyInv s.cvy
  air : AirInv s.air
  trailers : TrailerInv s.trl
  mode : ModeInv s

/-- The fields of a hold entry lie in their ranges (2.3). -/
def HoldInRange (h : HoldEntry) : Prop := h.sec ≤ 31

/-- The fields of a POSITION lie in the ranges of the layout table, its hold list naming no section
twice (2.3, R31). -/
structure BeaconInRange (b : Beacon) : Prop where
  convoy : b.convoy ≤ 62
  rank : b.rank ≤ 8
  pred : b.pred ≤ 62
  size : 1 ≤ b.size ∧ b.size ≤ 8
  sec : b.sec ≤ 31
  distance : b.distance ≤ 16383
  speed : b.speed ≤ 1023
  length : b.length ≤ 4095
  holds : b.holds.length ≤ 2 ∧ (∀ h ∈ b.holds, HoldInRange h) ∧ (b.holds.map (·.sec)).Nodup

/-- What a telegram says lies in the ranges of the layout table (2.3, R31). -/
def MatterInRange : Matter → Prop
  | .position b => BeaconInRange b
  | .claim sec _ _ size => sec ≤ 31 ∧ 1 ≤ size ∧ size ≤ 8
  | .release secs => (secs.length = 1 ∨ secs.length = 2) ∧ (∀ x ∈ secs, x ≤ 31) ∧ secs.Nodup
  | .halt _ => True
  | .resume => True

/-- A telegram as a node can send it: source station 1..62, destination number 0..63, fields in range
(R24, R31). -/
structure TelegramInRange (t : Telegram) : Prop where
  source : 1 ≤ t.source ∧ t.source ≤ 62
  number : t.number ≤ 63
  matter : MatterInRange t.matter

/-- The bytes of a frame as they reach the node: the start mark stands on the first (2.5). -/
def frameCommands : List Byte → List Instr
  | [] => []
  | b :: bs => .receiveByte true b :: bs.map (.receiveByte false)

/-- A frame passes the check: the check over all bytes but the last is the last (R23). -/
def PassesCheck (frame : List Byte) : Prop := frame.getLast? = some (crc frame.dropLast)

/-- The number of bits set in a list of bytes. -/
def bitsSet (bytes : List Byte) : Nat :=
  (bytes.map (fun b => ((List.range 8).filter (fun i => b.getLsbD i)).length)).sum

/-- The bytes of a frame with an error pattern on them. -/
def disturb (frame errors : List Byte) : List Byte := List.zipWith (· ^^^ ·) frame errors

end Sys2Proof.Safety
end

