-- ==== Sys2Proof/Certificates/Slice0/Obligations.lean ====
section
/-! DEFINITION. The statements for the provers. -/

open Sys2Proof Sys2Proof.Machine Sys2Proof.Safety

/-! ## The machine -/

/-- A step takes the command at the front of the queue and is that command's meaning on the state with the
queue's rest. -/
def Obligations.StepRunsTheCommandInFront : Prop :=
  ∀ (c : Instr) (rest : List Instr) (s : State),
    step (s.setPending (c :: rest)) = exec c (s.setPending rest)

/-- Every command that names an event of the hardware is answered with a next state, in every state; an
image that is not 421 bytes and a trailer that cannot have been built are refused. No command's
meaning touches the queue. On an empty queue the commands that have come due join it and nothing else
changes: the expiry of each timer that has run down, each claim window that ends now, the end of a
motor pulse that has run its width, and the taking of the oldest message of each mailbox and dispatch
queue; with none due, and no pop part-way, a millisecond passes, in which local time rises by one and
every running timer falls by one. Below the dip threshold only the motor pulse runs on.
The refusals, and what the step does on an empty queue, are the model's choices (assumption log 10, 16). -/
def Obligations.CommandsAnswerAndKeepTheQueue : Prop :=
  ((∀ (c : Instr) (s : State), c.wellFormed = true → ∃ t, exec c s = .next t) ∧
   (∀ (img : List Byte) (s : State), img.length ≠ 421 →
     exec (.storeReadComplete img) s = .refused (.illFormed "STORE_READ_COMPLETE")) ∧
   (∀ (r : TagRecord) (s : State), ¬(100 ≤ r.length ∧ r.length ≤ 1500) →
     exec (.tagGainsLine (.hitched r)) s = .refused (.illFormed "TAG_GAINS_LINE"))) ∧
  (∀ (c : Instr) (s t : State), exec c s = .next t → t.pending = s.pending) ∧
  (∀ s : State, s.pending = [] → s.held = false →
     let m := s.mail
     let expiries : List (Timer × Instr) :=
       [(s.node.retryTimer, .loadRetry), (s.node.listenTimer, .listenTimer), (s.pos.binTimer, .binTimer),
         (s.air.byteGap, .byteGapTimeout), (s.peer.sweep, .peerSweep), (s.cvy.sweep, .cvySweep),
         (s.clm.sweep, .clmSweep), (s.air.beacon, .beaconTimer), (s.air.quiet, .quietTimer),
         (s.air.countdown, .countdownTick), (s.air.transceiver, .transceiverTimeout),
         (s.gov.timer, .governorUpdate), (s.drv.frameTimer, .frameTimer), (s.drv.silence, .silenceTimer),
         (s.drv.fnSilence, .functionSilenceTimer), (s.trl.timer, .cycleTimer)]
     let takings : List (Prop × Instr) :=
       [(m.haltNotices ≠ [], .cvyHaltNotice), (m.releaseNotices ≠ [], .clmReleaseNotice),
         (m.claimNotices ≠ [], .clmClaimNotice), (m.positionNotices ≠ [], .beaconNotice),
         (m.cvyChanges ≠ [], .cvyFunctionChange), (m.nodeChanges ≠ [], .nodeFunctionChange),
         (m.gestures ≠ 0, .acknowledgeGesture), (s.air.peerQueue ≠ [], .peerTakesPosition),
         (∃ c rest, m.releaseRequests = .add c :: rest, .releaseAddRequest),
         (∃ c rest, m.positionRequests = .add c :: rest, .positionAddRequest),
         (∃ c rest, m.claimRequests = .add c :: rest, .addRequest .claim),
         (∃ c rest, m.haltRequests = .add c :: rest, .addRequest .halt)]
     let heard : List Received → (Matter → Prop) → Prop := fun q p =>
       ∃ r rest, q = r :: rest ∧ p r.telegram.matter
     let less : Timer → Timer := fun t => t.map (· - 1)
     ∃ t, step s = .next t ∧
       (∀ x ∈ expiries, (x.2 ∈ t.pending ↔ x.1 = some 0)) ∧
       (∀ x ∈ takings, (x.2 ∈ t.pending ↔ x.1)) ∧
       (∀ id, (.cancelRequest id ∈ t.pending ↔ ∃ rest, requestsOf m id = .cancel :: rest)) ∧
       (∀ b, (.journalPost b ∈ t.pending ↔ ∃ p rest, m.posts = p :: rest ∧ p.block = b)) ∧
       (∀ src, (.ownCauseAdd src ∈ t.pending ↔ ∃ c rest, causesOf m src = c :: rest ∧ c.add = true) ∧
         (.ownCauseRemove src ∈ t.pending ↔ ∃ c rest, causesOf m src = c :: rest ∧ c.add = false)) ∧
       ((.cvyTakesPosition ∈ t.pending ↔ heard s.air.cvyQueue (fun x => ∃ b, x = .position b)) ∧
         (.cvyTakesHalt ∈ t.pending ↔ heard s.air.cvyQueue (fun x => ∃ c, x = .halt c)) ∧
         (.cvyTakesResume ∈ t.pending ↔ heard s.air.cvyQueue (fun x => x = .resume)) ∧
         (.clmTakesPosition ∈ t.pending ↔ heard s.air.clmQueue (fun x => ∃ b, x = .position b)) ∧
         (.clmTakesClaim ∈ t.pending ↔ heard s.air.clmQueue (fun x => ∃ a d w n, x = .claim a d w n)) ∧
         (.clmTakesRelease ∈ t.pending ↔ heard s.air.clmQueue (fun x => ∃ l, x = .release l))) ∧
       (∀ sec, (.claimWindow sec ∈ t.pending ↔ ∃ e ∈ s.clm.entries, e.sec = sec ∧ e.state = .claiming ∧
         ∃ w, e.window = some w ∧ w.expiry = s.time)) ∧
       (.motorPulseEnd ∈ t.pending ↔ ∃ p, s.drv.emitting = some p ∧ p.left = 0) ∧
       (.wheelPulse ∉ t.pending ∧ (∀ tag, .tagRead tag ∉ t.pending) ∧
         (∀ b x, .receiveByte b x ∉ t.pending) ∧ (∀ r, .poll r ∉ t.pending)) ∧
       (t.pending ≠ [] → t = { s with pending := t.pending }) ∧
       (t.pending = [] → (∀ k b i n, s.trl.cycle ≠ .popping k b i n) → t = { s with
         time := s.time + 1
         pos := { s.pos with binTimer := less s.pos.binTimer }
         air := { s.air with
           byteGap := less s.air.byteGap
           quiet := less s.air.quiet
           countdown := less s.air.countdown
           transceiver := less s.air.transceiver
           beacon := less s.air.beacon }
         peer := { s.peer with sweep := less s.peer.sweep }
         cvy := { s.cvy with sweep := less s.cvy.sweep }
         clm := { s.clm with sweep := less s.clm.sweep }
         gov := { s.gov with timer := less s.gov.timer }
         drv := { s.drv with
           emitting := s.drv.emitting.map (fun p => ⟨p.width, p.left - 1000⟩)
           silence := less s.drv.silence
           fnSilence := less s.drv.fnSilence
           frameTimer := less s.drv.frameTimer }
         trl := { s.trl with timer := less s.trl.timer }
         node := { s.node with
           retryTimer := less s.node.retryTimer
           listenTimer := less s.node.listenTimer } })) ∧
  (∀ s : State, s.pending = [] → s.held = true →
     (∀ w, s.drv.emitting = some ⟨w, 0⟩ → step s = .next { s with pending := [.motorPulseEnd] }) ∧
     (∀ w n, s.drv.emitting = some ⟨w, n + 1⟩ →
       step s = .next { s with drv := { s.drv with emitting := some ⟨w, n + 1 - 1000⟩ } }) ∧
     (s.drv.emitting = none → step s = .next s))

/-- While the supply is below the dip threshold no block takes any event: the state stays as it is under
every command but the ends of the hold (POWER_ON, SUPPLY_DIP), SUPPLY_BELOW_DIP_THRESHOLD itself, the
end of the motor pulse, and what happens outside the node (the carrier line, the trailer line).
Which commands still act is DEDUCED (assumption log 15). -/
def Obligations.HeldNodeTakesNoEvent : Prop :=
  ∀ (c : Instr) (s : State), s.held = true → c.wellFormed = true →
    c ≠ .powerOn → c ≠ .supplyBelowDipThreshold → (∀ b, c ≠ .supplyDip b) → c ≠ .motorPulseEnd →
    c ≠ .carrierAppears → c ≠ .carrierAbsent → (∀ g, c ≠ .tagGainsLine g) →
    (∀ p, c ≠ .tagLosesLine p) → exec c s = .next s

/-- The values the manual's reset tables give, in the state right after a POWER-ON: modes, records,
tables, slots, timers, the journal with its START record, and the lit fault lamp. -/
def Obligations.ResetLeavesTheStatedValues : Prop :=
  let s := State.reset
  (s.node.mode = .starting ∧ s.node.resetCause = .powerOn ∧ s.node.resetCount = 0 ∧
    s.node.faultCause = none ∧ s.node.faultDetail = 0 ∧ s.node.settings = Settings.defaults ∧
    s.node.listenTimer = none) ∧
  (s.pos.record = ⟨0, .fwd, 0, .none, 0, none, 0⟩ ∧ s.pos.bins = [0, 0, 0, 0, 0] ∧ s.pos.speed = 0 ∧
    s.pos.still = 0 ∧ (∀ i, (sectionAt s.pos.sections i).kind = .absent) ∧
    (∀ w ∈ s.pos.windows, w.enable = false) ∧ chain s = []) ∧
  ((∀ id, s.air.slot id = ⟨.empty, none, [], [], none, 0⟩) ∧ s.air.access = .idle ∧
    s.air.beacon = none ∧ s.air.lastBeacon = none ∧ s.air.layoutCode = none ∧ s.air.station = none ∧
    s.air.assembler = .idle ∧ s.air.peerQueue = [] ∧ s.air.cvyQueue = [] ∧ s.air.clmQueue = [] ∧
    ∀ e ∈ s.air.filter, e.enable = false) ∧
  (s.peer.entries = List.replicate 12 none ∧ s.peer.sweep = none) ∧
  (s.cvy.role = .solo ∧ s.cvy.convoy = 0 ∧ s.cvy.rank = 0 ∧ s.cvy.pred = 0 ∧ s.cvy.retryUsed = false ∧
    s.cvy.members = [] ∧ haltSetEmpty s.cvy = true ∧ s.cvy.sweep = none) ∧
  (s.clm.entries = [] ∧ s.clm.posts = [] ∧ s.clm.sweep = none) ∧
  (s.gov.speed = 0 ∧ s.gov.direction = .forward ∧ s.gov.lastTarget = 0 ∧ s.gov.limiting = none ∧
    s.gov.lowered = false ∧ s.gov.crawl = false ∧ s.gov.width = 1500 ∧ s.gov.timer = none) ∧
  (s.drv.throttleWidth = 1500 ∧ s.drv.failsafe = true ∧ s.drv.failsafeCause = .reset ∧
    s.drv.validRun = 0 ∧ s.drv.silence = none ∧ s.drv.position = .solo ∧ s.drv.candidate = none ∧
    s.drv.fnSilence = none ∧ s.drv.output = .neutral ∧ s.drv.heldWidth = 1500 ∧
    s.drv.frameTimer = some 20 ∧ s.drv.brakeLamp = true ∧ s.drv.reverseLamp = false) ∧
  (s.trl.chain = [] ∧ s.trl.overlength = false ∧ s.trl.silent = 0 ∧ s.trl.lastLamps = none ∧
    s.trl.refresh = false ∧ s.trl.timer = none ∧ s.trl.cycle = .idle) ∧
  (s.svc.journal.fill = 1 ∧ s.svc.journal.getIndex = 0 ∧ s.svc.journal.putIndex = 1 ∧
    s.svc.journal.lost = 0 ∧
    s.svc.journal.records.map (fun x => x.2.map (fun r => (r.kind, r.first, r.second))) =
      [some (.start, .reset .powerOn, .num 0)] ∧
    s.svc.counters = Counters.zero ∧ s.svc.answer = none ∧ faultLamp s = true)

/-! ## Resets -/

/-- A POWER-ON, whatever came before, leaves the state after reset (its START record, load begun), with
the tags on the line UNASSIGNED and dark, the queue and the carrier line as they were, and the motor
pulse that was on the output running to its end. Below the dip threshold every block is at its reset
values, the node held and no load begun; the motor pulse runs on. A SUPPLY-DIP then starts the node
with cause SUPPLY, count 0, START as the only record of a cleared journal and cleared counters; the
tags keep their state when the line held up and no ASSIGN was abandoned, and are UNASSIGNED when it
did not.
Local time 0, the level of the carrier line, the lost messages and the load attempt that has begun are
the model's choices (assumption log 1, 3, 5, 6, 13, 17, 34). -/
def Obligations.PowerOnAndDipRestartTheNode : Prop :=
  (∀ s : State, exec .powerOn s = .next { State.reset with
     pending := s.pending
     air := { State.reset.air with carrier := s.air.carrier }
     drv := { State.reset.drv with emitting := s.drv.emitting }
     line := s.line.map (fun t => ⟨t.record, none, ⟨false, false, false⟩⟩)
     draws := s.draws }) ∧
  (∀ s : State,
     (∃ t, exec .supplyBelowDipThreshold s = .next t ∧ t.held = true ∧ t.node.mode = .starting ∧
       t.node.store = .idle ∧ t.pos = Pos.reset ∧ t.cvy = Cvy.reset ∧ t.clm = Clm.reset ∧
       t.gov = Gov.reset ∧ t.peer = PeerTable.reset ∧ t.trl = Trl.reset ∧ t.mail = Mail.empty ∧
       t.drv = { Drv.reset with emitting := s.drv.emitting } ∧
       t.air = { Air.reset with carrier := s.air.carrier } ∧ t.pending = s.pending) ∧
     (∀ lineHeld, ∃ t, exec (.supplyDip lineHeld) s = .next t ∧ t.held = false ∧
       t.node = { State.reset.node with resetCause := .supply } ∧ t.pos = Pos.reset ∧
       t.cvy = Cvy.reset ∧ t.clm = Clm.reset ∧ t.gov = Gov.reset ∧ t.peer = PeerTable.reset ∧
       t.trl = Trl.reset ∧ t.mail = Mail.empty ∧
       t.drv = { Drv.reset with emitting := s.drv.emitting } ∧
       t.air = { Air.reset with carrier := s.air.carrier } ∧ t.pending = s.pending ∧
       t.svc.counters = Counters.zero ∧ t.svc.journal.lost = 0 ∧
       t.svc.journal.records =
         [(0, some ⟨.start, t.time, .reset .supply, .num 0, .num 0⟩)] ∧
       (lineHeld = true → (∀ a r j, s.trl.cycle ≠ .assigning a r j) → t.line = s.line) ∧
       (lineHeld = false → t.line.map (·.record) = s.line.map (·.record) ∧
         ∀ g ∈ t.line, g.address = none ∧ g.lamps = ⟨false, false, false⟩)))

/-- When the OK answer to RESTART has been sent, the node resets with cause SERVICE and the reset count
one higher modulo 256; the counters are kept, and the journal keeps its records with START after them,
or, when it is full, loses START and counts it.
The lost messages, the level of the carrier line (which a reset keeps) and the load attempt that has
begun are the model's choices (assumption log 3, 5, 6, 34). -/
def Obligations.ServiceRestartKeepsJournalAndCounters : Prop :=
  ∀ s : State, s.held = false → s.svc.answer = some .restarting →
    ∃ t, exec .serviceRestart s = .next t ∧
      t.node = { State.reset.node with
        resetCause := .service, resetCount := (s.node.resetCount + 1) % 256 } ∧
      t.svc.counters = s.svc.counters ∧ t.svc.answer = none ∧ t.svc.waiting = 0 ∧
      (s.svc.journal.fill < 16 →
        t.svc.journal = { s.svc.journal with
          places := s.svc.journal.places.set s.svc.journal.putIndex
            (some ⟨.start, t.time, .reset .service, .num ((s.node.resetCount + 1) % 256), .num 0⟩)
          putIndex := (s.svc.journal.putIndex + 1) % 16
          fill := s.svc.journal.fill + 1 }) ∧
      (s.svc.journal.fill = 16 →
        t.svc.journal = { s.svc.journal with lost := min 255 (s.svc.journal.lost + 1) }) ∧
      t.pos = Pos.reset ∧ t.cvy = Cvy.reset ∧ t.clm = Clm.reset ∧ t.gov = Gov.reset ∧
      t.peer = PeerTable.reset ∧ t.trl = Trl.reset ∧ t.mail = Mail.empty ∧
      t.drv = { Drv.reset with emitting := s.drv.emitting } ∧
      t.air = { Air.reset with carrier := s.air.carrier } ∧ t.pending = s.pending ∧
      ((∀ a r j, s.trl.cycle ≠ .assigning a r j) → t.line = s.line)

/-! ## Node control -/

/-- A failed store read is begun again 10 ms later, each read raising load attempts; the third failure
ends the load with fault STORE and detail 3, in UNCONFIGURED, with a CONFIG_FAULT record and a FORGET
to addresses 4, 3, 2, 1, and changes nothing else.
That load attempts rises as a read begins is the model's choice (assumption log 34). -/
def Obligations.StoreReadsAreTriedThreeTimes : Prop :=
  (∀ s : State, s.held = false → s.node.store = .retry →
    exec .loadRetry s = .next { s with node := { s.node with
      store := .reading, retryTimer := none, loadAttempts := s.node.loadAttempts + 1 } }) ∧
  (∀ (c : Instr) (s : State), s.held = false → s.node.store = .reading →
    (c = .storeNoAck ∨ c = .storeByteTimeout) →
    (s.node.loadAttempts < 3 →
      exec c s = .next { s with node := { s.node with store := .retry, retryTimer := some 10 } }) ∧
    (s.node.loadAttempts = 3 →
      exec c s = .next { s with
        node := { s.node with
          mode := .unconfigured
          faultCause := some .store
          faultDetail := 3
          store := .idle
          retryTimer := none }
        line := forgetTag 1 (forgetTag 2 (forgetTag 3 (forgetTag 4 s.line)))
        mail := { s.mail with
          posts := s.mail.posts ++ [⟨.node, .configFault, .fault .store, .num 3, .num 0⟩] } }))

/-- The checks of a complete image are made in order and the first that fails decides: the fault cause and
detail, a CONFIG_FAULT record, the mode UNCONFIGURED and the FORGETs, with nothing written into any
block. An image that passes them all brings the node to LISTENING with the listen timer at 1000 ms. -/
def Obligations.FirstFailingImageCheckDecides : Prop :=
  ∀ (img : List Byte) (s : State), s.held = false → s.node.store = .reading → img.length = 421 →
    let failed : FaultCause → Nat → StepResult := fun cause detail => .next { s with
      node := { s.node with
        mode := .unconfigured
        faultCause := some cause
        faultDetail := detail
        store := .idle
        retryTimer := none }
      line := forgetTag 1 (forgetTag 2 (forgetTag 3 (forgetTag 4 s.line)))
      mail := { s.mail with
        posts := s.mail.posts ++ [⟨.node, .configFault, .fault cause, .num detail, .num 0⟩] } }
    let b : Nat → Nat := fun i => (img.getD i 0).toNat
    let kind : Nat → Nat := fun i => b (49 + 9 * i)
    let links : Nat → List Nat := fun i => [b (49 + 9 * i + 7), b (49 + 9 * i + 8)]
    let sum := ((img.take 419).map BitVec.toNat).sum % 65536
    let sumOk := sum = 256 * b 419 + b 420
    let formatOk := b 0 = 1 ∧ 256 * b 1 + b 2 = 421
    let stationOk := 1 ≤ b 4 ∧ b 4 ≤ 62
    let badSection : Nat → Prop := fun i => kind i > 3 ∨
      (kind i ≠ 0 ∧ ∃ l ∈ links i, (32 ≤ l ∧ l ≤ 254) ∨ (l < 32 ∧ kind l = 0))
    let singles := ((List.range 32).filter (fun i => kind i == 2)).length
    let adjacent : Nat → Prop := fun i =>
      kind i = 2 ∧ ∃ j < 32, kind j = 2 ∧ (j ∈ links i ∨ i ∈ links j)
    let result := exec (.storeReadComplete img) s
    (¬sumOk → result = failed .sum sum) ∧
    (sumOk → ¬formatOk → result = failed .format (b 0)) ∧
    (sumOk → formatOk → ¬stationOk → result = failed .station (b 4)) ∧
    (sumOk → formatOk → stationOk →
      (∀ i < 32, badSection i → (∀ j < i, ¬badSection j) → result = failed .sec i) ∧
      ((∀ i < 32, ¬badSection i) →
        (singles > 8 → result = failed .singleCount singles) ∧
        (singles ≤ 8 →
          (∀ i < 32, adjacent i → (∀ j < i, ¬adjacent j) → result = failed .singleAdjacent i) ∧
          ((∀ i < 32, ¬adjacent i) → ∃ t, result = .next t ∧ t.node.mode = .listening ∧
            t.node.listenTimer = some 1000))))

/-- A sound load hands every block its part: the section table and windows to POS, the filter list, layout
code, station and seed (one jitter draw on) to AIR, one NONE entry per SINGLE section in ascending
order to CLM, the settings to all; sweeps, the cycle timer and the beacon timer start, and the clamped
settings are journalled in order. The driver port, measured speed and counters are as they were.
Each field is read at its place in the image and brought into its range, the break gap to at least the
join gap + 300; base and mask are cut to 12 bits and filter parameters to 6; an ABSENT section is not
read and a filter element of an unknown code is disabled. A record is made of exactly the settings
whose value used differs from the value read, in ascending order of index. Whatever bytes the image
holds, the settings taken from it lie in their ranges. -/
def Obligations.SoundLoadHandsOutTheSettings : Prop :=
  (∀ (img : List Byte) (s : State), s.held = false → s.node.store = .reading → img.length = 421 →
     structuralFault img = none →
     ∃ t, exec (.storeReadComplete img) s = .next t ∧ t.node.mode = .listening ∧
       t.node.settings = settingsOf img ∧ t.node.store = .idle ∧
       t.pos = { s.pos with
         sections := (List.range 32).map (sectionOf img), windows := (List.range 6).map (windowOf img) } ∧
       t.air.station = some (img.getD 4 0).toNat ∧ t.air.layoutCode = some (img.getD 3 0).toNat ∧
       t.air.filter = (List.range 8).map (filterOf img) ∧
       t.air.generator = some (generatorSteps 8
         (BitVec.ofNat 16 ((img.getD 4 0).toNat * 256 + s.node.resetCount))) ∧
       (∃ j ≤ 15, t.air.beacon = some j) ∧
       t.clm.entries.map (·.sec) = (List.range 32).filter (fun i => kindCode img i == 2) ∧
       (∀ e ∈ t.clm.entries, e = ClaimEntry.built e.sec) ∧
       (t.peer.sweep = some 100 ∧ t.cvy.sweep = some 100 ∧ t.clm.sweep = some 100 ∧
         t.trl.timer = some 200) ∧
       t.mail = { s.mail with posts := s.mail.posts ++ (clamped img).map (fun x =>
         ⟨.node, .settingClamped, .num x.index, .num x.read, .num x.used⟩) } ∧
       t.drv = s.drv ∧ t.svc = s.svc ∧ t.pending = s.pending ∧
       t.line = forgetTag 1 (forgetTag 2 (forgetTag 3 (forgetTag 4 s.line)))) ∧
  (∀ img : List Byte,
     let b : Nat → Nat := fun i => (img.getD i 0).toNat
     let word : Nat → Nat := fun i => 256 * b i + b (i + 1)
     let within : Nat → Nat → Nat → Nat := fun lo hi n => max lo (min hi n)
     let joinGap := within 300 3000 (word 37)
     let breakGap := max (within 500 6000 (word 39)) (joinGap + 300)
     let link : Nat → Option Nat := fun l => if l < 32 then some l else none
     (settingsOf img =
       { tractorLength := within 150 1500 (word 5)
         couplingGap := within 0 100 (b 7)
         overlengthAllowance := within 0 1500 (word 8)
         mmPerPulse := within 8 255 (b 10)
         lostDistance := within 1000 8000 (word 11)
         centreTrim := within 1450 1550 (word 13)
         deadband := within 10 60 (b 15)
         vmax := within 100 1023 (word 16)
         reverseCap := within 40 300 (word 18)
         standstillGap := within 50 400 (word 20)
         headway := within 20 200 (b 22)
         accelUp := within 50 1000 (word 23)
         accelDown := within 50 1500 (word 25)
         accelBrake := within 200 3000 (word 27)
         crawlCap := within 40 200 (b 29)
         escStart := within 0 200 (b 30)
         escGain := within 16 1023 (word 31)
         beaconInterval := within 50 250 (b 33)
         contentionCode := within 0 3 (b 34)
         peerLapse := within 300 3000 (word 35)
         joinGap := joinGap
         breakGap := breakGap
         approachDistance := within 600 4000 (word 41)
         claimWindow := within 100 1000 (word 43)
         stopMargin := within 30 300 (word 45)
         defaultReject := decide (b 47 = 1)
         watermark := within 0 16 (b 48) }) ∧
     (∀ i < 32,
       let p := 49 + 9 * i
       let entry : SectionKind → SectionEntry := fun k => ⟨k, within 256 16383 (word (p + 1)),
         within 50 1000 (word (p + 3)), within 40 1023 (word (p + 5)), link (b (p + 7)), link (b (p + 8))⟩
       (b p = 0 → sectionOf img i = SectionEntry.absent) ∧ (b p = 1 → sectionOf img i = entry .road) ∧
       (b p = 2 → sectionOf img i = entry .single) ∧ (b p = 3 → sectionOf img i = entry .yard)) ∧
     (∀ j < 6,
       let p := 337 + 7 * j
       windowOf img j = ⟨decide (b p ≠ 0), BitVec.ofNat 12 (word (p + 1)), BitVec.ofNat 12 (word (p + 3)),
         min 31 (b (p + 5)), min 6 (b (p + 6))⟩) ∧
     (∀ k < 8,
       let p := 379 + 5 * k
       let element : MatchType → FilterAction → FilterElement := fun m a =>
         ⟨decide (b p ≠ 0), m, BitVec.ofNat 6 (b (p + 2)), BitVec.ofNat 6 (b (p + 3)), a⟩
       (b (p + 1) > 2 ∨ b (p + 4) > 3 → (filterOf img k).enable = false) ∧
       (∀ m ∈ [(0, MatchType.range), (1, .pair), (2, .masked)],
         ∀ a ∈ [(0, FilterAction.accept), (1, .pin), (2, .reject), (3, .watch)],
           b (p + 1) = m.1 → b (p + 4) = a.1 → filterOf img k = element m.2 a.2)) ∧
     (let bytes : List (Nat × Nat × Nat) := [(7, 0, 100), (10, 8, 255), (15, 10, 60), (22, 20, 200),
        (29, 40, 200), (30, 0, 200), (33, 50, 250), (34, 0, 3), (48, 0, 16)]
      let words : List (Nat × Nat × Nat) := [(5, 150, 1500), (8, 0, 1500), (11, 1000, 8000),
        (13, 1450, 1550), (16, 100, 1023), (18, 40, 300), (20, 50, 400), (23, 50, 1000), (25, 50, 1500),
        (27, 200, 3000), (31, 16, 1023), (35, 300, 3000), (37, 300, 3000), (41, 600, 4000),
        (43, 100, 1000), (45, 30, 300)]
      ((clamped img).map (·.index)).Pairwise (· < ·) ∧
      ∀ x : Taken, x ∈ clamped img ↔ x.used ≠ x.read ∧
        ((∃ y ∈ bytes, x = ⟨y.1, b y.1, within y.2.1 y.2.2 (b y.1)⟩) ∨
          (∃ y ∈ words, x = ⟨y.1, word y.1, within y.2.1 y.2.2 (word y.1)⟩) ∨
          x = ⟨39, word 39, breakGap⟩ ∨ x = ⟨47, b 47, if b 47 > 1 then 0 else b 47⟩ ∨
          (∃ i < 32, b (49 + 9 * i) ≠ 0 ∧
            ∃ y ∈ [(1, 256, 16383), (3, 50, 1000), (5, 40, 1023)],
              x = ⟨49 + 9 * i + y.1, word (49 + 9 * i + y.1), within y.2.1 y.2.2 (word (49 + 9 * i + y.1))⟩) ∨
          (∃ j < 6, x = ⟨337 + 7 * j + 5, b (337 + 7 * j + 5), min 31 (b (337 + 7 * j + 5))⟩ ∨
            x = ⟨337 + 7 * j + 6, b (337 + 7 * j + 6), min 6 (b (337 + 7 * j + 6))⟩) ∨
          (∃ k < 8, let p := 379 + 5 * k
            (b (p + 1) > 2 ∧ x = ⟨p + 1, b (p + 1), 0⟩) ∨
            (b (p + 1) ≤ 2 ∧ b (p + 4) > 3 ∧ x = ⟨p + 4, b (p + 4), 0⟩))))) ∧
  (SettingsInRange Settings.defaults ∧ ∀ img : List Byte, SettingsInRange (settingsOf img))

/-- The three steps of the rate limit are max(1, floor(a × 20 / 1000)) of the settings after a sound load,
in their ranges. Each of the three resets leaves them 6, 8 and 24, those of the default settings, and
so they stay, for no command but a completed load and a reset changes them. No update runs before the
load completes: in STARTING the update changes nothing. -/
def Obligations.RateStepsComeFromTheSettings : Prop :=
  (∀ (img : List Byte) (s : State), s.held = false → s.node.store = .reading → img.length = 421 →
    structuralFault img = none →
    ∃ t, exec (.storeReadComplete img) s = .next t ∧
      t.gov.stepUp = max 1 (t.node.settings.accelUp * 20 / 1000) ∧
      t.gov.stepDown = max 1 (t.node.settings.accelDown * 20 / 1000) ∧
      t.gov.stepBrake = max 1 (t.node.settings.accelBrake * 20 / 1000) ∧
      (1 ≤ t.gov.stepUp ∧ t.gov.stepUp ≤ 20) ∧ (1 ≤ t.gov.stepDown ∧ t.gov.stepDown ≤ 30) ∧
      (4 ≤ t.gov.stepBrake ∧ t.gov.stepBrake ≤ 60)) ∧
  (∀ (c : Instr) (s t : State), exec c s = .next t →
    let isReset := c = .powerOn ∨ c = .supplyBelowDipThreshold ∨ (∃ b, c = .supplyDip b) ∨
      (c = .serviceRestart ∧ s.held = false ∧ s.svc.answer = some .restarting)
    (isReset → t.gov.stepUp = 6 ∧ t.gov.stepDown = 8 ∧ t.gov.stepBrake = 24) ∧
    (¬isReset → (∀ img, c ≠ .storeReadComplete img) →
      t.gov.stepUp = s.gov.stepUp ∧ t.gov.stepDown = s.gov.stepDown ∧
      t.gov.stepBrake = s.gov.stepBrake)) ∧
  (State.reset.gov.stepUp = 6 ∧ State.reset.gov.stepDown = 8 ∧ State.reset.gov.stepBrake = 24 ∧
    Settings.defaults.accelUp = 300 ∧ Settings.defaults.accelDown = 400 ∧
    Settings.defaults.accelBrake = 1200) ∧
  (∀ s : State, s.node.mode = .starting → exec .governorUpdate s = .next s)

/-- The listen timer's expiry brings the node to RUNNING, starts the governor's update timer at 20 ms,
and, with no position yet, changes nothing else; with a position, CLM makes its position check of the
state so entered, which changes only CLM's state, its messages and the free-value count. The park test: the first condition that holds decides
between a refusal with its cause, the acknowledge gesture and PARKED; a change out of PARKED returns
to RUNNING, the beacon timer re-armed with a jitter draw alone and the cycle timer shortened, and CLM
makes the same check of that state; any other change is taken without action. What the check does is
in ApproachClaimsOrRides and the statements after it. -/
def Obligations.ListenAndParkChangeTheMode : Prop :=
  (∀ s : State, s.held = false → s.node.mode = .listening → s.node.listenTimer.isSome →
     ∃ t, exec .listenTimer s = .next t ∧
       t = positionCheck none none { s with
         node := { s.node with mode := .running, listenTimer := none }
         gov := { s.gov with timer := some 20 } } ∧
       t.node = { s.node with mode := .running, listenTimer := none } ∧
       t.gov = { s.gov with timer := some 20 } ∧
       t = { s with node := t.node, gov := t.gov, clm := t.clm, mail := t.mail, draws := t.draws } ∧
       (s.pos.record.validity = .none → t.clm = s.clm ∧ t.mail = s.mail ∧ t.draws = s.draws)) ∧
  (∀ (s : State) (c : FnChange) (rest : List FnChange), s.held = false → s.mail.nodeChanges = c :: rest →
     let taken : Mail := { s.mail with nodeChanges := rest }
     let refused : ParkCause → StepResult := fun cause => .next { s with mail := { taken with
       posts := s.mail.posts ++ [⟨.node, .parkRefused, .park cause, .num 0, .num 0⟩] } }
     let g := s.node.settings
     let moving := s.gov.speed ≠ 0 ∨ s.pos.speed ≠ 0
     let ownStands := s.cvy.own.trailerLoss ∨ s.cvy.own.standoff ∨ s.cvy.own.intrusion
     let halted := ownStands ∨ s.cvy.foreign ≠ []
     let centred := g.centreTrim - g.deadband ≤ s.drv.throttleWidth ∧
       s.drv.throttleWidth ≤ g.centreTrim + g.deadband
     let claimed := ∃ e ∈ s.clm.entries, e.state ≠ .none
     let result := exec .nodeFunctionChange s
     (s.node.mode = .running → c.new = .park →
       (moving → result = refused .moving) ∧
       (¬moving → halted → ∀ n own, (own = true ↔ ownStands) →
         n = s.cvy.foreign.length + (if own = true then 1 else 0) →
         result = .next { s with mail := { taken with
           posts := s.mail.posts ++ [⟨.node, .haltAcknowledged, .num n, .flag own, .num 0⟩]
           gestures := s.mail.gestures + 1 } }) ∧
       (¬moving → ¬halted → s.drv.failsafe = true → result = refused .failsafe) ∧
       (¬moving → ¬halted → s.drv.failsafe = false → ¬centred → result = refused .throttle) ∧
       (¬moving → ¬halted → s.drv.failsafe = false → centred → claimed → result = refused .claim) ∧
       (¬moving → ¬halted → s.drv.failsafe = false → centred → ¬claimed → result = .next { s with
         mail := taken
         node := { s.node with mode := .parked }
         gov := { s.gov with
           direction := .forward
           lowered := false
           crawl := false
           width := 1500
           timer := none }
         drv := { s.drv with
           output := .neutral
           heldWidth := 1500
           frameTimer := some 20
           brakeLamp := true
           reverseLamp := false } })) ∧
     (s.node.mode = .parked → c.new ≠ .park →
       ∃ t, result = .next t ∧ t.node = { s.node with mode := .running, listenTimer := none } ∧
         t.gov = { s.gov with timer := some 20 } ∧ (∃ j ≤ 15, t.air.beacon = some j) ∧
         (∀ r, s.air.generator = some r → t.air.generator = some (generatorSteps 8 r) ∧
           t.air.beacon = some (generatorSteps 8 r &&& 15#16).toNat) ∧
         t = positionCheck none none { s with
           node := t.node
           gov := t.gov
           trl := t.trl
           mail := taken
           air := t.air } ∧
         (s.pos.record.validity = .none → t.clm = s.clm ∧ t.mail = taken ∧ t.draws = s.draws) ∧
         t.trl = { s.trl with timer := s.trl.timer.map (min 200) } ∧
         t.air = { s.air with generator := t.air.generator, beacon := t.air.beacon } ∧
         t = { s with
           node := t.node
           gov := t.gov
           clm := t.clm
           trl := t.trl
           mail := t.mail
           draws := t.draws
           air := t.air }) ∧
     ((s.node.mode = .running ∧ c.new ≠ .park) ∨ (s.node.mode = .parked ∧ c.new = .park) ∨
       s.node.mode = .starting ∨ s.node.mode = .unconfigured ∨ s.node.mode = .listening →
       result = .next { s with mail := taken }))

/-! ## Position keeping -/

/-- Tag translation: the first enabled window that matches decides; its offset gives section and mark, and
the conditions that make the tag UNMAPPED or BAD_MARK are tested in order. With no match the tag is
UNMAPPED. A mark is at most 63 and its distance at most 63000. -/
def Obligations.FirstMatchingTagWindowDecides : Prop :=
  ∀ (windows : List TagWindow) (sections : List SectionEntry) (tag : TagNumber),
    let hits : TagWindow → Prop := fun w => w.enable = true ∧ tag &&& w.mask = w.base &&& w.mask
    ((∀ w ∈ windows, ¬hits w) → translateTag windows sections tag = .unmapped) ∧
    (∀ before w after, windows = before ++ w :: after → (∀ v ∈ before, ¬hits v) → hits w →
      let offset := (tag &&& ~~~w.mask).toNat
      let sec := w.sectionBase + offset / 2 ^ w.markBits
      let e := sectionAt sections sec
      let distance := offset % 2 ^ w.markBits * e.spacing
      (sec > 31 → translateTag windows sections tag = .unmapped) ∧
      (sec ≤ 31 → e.kind = .absent → translateTag windows sections tag = .unmapped) ∧
      (sec ≤ 31 → e.kind ≠ .absent → distance > e.length →
        translateTag windows sections tag = .badMark) ∧
      (sec ≤ 31 → e.kind ≠ .absent → distance ≤ e.length →
        translateTag windows sections tag = .place sec distance) ∧
      (w.markBits = 0 → sec = w.sectionBase + offset ∧ distance = 0) ∧
      (w.markBits ≤ 6 → e.spacing ≤ 1000 → offset % 2 ^ w.markBits ≤ 63 ∧ distance ≤ 63000))

/-- A tag read that yields no usable place raises its counter and changes nothing else; one in STARTING or
UNCONFIGURED is not even counted; a repeat is ignored, and a stale one raises the STALE counter. An
accepted tag sets the whole position record at once; the facing stays within a section and is decided
by the links, or by the place of the mark, on a change of section or on the first tag, and is turned
round while reversing. CLM then makes its position check on the new record. -/
def Obligations.TagReadsAreRefusedOrAccepted : Prop :=
  (∀ (tag : TagNumber) (s : State), s.held = false →
     let p := s.pos.record
     let place := translateTag s.pos.windows s.pos.sections tag
     let taken := s.node.mode = .listening ∨ s.node.mode = .running ∨ s.node.mode = .parked
     let again := p.lastTag = some tag ∧ p.travel < 500
     let behind : Nat → Prop := fun d =>
       if (p.facing = .fwd ∧ s.gov.direction = .forward) ∨ (p.facing = .rev ∧ s.gov.direction = .reverse)
       then d + 100 < p.distance else d > p.distance + 100
     (¬taken → exec (.tagRead tag) s = .next s) ∧
     (taken → place = .unmapped → exec (.tagRead tag) s = .next (raise .unmapped s)) ∧
     (taken → place = .badMark → exec (.tagRead tag) s = .next (raise .badMark s)) ∧
     (∀ sec d, taken → place = .place sec d → again → exec (.tagRead tag) s = .next s) ∧
     (∀ sec d, taken → place = .place sec d → ¬again →
       p.validity = .valid → p.sec = sec → behind d → exec (.tagRead tag) s = .next (raise .stale s))) ∧
  (∀ (tag : TagNumber) (sec d : Nat) (s : State), s.held = false →
     (s.node.mode = .listening ∨ s.node.mode = .running ∨ s.node.mode = .parked) →
     translateTag s.pos.windows s.pos.sections tag = .place sec d →
     let p := s.pos.record
     let e := sectionAt s.pos.sections sec
     ¬(p.lastTag = some tag ∧ p.travel < 500) →
     ¬(p.validity = .valid ∧ p.sec = sec ∧
       if (p.facing = .fwd ∧ s.gov.direction = .forward) ∨ (p.facing = .rev ∧ s.gov.direction = .reverse)
       then d + 100 < p.distance else d > p.distance + 100) →
     ∃ f : Facing,
       exec (.tagRead tag) s = .next (positionCheck
         (if p.validity = .none then none else some p.sec) none
         { s with pos := { s.pos with record := ⟨sec, f, d, .valid, 0, some tag, 0⟩ } }) ∧
       let turned : Facing → Facing := fun g =>
         if s.gov.direction = .forward then g else if g = .fwd then .rev else .fwd
       (p.validity ≠ .none → p.sec = sec → f = p.facing) ∧
       (p.validity ≠ .none → p.sec ≠ sec → e.nextRev = some p.sec → f = turned .fwd) ∧
       (p.validity ≠ .none → p.sec ≠ sec → e.nextRev ≠ some p.sec → e.nextFwd = some p.sec →
         f = turned .rev) ∧
       (p.validity ≠ .none → p.sec ≠ sec → e.nextRev ≠ some p.sec → e.nextFwd ≠ some p.sec →
         f = turned (if 2 * d < e.length then .fwd else .rev)) ∧
       (p.validity = .none → f = turned (if 2 * d < e.length then .fwd else .rev)))

/-- A wheel pulse counts in the current bin, saturating at 255. With no position it changes nothing else;
with one it moves the record by the whole millimetres of its sixteenths, clamped to the section, and
travel beyond the lost distance makes a VALID record LOST with a POSITION_LOST record. At the bin
timer's expiry measured speed is floor(P × mm per pulse × 10 / 16), at most 1023, of the five bins;
the still count rises at 0 and falls to 0 otherwise; the oldest bin is cleared and becomes the current
one, and the timer runs again for 20 ms. -/
def Obligations.PulsesAndBinsMeasureTravel : Prop :=
  (∀ (bin : Nat) (older : List Nat) (s : State), s.held = false → s.pos.bins = bin :: older →
     let p := s.pos.record
     let total := p.residue + s.node.settings.mmPerPulse
     let mm := total / 16
     let travel := min 65535 (p.travel + mm)
     let rises := (p.facing = .fwd ∧ s.gov.direction = .forward) ∨
       (p.facing = .rev ∧ s.gov.direction = .reverse)
     let distance := min (sectionAt s.pos.sections p.sec).length
       (if rises then p.distance + mm else p.distance - mm)
     let counted := { s.pos with bins := min 255 (bin + 1) :: older }
     let lost := p.validity = .valid ∧ travel > s.node.settings.lostDistance
     let record : Validity → Position := fun v =>
       ⟨p.sec, p.facing, distance, v, travel, p.lastTag, total % 16⟩
     (p.validity = .none → exec .wheelPulse s = .next { s with pos := counted }) ∧
     (p.validity ≠ .none → ¬lost → exec .wheelPulse s =
       .next (positionCheck (some p.sec) (some mm)
         { s with pos := { counted with record := record p.validity } })) ∧
     (lost → exec .wheelPulse s =
       .next (positionCheck (some p.sec) (some mm)
         { s with
           pos := { counted with record := record .lost }
           mail := { s.mail with posts := s.mail.posts ++
             [⟨.pos, .positionLost, .num p.sec, .num distance, .num travel⟩] } }))) ∧
  (∀ (a b c d e : Nat) (s : State), s.held = false → s.pos.binTimer.isSome → s.pos.bins = [a, b, c, d, e] →
     let speed := min 1023 ((a + b + c + d + e) * s.node.settings.mmPerPulse * 10 / 16)
     exec .binTimer s = .next { s with pos := { s.pos with
       speed := speed
       still := if speed = 0 then min 25 (s.pos.still + 1) else 0
       bins := [0, a, b, c, d]
       binTimer := some 20 } })

/-- The position check that follows a tag, a pulse or the entry into RUNNING changes only CLM's table, its
messages and the count of free values; outside RUNNING and before the first tag it changes nothing. In
RUNNING, when the own section has changed to a SINGLE section of the claim table, the node is HOLDING
or in STANDOFF there after it with no tail, whatever it held before. What it becomes: HOLDING and
RIDING in the entry direction hold; CLAIMING is evaluated at once in its own direction and holds with
CLAIM_HELD when no test holds; a STANDOFF stays; every other entry goes to STANDOFF with cause
INTRUSION in the entry direction, with its record and, unless another entry stands so, its own cause.
When two other entries are in use, one not inside leaves the approach; of two inside by their tails the
one with the smaller ends, of equal ones that of the lower section, with a RELEASE.
The direction of the evaluation at entry is DEDUCED (assumption log 21). -/
def Obligations.PositionCheckLeavesOwnSectionHeld : Prop :=
  (∀ (before : Option Nat) (move : Option Nat) (s : State),
    let t := positionCheck before move s
    t = { s with clm := t.clm, mail := t.mail, draws := t.draws } ∧
    (s.node.mode ≠ .running ∨ s.pos.record.validity = .none → t = s) ∧
    (s.node.mode = .running → s.pos.record.validity ≠ .none → before ≠ some s.pos.record.sec →
      ∀ e, claimEntry t s.pos.record.sec = some e →
        (e.state = .holding ∨ e.state = .standoff) ∧ e.tail = 0)) ∧
  (∀ (before : Option Nat) (e : ClaimEntry) (s : State), s.node.mode = .running →
    s.pos.record.validity ≠ .none → before ≠ some s.pos.record.sec →
    (∀ q, before = some q → claimEntry s q = none) → claimEntry s s.pos.record.sec = some e →
    (∀ x, nextElement s = some x → claimEntry s x.sec = none) →
    (s.clm.entries.map (·.sec)).Pairwise (· < ·) → e.holders = [] → e.noted = none →
    let dir : Dir := if s.pos.record.facing = .fwd then .ab else .ba
    let t := positionCheck before none s
    let quiet : ClaimEntry → Prop := fun g => g.state = .none ∧ g.tail = 0 ∧ g.noted = none
    let clearing : ClaimEntry → Prop := fun g =>
      g.state = .holding ∧ 0 < g.tail ∧ g.noted = none ∧ g.holders = []
    let put : ClaimEntry → List ClaimEntry → List ClaimEntry := fun f gs =>
      gs.map (fun g => if g.sec = f.sec then f else g)
    let stays : ClaimEntry → State := fun f => { s with clm := { s.clm with entries := put f s.clm.entries } }
    let intruder : ClaimEntry := { e with
      state := .standoff
      dir := dir
      window := none
      tail := 0
      cause := some .intrusion }
    let told : State → State := fun u => { u with mail := { u.mail with
      clmCauses := u.mail.clmCauses ++ [⟨true, .intrusion⟩]
      posts := u.mail.posts ++ [⟨.clm, .standoff, .num e.sec, .num 0, .role .intrusion⟩] } }
    ((∀ g ∈ s.clm.entries, g.sec ≠ e.sec → quiet g) →
      ((e.state = .holding ∨ e.state = .riding) → e.dir = dir →
        t = stays { e with state := .holding, tail := 0 }) ∧
      (e.state = .standoff → t = stays { e with tail := 0 }) ∧
      (∀ w, e.state = .claiming → e.window = some w → evaluate s e w = none →
        t = { stays { e with state := .holding, window := none, tail := 0 } with mail := { s.mail with
          posts := s.mail.posts ++ [⟨.clm, .claimHeld, .num e.sec, .dir e.dir, .num e.size⟩] } }) ∧
      (∀ w, e.state = .claiming → e.window = some w → evaluate s e w ≠ none → t = told (stays intruder)) ∧
      (e.state = .none ∨ e.state = .waiting → t = told (stays intruder)) ∧
      ((e.state = .holding ∨ e.state = .riding) → e.dir ≠ dir → t = told (stays intruder))) ∧
    (∀ g h, claimEntry s g.sec = some g → claimEntry s h.sec = some h → g.sec < h.sec →
      g.sec ≠ e.sec → h.sec ≠ e.sec → e.state = .none →
      (∀ x ∈ s.clm.entries, x.sec ≠ e.sec → x.sec ≠ g.sec → x.sec ≠ h.sec → quiet x) →
      let ended : ClaimEntry → ClaimEntry := fun x => { x with
        state := .none
        waited := false
        tail := 0
        cause := none }
      let released : ClaimEntry → State := fun x => told { s with
        clm := { s.clm with entries := put intruder (put (ended x) s.clm.entries) }
        mail := { s.mail with releaseRequests := s.mail.releaseRequests ++ [.add (.release [x.sec])] } }
      (clearing g → clearing h → h.tail < g.tail → t = released h) ∧
      (clearing g → clearing h → g.tail ≤ h.tail → t = released g) ∧
      ((g.state = .waiting ∨ g.state = .riding) → g.tail = 0 → g.noted = none → clearing h →
        t = told { s with clm := { s.clm with
          entries := put intruder (put { g with state := .none } s.clm.entries) } })))

/-! ## Telegrams and the receive path -/

/-- Whatever a node can say is read back as it was said: for every telegram in range, of every kind and
with every field at every value, reading the body that the layouts give it yields the telegram. -/
def Obligations.TelegramsReadBackAsSent : Prop :=
  ∀ (layout : Nat) (t : Telegram), TelegramInRange t →
    readBody (bodyOf layout t) = some t ∧
    4 ≤ (bodyOf layout t).length ∧ (bodyOf layout t).length ≤ 24 ∧
    (frameOf layout t).length = (bodyOf layout t).length + 2 ∧ PassesCheck (frameOf layout t)

/-- The body test lets nothing through that is out of range: a body that reads as a telegram has the
length, the form and the source its kind asks for, and fields in the ranges of the layout table. -/
def Obligations.AcceptedBodiesAreInRange : Prop :=
  ∀ (body : List Byte) (t : Telegram), readBody body = some t →
    TelegramInRange t ∧ byteOf body 2 = t.source ∧ byteOf body 3 % 64 = t.number ∧
    match t.matter with
    | .position b => byteOf body 0 = 1 ∧ byteOf body 3 / 64 = 0 ∧ body.length = 17 + b.holds.length
    | .claim _ _ _ _ => byteOf body 0 = 2 ∧ byteOf body 3 / 64 = 0 ∧ body.length = 6
    | .release secs => byteOf body 0 = 3 ∧ byteOf body 3 / 64 = 0 ∧ body.length = 5 + secs.length
    | .halt _ => byteOf body 0 = 4 ∧ byteOf body 3 / 64 = 2 ∧ body.length = 5
    | .resume => byteOf body 0 = 5 ∧ byteOf body 3 / 64 = 2 ∧ body.length = 4

/-- The check byte finds every error with an odd number of wrong bits, and every burst of wrong bits
within 8 bits in the order they are sent. -/
def Obligations.CheckFindsOddAndBurstErrors : Prop :=
  (∀ frame errors : List Byte, PassesCheck frame → errors.length = frame.length →
    bitsSet errors % 2 = 1 → ¬PassesCheck (disturb frame errors)) ∧
  (∀ (before after : List Byte) (x y : Byte) (burst : Byte) (k : Nat),
    PassesCheck (before ++ [x, y] ++ after) → burst ≠ 0 → k ≤ 8 →
    let wide := burst.setWidth 16 <<< k
    ¬PassesCheck (before ++ [x ^^^ (wide >>> 8).setWidth 8, y ^^^ wide.setWidth 8] ++ after))

/-- The receive assembler by the state it is in and the byte that comes: opening, storing, LENGTH drops,
discards, the 5 ms byte gap; in STARTING and UNCONFIGURED every byte is discarded.
The double count of a bad start-marked byte is DEDUCED (assumption log 18). -/
def Obligations.AssemblerTakesBytes : Prop :=
  ∀ (b : Byte) (s : State), s.held = false →
    let taken := s.node.mode = .listening ∨ s.node.mode = .running ∨ s.node.mode = .parked
    let idle := { s with air := { s.air with assembler := .idle, byteGap := none } }
    let opened : State → State := fun u => { u with air := { u.air with
      assembler := .collecting b.toNat [] (crc [b]) s.time
      byteGap := some 5 } }
    let good := 4 ≤ b.toNat ∧ b.toNat ≤ 24
    (¬taken → ∀ start, exec (.receiveByte start b) s = .next s) ∧
    (taken → s.air.assembler = .idle →
      exec (.receiveByte false b) s = .next s ∧
      (good → exec (.receiveByte true b) s = .next (opened s)) ∧
      (¬good → exec (.receiveByte true b) s = .next (raise .length idle))) ∧
    (∀ n bytes r t, taken → s.air.assembler = .collecting n bytes r t →
      (bytes.length < n → exec (.receiveByte false b) s = .next { s with air := { s.air with
        assembler := .collecting n (bytes ++ [b]) (crcByte r b) t
        byteGap := some 5 } }) ∧
      (good → exec (.receiveByte true b) s = .next (opened (raise .length idle))) ∧
      (¬good → exec (.receiveByte true b) s = .next (raise .length (raise .length idle)))) ∧
    (∀ n bytes r t, s.air.assembler = .collecting n bytes r t →
      exec .byteGapTimeout s = .next (raise .length idle)) ∧
    (s.air.assembler = .idle → exec .byteGapTimeout s = .next s)

/-- The completion checks in order: the first that fails decides the one counter that rises, a SELF drop
is journalled once, and a frame that passes all is counted as accepted and dispatched. -/
def Obligations.CompletionChecksDecideInOrder : Prop :=
  ∀ (b : Byte) (n : Nat) (body : List Byte) (r : Byte) (received : Time) (s : State), s.held = false →
    (s.node.mode = .listening ∨ s.node.mode = .running ∨ s.node.mode = .parked) →
    s.air.assembler = .collecting n body r received → body.length = n →
    let idle := { s with air := { s.air with assembler := .idle, byteGap := none } }
    let result := exec (.receiveByte false b) s
    let checkOk := b = r
    let layoutOk := s.air.layoutCode = some (byteOf body 1)
    let kindOk := 1 ≤ byteOf body 0 ∧ byteOf body 0 ≤ 5
    (¬checkOk → result = .next (raise .check idle)) ∧
    (checkOk → ¬layoutOk → result = .next (raise .layout idle)) ∧
    (checkOk → layoutOk → ¬kindOk → result = .next (raise .kind idle)) ∧
    (checkOk → layoutOk → kindOk → readBody body = none → result = .next (raise .body idle)) ∧
    (∀ t, checkOk → layoutOk → kindOk → readBody body = some t →
      let addressedOk := t.matter.isHalt || t.matter.isResume → t.number ≠ 0 ∧ t.number = s.cvy.convoy
      (s.air.station = some t.source →
        (s.air.clashPosted = true → result = .next (raise .self idle)) ∧
        (s.air.clashPosted = false → result = .next { raise .self idle with
          air := { idle.air with clashPosted := true }
          mail := { s.mail with posts := s.mail.posts ++
            [⟨.air, .stationClash, .num (byteOf body 0), .num 0, .num 0⟩] } })) ∧
      (s.air.station ≠ some t.source → ¬addressedOk → result = .next (raise .passed idle)) ∧
      (s.air.station ≠ some t.source → addressedOk →
        result = .next (dispatch ⟨t, received⟩ (raise .accepted idle))))

/-- The filter list decides a source station: the first enabled element that matches gives its action,
RANGE by lo and hi, PAIR by either, MASKED by the masked bits, and with no match the default action
does. -/
def Obligations.FirstMatchingFilterElementDecides : Prop :=
  ∀ (station : Nat) (s : State), station ≤ 63 →
    let hits : FilterElement → Prop := fun e => e.enable = true ∧ match e.matchType with
      | .range => e.first.toNat ≤ station ∧ station ≤ e.second.toNat
      | .pair => station = e.first.toNat ∨ station = e.second.toNat
      | .masked => ∀ i < 6, e.first.getLsbD i = true → station.testBit i = e.second.getLsbD i
    (∀ before e after, s.air.filter = before ++ e :: after → (∀ x ∈ before, ¬hits x) → hits e →
      filterDecision s station = e.action) ∧
    ((∀ x ∈ s.air.filter, ¬hits x) →
      filterDecision s station = if s.node.settings.defaultReject then .reject else .accept)

/-- A frame that another station sends to this node, byte by byte, reaches every owner its kind is
dispatched to whose queue has room: the steps over its bytes end with one more frame accepted, the
telegram with the receive time of its length byte at the end of each of those queues, a dispatch
overflow for each full one, a filtered-out POSITION kept from PEER alone, and nothing else changed. -/
def Obligations.SentFramesReachTheirOwners : Prop :=
  ∀ (layout : Nat) (t : Telegram) (s : State), TelegramInRange t → layout ≤ 255 →
    s.held = false → (s.node.mode = .listening ∨ s.node.mode = .running ∨ s.node.mode = .parked) →
    s.air.assembler = .idle → s.air.layoutCode = some layout → s.air.station ≠ some t.source →
    (t.matter.isHalt || t.matter.isResume → t.number ≠ 0 ∧ t.number = s.cvy.convoy) →
    let frame := frameOf layout t
    let copy : Received := ⟨t, s.time⟩
    let forPeer := t.matter.isPosition && filterDecision s t.source != .reject
    let forCvy := t.matter.isPosition || t.matter.isHalt || t.matter.isResume
    let forClm := !t.matter.isHalt && !t.matter.isResume
    ∃ u, Host.Core.run Sys2Proof.core frame.length (s.setPending (frameCommands frame)) = .next u ∧
      u.svc.counters.accepted = min 65535 (s.svc.counters.accepted + 1) ∧
      u.air.peerQueue = (if forPeer ∧ s.air.peerQueue.length < 4 then
        s.air.peerQueue ++ [(copy, filterDecision s t.source)] else s.air.peerQueue) ∧
      u.air.cvyQueue = (if forCvy ∧ s.air.cvyQueue.length < 4 then
        s.air.cvyQueue ++ [copy] else s.air.cvyQueue) ∧
      u.air.clmQueue = (if forClm ∧ s.air.clmQueue.length < 4 then
        s.air.clmQueue ++ [copy] else s.air.clmQueue) ∧
      (s.svc.counters.overflow ≤ 65535 → u.svc.counters.overflow = min 65535 (s.svc.counters.overflow +
        (if forPeer ∧ 4 ≤ s.air.peerQueue.length then 1 else 0) +
        (if forCvy ∧ 4 ≤ s.air.cvyQueue.length then 1 else 0) +
        (if forClm ∧ 4 ≤ s.air.clmQueue.length then 1 else 0))) ∧
      u.svc.counters.filteredOut = (if t.matter.isPosition && filterDecision s t.source == .reject then
        min 65535 (s.svc.counters.filteredOut + 1) else s.svc.counters.filteredOut) ∧
      u = { s with
        pending := []
        air := { s.air with
          peerQueue := u.air.peerQueue
          cvyQueue := u.air.cvyQueue
          clmQueue := u.air.clmQueue
          assembler := .idle
          byteGap := none }
        svc := { s.svc with counters := { s.svc.counters with
          accepted := u.svc.counters.accepted
          overflow := u.svc.counters.overflow
          filteredOut := u.svc.counters.filteredOut } } }

/-! ## The peer table -/

/-- PEER takes a POSITION: the station's entry is replaced in place, keeping a pinned mark; a newcomer
takes the lowest free index; in a full table a relevant one takes the oldest entry that is neither
pinned nor the rig ahead, the lowest index of equally old ones; otherwise it is dropped and counted. A
new entry decided WATCH is journalled. -/
def Obligations.PeerTableTakesAPosition : Prop :=
  ∀ (st num : Nat) (b : Beacon) (tm : Time) (d : FilterAction) (rest : List (Received × FilterAction))
    (s : State), s.held = false → s.air.peerQueue = (⟨⟨st, num, .position b⟩, tm⟩, d) :: rest →
    let table := s.peer.entries
    let entry : Bool → PeerEntry := fun pinned =>
      ⟨st, b.convoy, b.rank, b.pred, b.sec, b.facing, b.distance, b.speed, b.length, b.valid, b.parked,
        b.halted, b.overlength, b.reversing, pinned, tm⟩
    let written : Nat → Bool → State := fun i pinned => { s with
      air := { s.air with peerQueue := rest }
      peer := { s.peer with entries := table.set i (some (entry pinned)) } }
    let watched : State → State := fun u => if d = .watch then { u with
      mail := { u.mail with posts := u.mail.posts ++ [⟨.peer, .watchedPeer, .num st, .num 0, .num 0⟩] } }
      else u
    let isSt : Option PeerEntry → Prop := fun o => ∃ e, o = some e ∧ e.station = st
    let relevant := (b.valid = true ∧ s.pos.record.validity ≠ .none ∧ b.sec = s.pos.record.sec) ∨
      (b.valid = true ∧ ∃ x ∈ chain s, x.sec = b.sec) ∨
      (b.valid = true ∧ (sectionAt s.pos.sections b.sec).kind = .single ∧
        ∃ e ∈ s.clm.entries, e.sec = b.sec ∧ e.state ≠ .none) ∨
      (s.cvy.convoy ≠ 0 ∧ b.convoy = s.cvy.convoy)
    let mayGo : PeerEntry → Prop := fun v =>
      v.pinned = false ∧ ∀ a, rigAhead s = some a → a.entry.station ≠ v.station
    let result := exec .peerTakesPosition s
    (∀ i old, table[i]? = some (some old) → old.station = st → (∀ j < i, ∀ o, table[j]? = some o → ¬isSt o) →
      result = .next (written i (old.pinned || d == .pin))) ∧
    (∀ i, (∀ o ∈ table, ¬isSt o) → table[i]? = some none → (∀ j < i, table[j]? ≠ some none) →
      result = .next (watched (written i (d == .pin)))) ∧
    ((∀ o ∈ table, ¬isSt o) → none ∉ table →
      (∀ i v, relevant → table[i]? = some (some v) → mayGo v →
        (∀ j w, table[j]? = some (some w) → mayGo w →
          age s.time w.received < age s.time v.received ∨
            (age s.time w.received = age s.time v.received ∧ i ≤ j)) →
        result = .next (watched (written i (d == .pin)))) ∧
      (¬relevant ∨ (∀ v, some v ∈ table → ¬mayGo v) →
        result = .next (raise .peerDropped { s with air := { s.air with peerQueue := rest } })))

/-- The look-ahead chain starts with the own section, its span the boundary distance, and follows the
links in the entry facing: it ends at a YARD, at END, at a section it holds already and at three
elements; a further element has the entry facing of a rig crossing into it, its full length as span
and an offset that sums the spans before it. A peer counts as ahead by its raw offset: none for one
that is not fresh, has VALID clear, stands off the chain or faces against it; else the place its
report projects to, measured from the own place in the own section and from the entry end of a further
one. The rig ahead is the one of smallest raw offset that is not negative, the lowest station of equal
ones; its gap is the offset less its rig length, within 0..16383, and the answer with no rig ahead has
gap 16383. The gap to a named station is that station's own. -/
def Obligations.RigAheadIsTheNearest : Prop :=
  (∀ s : State,
    let p := s.pos.record
    let tab := sectionAt s.pos.sections
    let linkOf : ChainElement → Option Nat := fun x =>
      if x.facing = .fwd then (tab x.sec).nextFwd else (tab x.sec).nextRev
    let span := if p.facing = .fwd then (tab p.sec).length - p.distance else p.distance
    (p.validity = .none → chain s = [] ∧ boundary s = none ∧ nextElement s = none) ∧
    (p.validity ≠ .none →
      (chain s)[0]? =
        some ⟨p.sec, (tab p.sec).kind, (tab p.sec).length, (tab p.sec).cap, p.facing, 0, span⟩ ∧
      boundary s = some span) ∧
    nextElement s = (chain s)[1]? ∧
    (∀ i x, (chain s)[i]? = some x →
      let seen := ((chain s).take (i + 1)).map (·.sec)
      (x.kind = .yard ∨ i ≥ 2 ∨ linkOf x = none ∨ (∃ u ∈ seen, linkOf x = some u) →
        (chain s).length = i + 1) ∧
      (∀ u, x.kind ≠ .yard → i < 2 → linkOf x = some u → u ∉ seen →
        (chain s)[i + 1]? = some ⟨u, (tab u).kind, (tab u).length, (tab u).cap,
          if (tab u).nextRev = some x.sec then .fwd else if (tab u).nextFwd = some x.sec then .rev else .fwd,
          x.offset + x.span, (tab u).length⟩)) ∧
    (∀ sec i x, chainElement s sec = some (i, x) ↔ (chain s)[i]? = some x ∧ x.sec = sec)) ∧
  (∀ s : State,
    (∀ e, (e.valid = false ∨ peerFresh s e = false ∨ (∀ x ∈ chain s, x.sec ≠ e.sec) ∨
      (∀ x ∈ chain s, x.sec = e.sec → x.facing ≠ e.facing)) → rawOffset s e = none) ∧
    (∀ e i x, e.valid = true → peerFresh s e = true → (chain s)[i]? = some x → x.sec = e.sec →
      x.facing = e.facing →
      let travel := e.speed * age s.time e.received / 1000
      let onward := (e.facing = .fwd ∧ e.reversing = false) ∨ (e.facing = .rev ∧ e.reversing = true)
      let place := min (sectionAt s.pos.sections e.sec).length
        (if onward then e.distance + travel else e.distance - travel)
      let own := s.pos.record.distance
      (i = 0 → rawOffset s e =
        some (if x.facing = .fwd then (place : Int) - own else (own : Int) - place)) ∧
      (i ≠ 0 → rawOffset s e =
        some (Int.ofNat (x.offset + if x.facing = .fwd then place else x.length - place)))) ∧
    (∀ e, peerFresh s e = true ↔ age s.time e.received ≤ 32767 ∧
      age s.time e.received ≤ (if e.parked then 3000 else s.node.settings.peerLapse)) ∧
    (rigAhead s = none ↔ ∀ e r, some e ∈ s.peer.entries → rawOffset s e ≠ some (Int.ofNat r)) ∧
    (∀ a, rigAhead s = some a → some a.entry ∈ s.peer.entries ∧
      rawOffset s a.entry = some (Int.ofNat a.offset) ∧ a.gap = min 16383 (a.offset - a.entry.length) ∧
      ∀ e r, some e ∈ s.peer.entries → rawOffset s e = some (Int.ofNat r) →
        a.offset < r ∨ (a.offset = r ∧ a.entry.station ≤ e.station)) ∧
    (rigAhead s = none → rigAheadAnswer s = ⟨none, 16383⟩) ∧
    (∀ a, rigAhead s = some a → rigAheadAnswer s = ⟨some a, a.gap⟩) ∧
    (∀ st, (∀ e, some e ∈ s.peer.entries → e.station ≠ st) → gapTo s st = none) ∧
    (∀ (i : Nat) (e : PeerEntry), s.peer.entries[i]? = some (some e) →
      (∀ j < i, ∀ x : PeerEntry, s.peer.entries[j]? = some (some x) → x.station ≠ e.station) →
      (∀ r, rawOffset s e = some (Int.ofNat r) → gapTo s e.station = some (min 16383 (r - e.length))) ∧
      ((∀ r, rawOffset s e ≠ some (Int.ofNat r)) → gapTo s e.station = none)))

/-- At each expiry of their sweep timers PEER frees exactly the entries that are not fresh, and CVY
removes exactly the members that are not, after which a LEADER with no fresh member naming it as pred
leaves; both timers run again for 100 ms. At each expiry of its sweep timer CLM keeps exactly the
records and last-hold-heard times that are fresh, whatever the review then makes of the entries, and
the timer runs again for 100 ms.
The leader test at every expiry is DEDUCED (assumption log 28). -/
def Obligations.SweepsRemoveWhatHasLapsed : Prop :=
  (∀ s : State, s.held = false →
     let lapse : Bool → Nat := fun parked => if parked then 3000 else s.node.settings.peerLapse
     let fresh : Time → Bool → Bool := fun t parked =>
       decide (age s.time t ≤ lapse parked ∧ age s.time t ≤ 32767)
     let members := s.cvy.members.filter (fun m => fresh m.lastHeard m.parked)
     let swept := { s.cvy with members := members, sweep := some 100 }
     (s.peer.sweep.isSome → exec .peerSweep s = .next { s with peer :=
       ⟨s.peer.entries.map (fun o => o.filter (fun e => fresh e.received e.parked)), some 100⟩ }) ∧
     (s.cvy.sweep.isSome →
       (s.cvy.role ≠ .leader ∨ (∃ m ∈ members, m.pred = ownStation s) →
         exec .cvySweep s = .next { s with cvy := swept }) ∧
       (s.cvy.role = .leader → (∀ m ∈ members, m.pred ≠ ownStation s) →
         exec .cvySweep s = .next { s with
           cvy := { swept with
             role := .solo
             convoy := 0
             rank := 0
             pred := 0
             members := []
             foreign := [] }
           mail := { s.mail with posts := s.mail.posts ++
             [⟨.cvy, .convoyLeft, .leave .noFollower, .num s.cvy.convoy, .num s.cvy.rank⟩] } }))) ∧
  (∀ s : State, s.held = false → s.clm.sweep.isSome → (s.clm.entries.map (·.sec)).Nodup →
     let fresh : Time → Bool := fun t =>
       decide (age s.time t ≤ s.node.settings.peerLapse ∧ age s.time t ≤ 32767)
     ∃ t, exec .clmSweep s = .next t ∧ t.clm.sweep = some 100 ∧
       t = { s with clm := t.clm, mail := t.mail, draws := t.draws } ∧
       t.clm.entries.map (·.sec) = s.clm.entries.map (·.sec) ∧
       ∀ y e, claimEntry s y = some e → ∃ f, claimEntry t y = some f ∧
         f.holders = e.holders.filter (fun h => fresh h.lastHeard) ∧
         f.claimants = e.claimants.filter (fun c => fresh c.received) ∧
         f.heardAB = e.heardAB.filter fresh ∧ f.heardBA = e.heardBA.filter fresh)

/-! ## The convoy unit -/

/-- A stale POSITION is discarded. A fresh one that names a SOLO node as pred and convoy makes it LEADER
with that member; one from a FOLLOWER's pred moves it to the convoy and rank it derives, emptying
roster and foreign halts when the convoy is new and telling a standing own halt to it, or makes it
leave at a rank of 9; in an unchanged convoy the pred keeps its place in the roster, or leaves it when
its own convoy ID differs, and in a full roster replaces the last member when its rank is lower.
The derived rank is DEDUCED (assumption log 25). -/
def Obligations.BeaconsMakeLeadersAndMoveFollowers : Prop :=
  ∀ (st num : Nat) (b : Beacon) (tm : Time) (rest : List Received) (s : State), s.held = false →
    s.air.cvyQueue = ⟨⟨st, num, .position b⟩, tm⟩ :: rest →
    let own := ownStation s
    let a := age s.time tm
    let fresh := a ≤ (if b.parked then 3000 else s.node.settings.peerLapse) ∧ a ≤ 32767
    let popped := { s with air := { s.air with cvyQueue := rest } }
    let member : Member := ⟨st, b.rank, b.pred, b.sec, b.facing, b.distance, b.parked, tm⟩
    let lifted := if b.halted then s.cvy.foreign else s.cvy.foreign.filter (fun x => x.1 != st)
    let others := s.cvy.members.filter (fun m => m.station != st)
    let known := ∃ m ∈ s.cvy.members, m.station = st
    let told : Cvy → Mail → State := fun c m => match s.cvy.own.first with
      | none => { popped with cvy := c, mail := m }
      | some cause => { popped with
        cvy := { c with retryUsed := false }
        mail := { m with haltRequests := m.haltRequests ++ [.add (.halt cause)] } }
    let posted : Post → Mail := fun p => { s.mail with posts := s.mail.posts ++ [p] }
    let convoy := if b.convoy = 0 then s.cvy.pred else b.convoy
    let rank := if b.convoy = 0 then 2 else b.rank + 1
    let result := exec .cvyTakesPosition s
    (¬fresh → result = .next popped) ∧
    (fresh → s.cvy.role = .solo → b.pred = own → b.convoy = own →
      result = .next (told
        { s.cvy with
          role := .leader
          convoy := own
          rank := 1
          pred := 0
          members := [member]
          foreign := lifted }
        (posted ⟨.cvy, .convoyLed, .num st, .num 0, .num 0⟩))) ∧
    (fresh → s.cvy.role = .solo → ¬(b.pred = own ∧ b.convoy = own) →
      result = .next { popped with cvy := { s.cvy with foreign := lifted } }) ∧
    (fresh → s.cvy.role = .follower → st = s.cvy.pred → rank > 8 →
      result = .next { popped with
        cvy := { s.cvy with
          role := .solo
          convoy := 0
          rank := 0
          pred := 0
          members := []
          foreign := [] }
        mail := posted ⟨.cvy, .convoyLeft, .leave .rankLimit, .num s.cvy.convoy, .num s.cvy.rank⟩ }) ∧
    (fresh → s.cvy.role = .follower → st = s.cvy.pred → rank ≤ 8 → convoy ≠ s.cvy.convoy →
      result = .next (told
        { s.cvy with
          convoy := convoy
          rank := rank
          members := if b.convoy = convoy then [member] else []
          foreign := [] }
        (posted ⟨.cvy, .convoyJoined, .num s.cvy.pred, .num convoy, .num rank⟩))) ∧
    (fresh → s.cvy.role = .follower → st = s.cvy.pred → rank ≤ 8 → convoy = s.cvy.convoy →
      ∃ t, result = .next t ∧ t.cvy = { s.cvy with
        rank := rank
        members := t.cvy.members
        foreign := lifted } ∧ t = { popped with cvy := t.cvy } ∧
        (b.convoy ≠ convoy → t.cvy.members = others) ∧
        (b.convoy = convoy → (known ∨ s.cvy.members.length < 7) →
          t.cvy.members = insertMember s.pos.sections member others) ∧
        (b.convoy = convoy → ¬known → s.cvy.members.length ≥ 7 → ∀ front last,
          s.cvy.members = front ++ [last] → t.cvy.members =
            if b.rank < last.rank then insertMember s.pos.sections member front else s.cvy.members))

/-- A LEADER, or a FOLLOWER hearing another than its pred, takes the source of a fresh POSITION into the
roster or out of it by its convoy ID; a ninth enters only in place of the last member when its rank is
lower; a LEADER left without a fresh member naming it as pred leaves. A clear HALTED flag lifts the
source's halt. Putting a member in its place keeps every member, adds that one, and keeps the roster
order: by rank, then by progress, greatest first, then by station.
That the leader test of a replacement comes with the newcomer in its place is the model's choice
(assumption log 31). -/
def Obligations.MembershipFollowsTheConvoy : Prop :=
  (∀ (st num : Nat) (b : Beacon) (tm : Time) (rest : List Received) (s : State), s.held = false →
     s.air.cvyQueue = ⟨⟨st, num, .position b⟩, tm⟩ :: rest →
     isFresh s.time tm (if b.parked then 3000 else s.node.settings.peerLapse) = true →
     s.cvy.role = .leader ∨ (s.cvy.role = .follower ∧ st ≠ s.cvy.pred) →
     let member : Member := ⟨st, b.rank, b.pred, b.sec, b.facing, b.distance, b.parked, tm⟩
     let lifted := if b.halted then s.cvy.foreign else s.cvy.foreign.filter (fun x => x.1 != st)
     let others := s.cvy.members.filter (fun m => m.station != st)
     let known := ∃ m ∈ s.cvy.members, m.station = st
     let popped := { s with air := { s.air with cvyQueue := rest } }
     let roster : List Member → StepResult := fun ms =>
       .next { popped with cvy := { s.cvy with members := ms, foreign := lifted } }
     let leads : List Member → Prop := fun ms =>
       ∃ m ∈ ms, m.pred = ownStation s ∧
         isFresh s.time m.lastHeard (if m.parked then 3000 else s.node.settings.peerLapse) = true
     let left : StepResult := .next { popped with
       cvy := { s.cvy with
         role := .solo
         convoy := 0
         rank := 0
         pred := 0
         members := []
         foreign := [] }
       mail := { s.mail with posts := s.mail.posts ++
         [⟨.cvy, .convoyLeft, .leave .noFollower, .num s.cvy.convoy, .num s.cvy.rank⟩] } }
     let result := exec .cvyTakesPosition s
     (b.convoy ≠ s.cvy.convoy → ¬known → result = roster s.cvy.members) ∧
     (b.convoy = s.cvy.convoy → ¬known → s.cvy.members.length < 7 →
       result = roster (insertMember s.pos.sections member s.cvy.members)) ∧
     (b.convoy = s.cvy.convoy → ¬known → s.cvy.members.length ≥ 7 → ∀ front last,
       s.cvy.members = front ++ [last] → last.rank ≤ b.rank → result = roster s.cvy.members) ∧
     (b.convoy = s.cvy.convoy → ¬known → s.cvy.members.length ≥ 7 → ∀ front last,
       s.cvy.members = front ++ [last] → b.rank < last.rank →
       (s.cvy.role = .leader → leads (insertMember s.pos.sections member front)) →
       result = roster (insertMember s.pos.sections member front)) ∧
     (b.convoy = s.cvy.convoy → ¬known → s.cvy.members.length ≥ 7 → ∀ front last,
       s.cvy.members = front ++ [last] → b.rank < last.rank → s.cvy.role = .leader →
       ¬leads (insertMember s.pos.sections member front) → result = left) ∧
     (b.convoy = s.cvy.convoy → known →
       (s.cvy.role = .leader → leads (insertMember s.pos.sections member others) ∨
         ∀ m ∈ s.cvy.members, m.station = st → m.pred = b.pred) →
       result = roster (insertMember s.pos.sections member others)) ∧
     (b.convoy ≠ s.cvy.convoy → known → (s.cvy.role = .leader → leads others) → result = roster others) ∧
     (b.convoy ≠ s.cvy.convoy → known → s.cvy.role = .leader → ¬leads others → result = left) ∧
     (b.convoy = s.cvy.convoy → known → s.cvy.role = .leader →
       (∀ m ∈ s.cvy.members, m.station = st → m.pred ≠ b.pred) →
       ¬leads (insertMember s.pos.sections member others) → result = left)) ∧
  (∀ (sections : List SectionEntry) (m : Member) (ms : List Member),
     let inOrder : Member → Member → Prop := fun a b => b.before sections a = false
     let length : Nat → Int := fun i =>
       if (sectionAt sections i).kind = .absent then 0 else (sectionAt sections i).length
     let place : Member → Int := fun x =>
       if x.facing = .fwd then x.distance else length x.sec - x.distance
     (∀ a b : Member, a.before sections b = true ↔ a.rank < b.rank ∨ (a.rank = b.rank ∧
       (place a > place b ∨ (place a = place b ∧ a.station < b.station)))) ∧
     (insertMember sections m ms).Perm (m :: ms) ∧
     (ms.Pairwise inOrder → (insertMember sections m ms).Pairwise inOrder))

/-- The role check of each governor update: a SOLO node joins behind the rig ahead when all join
conditions hold and otherwise stays as it is; a FOLLOWER leaves with the first leave test that holds;
a LEADER stays. A change of the function position to SOLO or PARK makes a FOLLOWER leave at once.
The derived rank is DEDUCED (assumption log 25). -/
def Obligations.RoleCheckJoinsAndLeaves : Prop :=
  ∀ s : State,
    let own := ownStation s
    let joins : Ahead → Prop := fun a => s.drv.position = .convoy ∧ s.pos.record.validity = .valid ∧
      haltSetEmpty s.cvy = true ∧ a.gap ≤ s.node.settings.joinGap ∧ a.entry.parked = false ∧
      a.entry.halted = false ∧ a.entry.rank < 8 ∧ a.entry.convoy ≠ own ∧ a.entry.pred ≠ own
    let left : LeaveCause → Mail → State := fun cause m => { s with
      cvy := { s.cvy with
        role := .solo
        convoy := 0
        rank := 0
        pred := 0
        members := []
        foreign := [] }
      mail := { m with posts := m.posts ++
        [⟨.cvy, .convoyLeft, .leave cause, .num s.cvy.convoy, .num s.cvy.rank⟩] } }
    let away := s.drv.position ≠ .convoy
    let lapsed := ∀ e, peerOf s s.cvy.pred = some e → peerFresh s e = false
    let apart := ∀ g, gapTo s s.cvy.pred = some g → g > s.node.settings.breakGap
    let cutIn := ∀ a, rigAhead s = some a → a.entry.station ≠ s.cvy.pred
    (s.cvy.role = .leader → roleCheck s = s) ∧
    (s.cvy.role = .solo → (∀ a, rigAhead s = some a → ¬joins a) → roleCheck s = s) ∧
    (∀ a, s.cvy.role = .solo → rigAhead s = some a → joins a →
      let convoy := if a.entry.convoy = 0 then a.entry.station else a.entry.convoy
      let rank := if a.entry.rank = 0 then 2 else a.entry.rank + 1
      roleCheck s = { s with
        cvy := { s.cvy with
          role := .follower
          pred := a.entry.station
          convoy := convoy
          rank := rank
          members := [] }
        mail := { s.mail with posts := s.mail.posts ++
          [⟨.cvy, .convoyJoined, .num a.entry.station, .num convoy, .num rank⟩] } }) ∧
    (s.cvy.role = .follower →
      (away → roleCheck s = left .function s.mail) ∧
      (¬away → lapsed → roleCheck s = left .predLapsed s.mail) ∧
      (¬away → ¬lapsed → apart → roleCheck s = left .breakGap s.mail) ∧
      (¬away → ¬lapsed → ¬apart → cutIn → roleCheck s = left .cutIn s.mail) ∧
      (¬away → ¬lapsed → ¬apart → ¬cutIn → roleCheck s = s)) ∧
    (∀ c rest, s.held = false → s.mail.cvyChanges = c :: rest →
      let taken := { s.mail with cvyChanges := rest }
      (s.cvy.role = .follower → c.new ≠ .convoy →
        exec .cvyFunctionChange s = .next (left .function taken)) ∧
      (s.cvy.role ≠ .follower ∨ c.new = .convoy →
        exec .cvyFunctionChange s = .next { s with mail := taken }))

/-- A HALT addressed to the present convoy replaces its source's cause, or is added to at most seven
foreign entries, and is journalled; with seven others it is not recorded, and that is journalled too.
A RESUME removes its source's entry. One addressed to another convoy is discarded. A notice of the
HALT slot: SENT returns retry used to no; CANCELLED and SENT_DESPITE_CANCEL need nothing; ABORTED
reposts the content once while it still stands for the present state, a HALT with the first present
cause.
The order of two records is free, the order of the foreign entries is the model's choice, and retry used
is DEDUCED (assumption log 14, 22, 32). -/
def Obligations.HaltsAreHeardAndReposted : Prop :=
  (∀ (st num : Nat) (tm : Time) (rest : List Received) (s : State), s.held = false →
     let popped := { s with air := { s.air with cvyQueue := rest } }
     let known := ∃ x ∈ s.cvy.foreign, x.1 = st
     (∀ cause, s.air.cvyQueue = ⟨⟨st, num, .halt cause⟩, tm⟩ :: rest →
       let heard : Post := ⟨.cvy, .haltHeard, .num st, .halt cause, .num 0⟩
       let full : Post := ⟨.cvy, .haltSetFull, .num st, .num 0, .num 0⟩
       let recorded : List (Nat × HaltCause) → StepResult := fun f => .next { popped with
         cvy := { s.cvy with foreign := f }
         mail := { s.mail with posts := s.mail.posts ++ [heard] } }
       let result := exec .cvyTakesHalt s
       (num ≠ s.cvy.convoy → result = .next popped) ∧
       (num = s.cvy.convoy → known →
         result = recorded (s.cvy.foreign.map (fun x => if x.1 = st then (st, cause) else x))) ∧
       (num = s.cvy.convoy → ¬known → s.cvy.foreign.length < 7 →
         result = recorded (s.cvy.foreign ++ [(st, cause)])) ∧
       (num = s.cvy.convoy → ¬known → s.cvy.foreign.length ≥ 7 → ∃ both,
         (both = [heard, full] ∨ both = [full, heard]) ∧
         result = .next { popped with
           mail := { s.mail with posts := s.mail.posts ++ both }
           draws := s.draws + 1 })) ∧
     (s.air.cvyQueue = ⟨⟨st, num, .resume⟩, tm⟩ :: rest →
       (num ≠ s.cvy.convoy → exec .cvyTakesResume s = .next popped) ∧
       (num = s.cvy.convoy → exec .cvyTakesResume s = .next { popped with
         cvy := { s.cvy with foreign := s.cvy.foreign.filter (fun x => x.1 != st) } }))) ∧
  (∀ (n : Notice) (rest : List Notice) (s : State), s.held = false → s.mail.haltNotices = n :: rest →
     let taken := { s.mail with haltNotices := rest }
     let nothing : StepResult := .next { s with mail := taken }
     let repost : Content → StepResult := fun c => .next { s with
       cvy := { s.cvy with retryUsed := true }
       mail := { taken with haltRequests := taken.haltRequests ++ [.add c] } }
     let own := s.cvy.own
     let first : Option HaltCause :=
       if own.trailerLoss then some .trailerLoss else if own.standoff then some .standoff
       else if own.intrusion then some .intrusion else none
     let result := exec .cvyHaltNotice s
     (n.outcome = .sent → result = .next { s with cvy := { s.cvy with retryUsed := false }, mail := taken }) ∧
     (n.outcome = .cancelled ∨ n.outcome = .sentDespiteCancel → result = nothing) ∧
     (n.outcome = .aborted → (s.cvy.retryUsed = true ∨ s.cvy.role = .solo) → result = nothing) ∧
     (n.outcome = .aborted → s.cvy.retryUsed = false → s.cvy.role ≠ .solo →
       (∀ c c', n.content = some (.halt c) → first = some c' → result = repost (.halt c')) ∧
       (∀ c, n.content = some (.halt c) → first = none → result = nothing) ∧
       (n.content = some .resume → first = none → result = repost .resume) ∧
       (n.content = some .resume → first ≠ none → result = nothing)))

/-- Adding an own cause that was absent posts a HALT with it unless the node is SOLO; removing the last
own cause posts a RESUME unless it is SOLO; the acknowledge gesture empties the whole halt set and
posts a RESUME when the own entry stood and the node is not SOLO. An add of a present cause and a
remove of an absent one change nothing. -/
def Obligations.OwnCausesRaiseAndLiftHalts : Prop :=
  ∀ (src : CauseSource) (cause : HaltCause) (rest : List CauseRequest) (s : State), s.held = false →
    let taken : Mail := match src with
      | .trl => { s.mail with trlCauses := rest }
      | .clm => { s.mail with clmCauses := rest }
    let queue := match src with
      | .trl => s.mail.trlCauses
      | .clm => s.mail.clmCauses
    let own := s.cvy.own
    let quiet : OwnCauses → StepResult := fun o =>
      .next { s with cvy := { s.cvy with own := o }, mail := taken }
    let telling : OwnCauses → Content → StepResult := fun o c => .next { s with
      cvy := { s.cvy with own := o, retryUsed := false }
      mail := { taken with haltRequests := taken.haltRequests ++ [.add c] } }
    let without : OwnCauses := match cause with
      | .trailerLoss => { own with trailerLoss := false }
      | .standoff => { own with standoff := false }
      | .intrusion => { own with intrusion := false }
    let withIt : OwnCauses := match cause with
      | .trailerLoss => { own with trailerLoss := true }
      | .standoff => { own with standoff := true }
      | .intrusion => { own with intrusion := true }
    (queue = ⟨true, cause⟩ :: rest →
      (own = withIt → exec (.ownCauseAdd src) s = quiet own) ∧
      (own ≠ withIt → s.cvy.role = .solo → exec (.ownCauseAdd src) s = quiet withIt) ∧
      (own ≠ withIt → s.cvy.role ≠ .solo → exec (.ownCauseAdd src) s = telling withIt (.halt cause))) ∧
    (queue = ⟨false, cause⟩ :: rest →
      (own = without → exec (.ownCauseRemove src) s = quiet own) ∧
      (own ≠ without → (s.cvy.role = .solo ∨ without ≠ ⟨false, false, false⟩) →
        exec (.ownCauseRemove src) s = quiet without) ∧
      (own ≠ without → s.cvy.role ≠ .solo → without = ⟨false, false, false⟩ →
        exec (.ownCauseRemove src) s = telling without .resume)) ∧
    (∀ n, s.mail.gestures = n + 1 →
      let mail := { s.mail with gestures := n }
      (own = ⟨false, false, false⟩ ∨ s.cvy.role = .solo → exec .acknowledgeGesture s = .next { s with
        cvy := { s.cvy with own := ⟨false, false, false⟩, foreign := [] }, mail := mail }) ∧
      (own ≠ ⟨false, false, false⟩ → s.cvy.role ≠ .solo → exec .acknowledgeGesture s = .next { s with
        cvy := { s.cvy with own := ⟨false, false, false⟩, foreign := [], retryUsed := false }
        mail := { mail with haltRequests := mail.haltRequests ++ [.add .resume] } }))

/-! ## The claim unit -/

/-- With no change of section (or on entering RUNNING outside every SINGLE section), and other entries at
most clearing by their tails, the position check claims the SINGLE section that is next along travel once the boundary is within the approach distance: a
FOLLOWER whose pred holds or rides it the same way RIDES, and otherwise the entry CLAIMS with the
convoy size of now, a CLAIM posted, its request number kept, and a window of the claim window setting.
With two other entries in use the approach is deferred: nothing changes, and the governor is asked to
stop short of the section. Off the approach the check changes nothing. An entry whose section is no
longer next, or whose boundary is beyond the approach distance by more than 100 mm, leaves the
approach: a claim is abandoned with a cancel request and its posts marked cancelled, WAITING and
RIDING end, a hold not inside is released; a claim within the 100 mm band stands.
The number foreseen is DEDUCED (assumption log 8). -/
def Obligations.ApproachClaimsOrRides : Prop :=
  (∀ (before move : Option Nat) (s : State), s.node.mode = .running → s.pos.record.validity ≠ .none →
    (before = some s.pos.record.sec ∨ (before = none ∧ claimEntry s s.pos.record.sec = none)) →
    (s.clm.entries.map (·.sec)).Nodup → (move = none ∨ ∀ e ∈ s.clm.entries, e.tail = 0) →
    let clearing : ClaimEntry → Prop := fun e => e.state = .holding ∧ 0 < e.tail ∧ e.holders = []
    (∀ e ∈ s.clm.entries, e.noted = none ∧ (e.state = .none ∨ clearing e)) →
    let t := positionCheck before move s
    let near := ∃ b, boundary s = some b ∧ b ≤ s.node.settings.approachDistance
    let busy := (s.clm.entries.filter (fun e => e.state == .holding)).length
    (¬near → t = s) ∧
    ((∀ x e, nextElement s = some x → claimEntry s x.sec = some e → x.kind ≠ .single ∨ e.state ≠ .none) →
      t = s) ∧
    (∀ x e, near → nextElement s = some x → x.kind = .single → claimEntry s x.sec = some e →
      e.state = .none → 2 ≤ busy → t = s ∧ (∀ b, boundary s = some b →
        stopRequirement s = .atMark ((b : Int) - s.node.settings.stopMargin))) ∧
    (∀ x e, near → nextElement s = some x → x.kind = .single → claimEntry s x.sec = some e →
      e.state = .none → busy ≤ 1 →
      let dir : Dir := if x.facing = .fwd then .ab else .ba
      let behind := s.cvy.role = .follower ∧ ∃ h ∈ e.holders, h.station = s.cvy.pred ∧ h.dir = dir ∧
        age s.time h.lastHeard ≤ s.node.settings.peerLapse ∧ age s.time h.lastHeard ≤ 32767
      let size := if s.cvy.role = .solo then 1 else s.cvy.members.length + 1
      (∀ y, y ≠ x.sec → claimEntry t y = claimEntry s y) ∧
      (behind → claimEntry t x.sec = some { e with state := .riding, dir := dir } ∧
        t = { s with clm := { s.clm with entries := t.clm.entries } }) ∧
      (¬behind → claimEntry t x.sec = some { e with
          state := .claiming
          dir := dir
          size := size
          window := some ⟨s.time, s.time + BitVec.ofNat 16 s.node.settings.claimWindow⟩
          repostUsed := false } ∧
        (∃ old, t.clm.posts = old ++ [⟨(s.air.claimSlot.counter + s.mail.claimRequests.length) % 256,
          x.sec, false⟩] ∧ (s.clm.posts.length ≤ 1 → old = s.clm.posts)) ∧
        t = { s with
          clm := { s.clm with entries := t.clm.entries, posts := t.clm.posts }
          mail := { s.mail with claimRequests := s.mail.claimRequests ++
            [.add (.claim x.sec dir e.waited size)] } }))) ∧
  (∀ (before move : Option Nat) (e : ClaimEntry) (s : State), s.node.mode = .running →
    s.pos.record.validity ≠ .none →
    (before = some s.pos.record.sec ∨ (before = none ∧ claimEntry s s.pos.record.sec = none)) →
    (s.clm.entries.map (·.sec)).Nodup → claimEntry s e.sec = some e →
    e.sec ≠ s.pos.record.sec → e.tail = 0 → e.noted = none →
    (∀ g ∈ s.clm.entries, g.sec ≠ e.sec → g.state = .none ∧ g.tail = 0 ∧ g.noted = none) →
    let t := positionCheck before move s
    let far := ∃ b, boundary s = some b ∧ s.node.settings.approachDistance + 100 < b
    let next := ∃ x, nextElement s = some x ∧ x.sec = e.sec
    let without := s.clm.entries.map (fun g => if g.sec = e.sec then { e with state := .none } else g)
    let freed : State := { s with clm := { s.clm with entries := without } }
    (far ∨ (∀ x, nextElement s = some x → claimEntry s x.sec = none) →
      (e.state = .claiming → t = { s with
        clm := { s.clm with
          entries := s.clm.entries.map (fun g => if g.sec = e.sec then
            { e with state := .none, window := none } else g)
          posts := s.clm.posts.map (fun p => ⟨p.number, p.sec, true⟩) }
        mail := { s.mail with claimRequests := s.mail.claimRequests ++ [.cancel] } }) ∧
      (e.state = .waiting ∨ e.state = .riding → t = freed) ∧
      (e.state = .holding → t = { freed with mail := { s.mail with
        releaseRequests := s.mail.releaseRequests ++ [.add (.release [e.sec])] } })) ∧
    (¬far → next → e.state = .claiming → t = s))

/-- Leaving a held section by its far end sets the tail to the rig length and keeps the hold; leaving by
the entry end releases it, and a STANDOFF entry goes to WAITING with its own cause removed. A forward
move runs the tail down, and at 0 the section is released; a reverse move raises it, up to the rig
length taken at the exit. So with no other entry in use and no SINGLE section next: a TAG_READ that
brings the node out of a held section makes that exit, and a WHEEL_PULSE with a tail behind makes that
countdown, by the whole millimetres of the pulse, in VALID and in LOST, with the POSITION_LOST record in
front of it when the pulse takes a VALID record beyond the lost distance. -/
def Obligations.ExitSetsTheTailAndTheTailReleases : Prop :=
  (∀ (e : ClaimEntry) (mm : Nat) (s : State),
    let released : ClaimEntry → State := fun f => { s with
      clm := { s.clm with entries := s.clm.entries.map (fun g => if g.sec = f.sec then f else g) }
      mail := { s.mail with releaseRequests := s.mail.releaseRequests ++ [.add (.release [f.sec])] } }
    let kept : ClaimEntry → State := fun f => { s with
      clm := { s.clm with entries := s.clm.entries.map (fun g => if g.sec = f.sec then f else g) } }
    let alone := ∀ g ∈ s.clm.entries, g.sec ≠ e.sec → g.state ≠ .standoff
    let unhalted : StandoffCause → State → State := fun c u => { u with mail := { u.mail with
      clmCauses := u.mail.clmCauses ++
        [⟨false, match c with | .standoff => .standoff | .intrusion => .intrusion⟩] } }
    (s.gov.direction = .forward → (e.state = .holding ∨ e.state = .standoff) →
      exitEntry e s = kept { e with tail := rigLength s, tailLimit := rigLength s }) ∧
    (s.gov.direction = .reverse → e.state = .holding →
      exitEntry e s = released { e with state := .none }) ∧
    (∀ c, s.gov.direction = .reverse → e.state = .standoff → e.cause = some c → alone →
      exitEntry e s = unhalted c (released { e with
        state := .waiting
        waited := true
        window := none
        cause := none })) ∧
    (e.tail = 0 → moveTail mm e s = s) ∧
    (s.gov.direction = .forward → mm < e.tail → moveTail mm e s = kept { e with tail := e.tail - mm }) ∧
    (s.gov.direction = .reverse → 0 < e.tail →
      moveTail mm e s = kept { e with tail := min e.tailLimit (e.tail + mm) }) ∧
    (s.gov.direction = .forward → 0 < e.tail → e.tail ≤ mm → e.state ≠ .standoff →
      moveTail mm e s =
        released { e with
          state := .none
          waited := false
          tail := 0
          cause := none }) ∧
    (∀ c, s.gov.direction = .forward → 0 < e.tail → e.tail ≤ mm → e.state = .standoff → e.cause = some c →
      alone → moveTail mm e s = unhalted c (released { e with
        state := .none
        waited := false
        tail := 0
        cause := none }))) ∧
  (∀ (e : ClaimEntry) (s : State), s.held = false → s.node.mode = .running →
    (s.clm.entries.map (·.sec)).Nodup → claimEntry s e.sec = some e → e.holders = [] → e.noted = none →
    (∀ g ∈ s.clm.entries, g.sec ≠ e.sec → g.state = .none ∧ g.tail = 0 ∧ g.noted = none) →
    let p := s.pos.record
    let at_ : Position → State := fun q => { s with pos := { s.pos with record := q } }
    (∀ tag sec d, translateTag s.pos.windows s.pos.sections tag = .place sec d →
      ¬(p.lastTag = some tag ∧ p.travel < 500) → p.validity ≠ .none → p.sec = e.sec → sec ≠ e.sec →
      claimEntry s sec = none → e.state = .holding → e.tail = 0 →
      let t := at_ (acceptTag s.pos.sections p s.gov.direction tag sec d)
      (∀ x, nextElement t = some x → claimEntry s x.sec = none) →
      (s.gov.direction = .reverse ∨ 0 < rigLength s) → exec (.tagRead tag) s = .next { t with
        clm := (exitEntry e s).clm
        mail := (exitEntry e s).mail }) ∧
    (p.validity ≠ .none → p.sec ≠ e.sec → claimEntry s p.sec = none → 0 < e.tail → e.tail ≤ e.tailLimit →
      (e.state = .holding ∨ e.state = .standoff) →
      (∀ x, nextElement s = some x → claimEntry s x.sec = none) →
      let mm := (p.residue + s.node.settings.mmPerPulse) / 16
      let travel := min 65535 (p.travel + mm)
      let lost := p.validity = .valid ∧ s.node.settings.lostDistance < travel
      ∃ moved : Pos, moved = { s.pos with bins := moved.bins, record := moved.record } ∧
        moved.record.sec = p.sec ∧ moved.record.travel = travel ∧
        (¬lost → moved.record.validity = p.validity ∧
          exec .wheelPulse s = .next (moveTail mm e { s with pos := moved })) ∧
        (lost → moved.record.validity = .lost ∧
          exec .wheelPulse s = .next (moveTail mm e { s with
            pos := moved
            mail := { s.mail with posts := s.mail.posts ++
              [⟨.pos, .positionLost, .num p.sec, .num moved.record.distance, .num travel⟩] } }))))

/-- A review settles an entry: HOLDING outside yields to an opposite holder that is inside or has a better
holder key, with a RELEASE and CLAIM_YIELDED; HOLDING inside goes to STANDOFF before a better key
inside with an own-cause add, and stays HOLDING before worse ones, one of whom it records as WINNER,
once; RIDING outside without its ride claims; WAITING rides behind a holding pred, claims again once
the opposite direction is unlocked by holders and last-hold-heard, no fresh opposing claimant has a
better key and courtesy does not hold it back, and otherwise waits on.
An entry in NONE is left as it is.
The order of its parts is DEDUCED, the station named is free, and that NONE is not reviewed is the
model's choice (assumption log 9, 12, 40). -/
def Obligations.ReviewSettlesAnEntry : Prop :=
  ∀ (e : ClaimEntry) (s : State), claimEntry s e.sec = some e →
    let fresh : Time → Prop := fun t => age s.time t ≤ s.node.settings.peerLapse ∧ age s.time t ≤ 32767
    let opposite : Holder → Prop := fun h => h ∈ e.holders ∧ h.dir ≠ e.dir ∧ fresh h.lastHeard
    let own := convoySize s
    let better : Holder → Prop := fun h => h.size > own ∨ (h.size = own ∧ h.station < ownStation s)
    let rides := s.cvy.role = .follower ∧
      ∃ h ∈ e.holders, h.station = s.cvy.pred ∧ h.dir = e.dir ∧ fresh h.lastHeard
    let other : Dir := if e.dir = .ab then .ba else .ab
    let heard : Dir → Option Time := fun d => if d = .ab then e.heardAB else e.heardBA
    let lockedIn : Dir → Prop := fun d =>
      (∃ h ∈ e.holders, h.dir = d ∧ fresh h.lastHeard) ∨ ∃ u, heard d = some u ∧ fresh u
    let rival : Claimant → Prop := fun c => c ∈ e.claimants ∧ c.dir = other ∧ fresh c.received
    let beaten := ∃ c, rival c ∧ c.waited = true ∧
      (c.size > own ∨ (c.size = own ∧ c.station < ownStation s))
    let rider := s.cvy.role ≠ .solo ∧ ∃ h ∈ e.holders, h.dir = e.dir ∧ fresh h.lastHeard ∧
      (h.station = ownStation s ∨ ∃ m ∈ s.cvy.members, m.station = h.station)
    let polite := lockedIn e.dir ∧ (∃ c, rival c) ∧ ¬rider
    let inside := (s.pos.record.validity ≠ .none ∧ s.pos.record.sec = e.sec) ∨ 0 < e.tail
    let t := review e.sec s
    let after : (ClaimEntry → Prop) → Prop := fun p => ∃ f, claimEntry t e.sec = some f ∧ p f
    (e.state = .none → t = s) ∧
    (e.state = .holding → ¬inside → (∃ h, opposite h ∧ (h.inside = true ∨ better h)) →
      after (fun f => (if rides then f.state = .riding else f.state = .waiting) ∧ f.waited = true) ∧
      t.mail.releaseRequests = s.mail.releaseRequests ++ [.add (.release [e.sec])] ∧
      ∃ h, opposite h ∧ (h.inside = true ∨ better h) ∧ t.mail.posts = s.mail.posts ++
        [⟨.clm, .claimYielded, .num e.sec, .num h.station, .num 0⟩]) ∧
    (e.state = .holding → ¬inside → (∀ h, opposite h → h.inside = false ∧ ¬better h) →
      after (fun f => f.state = .holding) ∧ t.mail = s.mail) ∧
    (e.state = .holding → inside → (∃ h, opposite h ∧ h.inside = true ∧ better h) →
      after (fun f => f.state = .standoff ∧ f.cause = some .standoff ∧ f.dir = e.dir ∧ f.tail = e.tail) ∧
      (t.mail.clmCauses = s.mail.clmCauses ++ (if ∃ g ∈ s.clm.entries, g.sec ≠ e.sec ∧
        g.state = .standoff ∧ g.cause = some .standoff then [] else [⟨true, .standoff⟩])) ∧
      ∃ h, opposite h ∧ h.inside = true ∧ better h ∧ t.mail.posts = s.mail.posts ++
        [⟨.clm, .standoff, .num e.sec, .num h.station, .role .loser⟩]) ∧
    (e.state = .holding → inside → (∀ h, opposite h → h.inside = true → ¬better h) →
      after (fun f => f.state = .holding) ∧ t.mail.clmCauses = s.mail.clmCauses ∧
      ((∀ h, opposite h → h.inside = false) → after (fun f => f.noted = none) ∧ t.mail = s.mail) ∧
      ((∃ h, opposite h ∧ h.inside = true) → ∃ h, opposite h ∧ h.inside = true ∧
        after (fun f => f.noted = some h.station) ∧
        t.mail = if e.noted = some h.station then s.mail else { s.mail with posts := s.mail.posts ++
          [⟨.clm, .standoff, .num e.sec, .num h.station, .role .winner⟩] })) ∧
    (e.state = .riding → ¬inside → ¬rides → after (fun f => f.state = .claiming ∧ f.dir = e.dir) ∧
      t.mail.claimRequests = s.mail.claimRequests ++ [.add (.claim e.sec e.dir e.waited own)]) ∧
    (e.state = .riding → rides → after (fun f => f.state = .riding) ∧ t.mail = s.mail) ∧
    (e.state = .waiting → rides → after (fun f => f.state = .riding) ∧ t.mail = s.mail) ∧
    (e.state = .waiting → ¬rides → (lockedIn other ∨ beaten ∨ polite) →
      after (fun f => f.state = .waiting ∧ f.waited = e.waited) ∧ t.mail = s.mail) ∧
    (e.state = .waiting → ¬rides → ¬lockedIn other → ¬beaten → ¬polite →
      after (fun f => f.state = .claiming ∧ f.dir = e.dir ∧ f.waited = e.waited ∧ f.size = own ∧
        f.window = some ⟨s.time, s.time + BitVec.ofNat 16 s.node.settings.claimWindow⟩ ∧
        f.repostUsed = false) ∧
      t.mail = { s.mail with claimRequests := s.mail.claimRequests ++
        [.add (.claim e.sec e.dir e.waited own)] })

/-- The claim window's expiry: HOLDING with CLAIM_HELD when the opposite direction is not locked, no
opposing claimant heard within the window has a better key, and courtesy does not hold the node back;
else CLAIM_WAITED with the first cause, in that order, and WAITING, which is a change of state and so
reviewed at once (ReviewSettlesAnEntry): the entry RIDES when pred holds or rides the section the same
way, claims again when the opposite direction is not locked, no opposing claimant has a better key than
a waited claim of the convoy size of now, and courtesy does not hold, and otherwise stays WAITING. So
it stays WAITING, or RIDES, after LOCK and after COURTESY. An expiry that does not arise changes
nothing.
That WAITING rides before it claims is DEDUCED (assumption log 9). -/
def Obligations.ClaimWindowIsEvaluatedInOrder : Prop :=
  ∀ (e : ClaimEntry) (w : Window) (s : State), s.held = false → claimEntry s e.sec = some e →
    let fresh : Time → Prop := fun t => age s.time t ≤ s.node.settings.peerLapse ∧ age s.time t ≤ 32767
    let heard : Dir → Option Time := fun d => if d = .ab then e.heardAB else e.heardBA
    let lockedIn : Dir → Prop := fun d =>
      (∃ h ∈ e.holders, h.dir = d ∧ fresh h.lastHeard) ∨ ∃ t, heard d = some t ∧ fresh t
    let other : Dir := if e.dir = .ab then .ba else .ab
    let rival : Claimant → Prop := fun c => c ∈ e.claimants ∧ c.dir = other ∧ fresh c.received
    let better : Claimant → Prop := fun c => (c.waited = true ∧ e.waited = false) ∨
      (c.waited = e.waited ∧ (c.size > e.size ∨ (c.size = e.size ∧ c.station < ownStation s)))
    let beaten := ∃ c, rival c ∧ age s.time c.received ≤ age s.time w.start ∧ better c
    let rider := s.cvy.role ≠ .solo ∧ ∃ h ∈ e.holders, h.dir = e.dir ∧ fresh h.lastHeard ∧
      (h.station = ownStation s ∨ ∃ m ∈ s.cvy.members, m.station = h.station)
    let polite := lockedIn e.dir ∧ (∃ c, rival c) ∧ ¬rider
    let rides := s.cvy.role = .follower ∧
      ∃ h ∈ e.holders, h.station = s.cvy.pred ∧ h.dir = e.dir ∧ fresh h.lastHeard
    let size := if s.cvy.role = .solo then 1 else s.cvy.members.length + 1
    let still := lockedIn other ∨ polite ∨ ∃ c, rival c ∧ c.waited = true ∧
      (c.size > size ∨ (c.size = size ∧ c.station < ownStation s))
    let waiting : WaitCause → State := fun cause => { s with
      clm := { s.clm with entries := s.clm.entries.map (fun g => if g.sec = e.sec then { e with
        state := .waiting
        waited := true
        window := none } else g) }
      mail := { s.mail with posts := s.mail.posts ++
        [⟨.clm, .claimWaited, .num e.sec, .dir e.dir, .wait cause⟩] } }
    let waits : WaitCause → Prop := fun cause => ∃ t f, exec (.claimWindow e.sec) s = .next t ∧
      t = review e.sec (waiting cause) ∧
      claimEntry t e.sec = some f ∧ f.waited = true ∧
      (rides → f.state = .riding) ∧ (¬rides → still → f.state = .waiting) ∧
      (¬rides → ¬still → f.state = .claiming ∧ f.size = size) ∧
      (cause = .courtesy → f.state ≠ .claiming) ∧
      (f.state = .waiting ∨ f.state = .riding ∨ f.state = .claiming) ∧
      (lockedIn other → f.state ≠ .claiming) ∧ (s.cvy.role = .solo → f.state ≠ .riding) ∧
      t.mail.posts = s.mail.posts ++ [⟨.clm, .claimWaited, .num e.sec, .dir e.dir, .wait cause⟩] ∧
      t = { s with clm := t.clm, mail := t.mail }
    (e.state = .claiming → e.window = some w →
      (lockedIn other → waits .lock) ∧
      (¬lockedIn other → beaten → waits .key) ∧
      (¬lockedIn other → ¬beaten → polite → waits .courtesy) ∧
      (¬lockedIn other → ¬beaten → ¬polite → exec (.claimWindow e.sec) s = .next { s with
        clm := { s.clm with entries := s.clm.entries.map (fun g => if g.sec = e.sec then { e with
          state := .holding
          window := none
          noted := none } else g) }
        mail := { s.mail with posts := s.mail.posts ++
          [⟨.clm, .claimHeld, .num e.sec, .dir e.dir, .num e.size⟩] } })) ∧
    (e.state ≠ .claiming ∨ e.window = none → exec (.claimWindow e.sec) s = .next s)

/-- A CLAIM enters its source in the section's claimant list unless it stands there as a holder:
refreshed, added to fewer than 6, or in place of the worst key when its own is better. A RELEASE takes
its source out of both lists of each section it names. Neither touches another list or a last-hold-
heard; what else changes is the review's.
That a refreshed record keeps its place and a new one stands last is the model's choice (assumption
log 37). -/
def Obligations.ClaimsAndReleasesAreLearned : Prop :=
  ∀ (st num : Nat) (tm : Time) (rest : List Received) (s : State), s.held = false →
    (s.clm.entries.map (·.sec)).Nodup →
    let popped := { s with air := { s.air with clmQueue := rest } }
    (∀ sec dir waited size, s.air.clmQueue = ⟨⟨st, num, .claim sec dir waited size⟩, tm⟩ :: rest →
      let c : Claimant := ⟨st, dir, waited, size, tm⟩
      ∃ t, exec .clmTakesClaim s = .next t ∧
        t = { popped with clm := t.clm, mail := t.mail, draws := t.draws } ∧
        ∀ y e, claimEntry s y = some e → ∃ f, claimEntry t y = some f ∧
          f.holders = e.holders ∧ f.heardAB = e.heardAB ∧ f.heardBA = e.heardBA ∧
          (y ≠ sec ∨ (∃ h ∈ e.holders, h.station = st) → f.claimants = e.claimants) ∧
          (y = sec → (∀ h ∈ e.holders, h.station ≠ st) →
            ((∃ x ∈ e.claimants, x.station = st) →
              f.claimants = e.claimants.map (fun x => if x.station = st then c else x)) ∧
            ((∀ x ∈ e.claimants, x.station ≠ st) → e.claimants.length < 6 →
              f.claimants = e.claimants ++ [c]) ∧
            ((∀ x ∈ e.claimants, x.station ≠ st) → 6 ≤ e.claimants.length →
              ((∀ x ∈ e.claimants, c.key.better x.key = false) → f.claimants = e.claimants) ∧
              (∀ x ∈ e.claimants, (∀ z ∈ e.claimants, z.station ≠ x.station → z.key.better x.key = true) →
                c.key.better x.key = true →
                f.claimants = e.claimants.filter (fun z => z.station != x.station) ++ [c])))) ∧
    (∀ secs, s.air.clmQueue = ⟨⟨st, num, .release secs⟩, tm⟩ :: rest →
      ∃ t, exec .clmTakesRelease s = .next t ∧
        t = { popped with clm := t.clm, mail := t.mail, draws := t.draws } ∧
        ∀ y e, claimEntry s y = some e → ∃ f, claimEntry t y = some f ∧
          f.heardAB = e.heardAB ∧ f.heardBA = e.heardBA ∧
          (y ∉ secs → f.holders = e.holders ∧ f.claimants = e.claimants) ∧
          (y ∈ secs → f.holders = e.holders.filter (fun h => h.station != st) ∧
            f.claimants = e.claimants.filter (fun c => c.station != st)))

/-- A POSITION's hold list: HOLDING, RIDING and CLEARING set the direction's last-hold-heard, take the
source out of the claimant list and refresh or add its holder record, or count a holder overflow in a
full list; WAITING makes it a claimant that has waited, by the rule of a CLAIM; a section not named
loses the source as holder. Of the service unit only that counter changes; what else changes is the
review's.
That a refreshed record keeps its place and a new one stands last is the model's choice (assumption
log 37). -/
def Obligations.HoldListsAreLearned : Prop :=
  ∀ (st num : Nat) (b : Beacon) (tm : Time) (rest : List Received) (s : State), s.held = false →
    s.air.clmQueue = ⟨⟨st, num, .position b⟩, tm⟩ :: rest → (b.holds.map (·.sec)).Nodup →
    (s.clm.entries.map (·.sec)).Nodup →
    let full := b.holds.filter (fun h => h.mode != .waiting && s.clm.entries.any (fun e =>
      e.sec == h.sec && decide (8 ≤ e.holders.length) && e.holders.all (fun x => x.station != st)))
    let old := s.svc.counters
    let counted := { old with
      holderOverflow :=
        if full = [] then old.holderOverflow else min 65535 (old.holderOverflow + full.length) }
    ∃ t, exec .clmTakesPosition s = .next t ∧
      t = { s with
        air := { s.air with clmQueue := rest }
        clm := t.clm
        mail := t.mail
        draws := t.draws
        svc := { s.svc with counters := counted } } ∧
      ∀ y e, claimEntry s y = some e → ∃ f, claimEntry t y = some f ∧
        let others := e.holders.filter (fun h => h.station != st)
        ((∀ h ∈ b.holds, h.sec ≠ y) → f.holders = others ∧ f.claimants = e.claimants ∧
          f.heardAB = e.heardAB ∧ f.heardBA = e.heardBA) ∧
        (∀ h ∈ b.holds, h.sec = y → h.mode ≠ .waiting →
          let record : Holder := ⟨st, h.dir, h.mode == .riding, b.size,
            h.mode == .clearing || (b.valid && b.sec == y), tm⟩
          (if h.dir = .ab then f.heardAB = some tm ∧ f.heardBA = e.heardBA
            else f.heardBA = some tm ∧ f.heardAB = e.heardAB) ∧
          f.claimants = e.claimants.filter (fun c => c.station != st) ∧
          ((∃ x ∈ e.holders, x.station = st) →
            f.holders = e.holders.map (fun x => if x.station = st then record else x)) ∧
          ((∀ x ∈ e.holders, x.station ≠ st) → e.holders.length < 8 →
            f.holders = e.holders ++ [record]) ∧
          ((∀ x ∈ e.holders, x.station ≠ st) → 8 ≤ e.holders.length → f.holders = e.holders)) ∧
        (∀ h ∈ b.holds, h.sec = y → h.mode = .waiting → f.holders = others ∧
          f.heardAB = e.heardAB ∧ f.heardBA = e.heardBA ∧
          (let c : Claimant := ⟨st, h.dir, true, b.size, tm⟩
           ((∃ x ∈ e.claimants, x.station = st) →
              f.claimants = e.claimants.map (fun x => if x.station = st then c else x)) ∧
           ((∀ x ∈ e.claimants, x.station ≠ st) → e.claimants.length < 6 →
              f.claimants = e.claimants ++ [c]) ∧
           ((∀ x ∈ e.claimants, x.station ≠ st) → 6 ≤ e.claimants.length →
              ((∀ x ∈ e.claimants, c.key.better x.key = false) → f.claimants = e.claimants) ∧
              (∀ x ∈ e.claimants, (∀ z ∈ e.claimants, z.station ≠ x.station → z.key.better x.key = true) →
                c.key.better x.key = true →
                f.claimants = e.claimants.filter (fun z => z.station != x.station) ++ [c]))))

/-- A notice of the CLAIM slot takes its records out of the claim-post list. SENT and CANCELLED do no
more; SENT_DESPITE_CANCEL, or ABORTED of a cancelled record, releases the section unless it is
CLAIMING, HOLDING, RIDING or STANDOFF; any other ABORTED reposts the CLAIM once while its window runs.
A notice of the RELEASE slot is taken without action.
The number foreseen is DEDUCED (assumption log 8). -/
def Obligations.ClaimNoticesAreActedOn : Prop :=
  ∀ (n : Notice) (rest : List Notice) (s : State), s.held = false →
    (s.mail.releaseNotices = n :: rest →
      exec .clmReleaseNotice s = .next { s with mail := { s.mail with releaseNotices := rest } }) ∧
    (s.mail.claimNotices = n :: rest →
      let left := s.clm.posts.filter (fun p => !n.numbers.contains p.number)
      let taken := { s with
        clm := { s.clm with posts := left }
        mail := { s.mail with claimNotices := rest } }
      let result := exec .clmClaimNotice s
      (n.outcome = .sent ∨ n.outcome = .cancelled → result = .next taken) ∧
      ((∀ p ∈ s.clm.posts, p.number ∉ n.numbers) → result = .next taken) ∧
      (∀ p e, s.clm.posts.filter (fun p => n.numbers.contains p.number) = [p] →
        claimEntry s p.sec = some e →
        let keeps := e.state = .claiming ∨ e.state = .holding ∨ e.state = .riding ∨ e.state = .standoff
        let heard := n.outcome = .sentDespiteCancel ∨ (n.outcome = .aborted ∧ p.cancelled = true)
        let again := n.outcome = .aborted ∧ p.cancelled = false
        (heard → keeps → result = .next taken) ∧
        (heard → ¬keeps → result = .next { taken with mail := { taken.mail with
          releaseRequests := s.mail.releaseRequests ++ [.add (.release [p.sec])] } }) ∧
        (again → ¬(e.state = .claiming ∧ e.repostUsed = false) → result = .next taken) ∧
        (again → e.state = .claiming → e.repostUsed = false → left.length ≤ 1 →
          result = .next { taken with
            clm := { taken.clm with
              entries := s.clm.entries.map
                (fun g => if g.sec = e.sec then { e with repostUsed := true } else g)
              posts := left ++
                [⟨(s.air.claimSlot.counter + s.mail.claimRequests.length) % 256, e.sec, false⟩] }
            mail := { taken.mail with claimRequests := s.mail.claimRequests ++
              [.add (.claim e.sec e.dir e.waited e.size)] } })))

/-! ## Transmit slots and channel access -/

/-- An add request to the CLAIM or HALT slot: it fills an EMPTY slot and begins an attempt on idle access,
replaces a PENDING content, whose requests receive CANCELLED, or goes to the reload of an ON_AIR slot,
replacing one there; in STARTING and UNCONFIGURED it is answered CANCELLED. The request takes the next
number of the slot in every case. A RELEASE add joins a section already in the list, is appended to a
list of fewer than two, goes on to the reload of a full PENDING content or of an ON_AIR slot, and
displaces the older section of a full reload, whose requests receive CANCELLED; in STARTING and
UNCONFIGURED it is answered CANCELLED.
What a notice carries is DEDUCED (assumption log 7). -/
def Obligations.AddRequestsSupersedeOrMerge : Prop :=
  (∀ (which : SupersedingSlot) (c : Content) (rest : List Request) (s : State), s.held = false →
     let id : SlotId := match which with | .claim => .claim | .halt => .halt
     requestsOf s.mail id = .add c :: rest →
     let x := s.air.slot id
     let n := x.counter
     let taken := s.node.mode = .listening ∨ s.node.mode = .running ∨ s.node.mode = .parked
     let mail := s.mail.setRequests id rest
     let put : Slot → State := fun y =>
       { s with air := s.air.setSlot id { y with counter := (n + 1) % 256 }, mail := mail }
     let told : List Nat → Option Content → State → State := fun ns about u =>
       if ns = [] then u else { u with
         mail := mail.setNotices id (noticesOf s.mail id ++ [⟨.cancelled, ns, about⟩]) }
     let filled : Slot := { x with state := .pending, content := some c, answered := [⟨n, none⟩] }
     let reloaded : Slot := { x with reload := some ⟨c, [⟨n, none⟩]⟩ }
     let result := exec (.addRequest which) s
     (¬taken → result = .next (told [n] (some c) (put x))) ∧
     (taken → x.state = .empty → s.air.access ≠ .idle → result = .next (put filled)) ∧
     (taken → x.state = .empty → s.air.access = .idle → result = .next { put filled with
       air := { (put filled).air with
         access := .sensing
         drawn := false
         count := 0
         countdown := none
         quiet := if s.air.carrier then none else some 2 } }) ∧
     (taken → x.state = .pending → result =
       .next (told (x.answered.map (·.number)) x.content (put filled))) ∧
     (taken → x.state = .onAir →
       (x.reload = none → result = .next (put reloaded)) ∧
       (∀ r, x.reload = some r →
         result = .next (told (r.answered.map (·.number)) (some r.content) (put reloaded))))) ∧
  (∀ (sec : Nat) (rest : List Request) (s : State), s.held = false →
     s.mail.releaseRequests = .add (.release [sec]) :: rest →
     let taken := s.node.mode = .listening ∨ s.node.mode = .running ∨ s.node.mode = .parked
     let x := s.air.releaseSlot
     let q : Numbered := ⟨x.counter, some sec⟩
     let put : Slot → State := fun y => { s with
       air := { s.air with releaseSlot := { y with counter := (x.counter + 1) % 256 } }
       mail := { s.mail with releaseRequests := rest } }
     let result := exec .releaseAddRequest s
     let toReload :=
       (x.reload = none → result = .next (put { x with reload := some ⟨.release [sec], [q]⟩ })) ∧
       (∀ secs ans, x.reload = some ⟨.release secs, ans⟩ →
         (sec ∈ secs → result = .next (put { x with reload := some ⟨.release secs, ans ++ [q]⟩ })) ∧
         (sec ∉ secs → secs.length ≤ 1 →
           result = .next (put { x with reload := some ⟨.release (secs ++ [sec]), ans ++ [q]⟩ })) ∧
         (∀ a b, secs = [a, b] → sec ∉ secs →
           let gone := (ans.filter (fun r => r.sec == some a)).map (·.number)
           let moved := put { x with reload := some ⟨.release [b, sec],
             ans.filter (fun r => r.sec != some a) ++ [q]⟩ }
           (gone = [] → result = .next moved) ∧
           (gone ≠ [] → result = .next { moved with mail := { moved.mail with
             releaseNotices := s.mail.releaseNotices ++ [⟨.cancelled, gone, some (.release [a])⟩] } })))
     let filled := put { x with state := .pending, content := some (.release [sec]), answered := [q] }
     (¬taken → result = .next { put x with mail := { (put x).mail with releaseNotices :=
       s.mail.releaseNotices ++ [⟨.cancelled, [x.counter], some (.release [sec])⟩] } }) ∧
     (taken → x.state = .empty → s.air.access ≠ .idle → result = .next filled) ∧
     (taken → x.state = .empty → s.air.access = .idle → result = .next { filled with
       air := { filled.air with
         access := .sensing
         drawn := false
         count := 0
         countdown := none
         quiet := if s.air.carrier then none else some 2 } }) ∧
     (∀ secs, taken → x.state = .pending → x.content = some (.release secs) →
       (sec ∈ secs → result = .next (put { x with answered := x.answered ++ [q] })) ∧
       (sec ∉ secs → secs.length ≤ 1 → result = .next (put { x with
         content := some (.release (secs ++ [sec])), answered := x.answered ++ [q] })) ∧
       (sec ∉ secs → 2 ≤ secs.length → toReload)) ∧
     (taken → x.state = .onAir → toReload))

/-- The beacon timer's expiry posts an add to the POSITION slot and re-arms with the interval, 1000 ms in
PARKED, plus a jitter of 0..15 ms from the generator; the add fills an EMPTY slot, and otherwise is
answered CANCELLED and counted as merged; in STARTING and UNCONFIGURED it is answered CANCELLED and
not counted. The notices of the slot are taken without action.
What a notice carries is DEDUCED (assumption log 7). That the expiry acts whatever the milliseconds left,
also behind a command that has re-armed the timer, is the model's choice (assumption log 4, 36). -/
def Obligations.BeaconsArePostedAndMerged : Prop :=
  ∀ (r : BitVec 16) (rest : List Request) (n : Notice) (later : List Notice) (s : State), s.held = false →
    let drawn := generatorSteps 8 r
    let interval := if s.node.mode = .parked then 1000 else s.node.settings.beaconInterval
    let x := s.air.positionSlot
    let counted := { s with
      air := { s.air with positionSlot := { x with counter := (x.counter + 1) % 256 } }
      mail := { s.mail with positionRequests := rest } }
    let told := { counted with mail := { counted.mail with
      positionNotices := s.mail.positionNotices ++ [⟨.cancelled, [x.counter], some .position⟩] } }
    let filled : Air := { s.air with positionSlot := { x with
      state := .pending
      content := some .position
      answered := [⟨x.counter, none⟩]
      counter := (x.counter + 1) % 256 } }
    let taken := s.node.mode = .listening ∨ s.node.mode = .running ∨ s.node.mode = .parked
    (s.air.beacon.isSome → s.air.generator = some r → exec .beaconTimer s = .next { s with
      air := { s.air with
        generator := some drawn
        beacon := some (interval + (drawn &&& 15#16).toNat) }
      mail := { s.mail with positionRequests := s.mail.positionRequests ++ [.add .position] } }) ∧
    (s.mail.positionRequests = .add .position :: rest →
      (¬taken → exec .positionAddRequest s = .next told) ∧
      (taken → x.state ≠ .empty → exec .positionAddRequest s = .next (raise .beaconMerged told)) ∧
      (taken → x.state = .empty → s.air.access ≠ .idle →
        exec .positionAddRequest s = .next { counted with air := filled }) ∧
      (taken → x.state = .empty → s.air.access = .idle →
        exec .positionAddRequest s = .next { counted with air := { filled with
          access := .sensing
          drawn := false
          count := 0
          countdown := none
          quiet := if s.air.carrier then none else some 2 } })) ∧
    (s.mail.positionNotices = n :: later →
      exec .beaconNotice s = .next { s with mail := { s.mail with positionNotices := later } })

/-- A cancel request: on an EMPTY slot it is answered by itself; a PENDING slot becomes EMPTY and one
CANCELLED notice answers the content's requests and the cancel; an ON_AIR slot takes it into its mark.
A reload is discarded, its requests receiving CANCELLED in a notice of their own.
What a notice carries is DEDUCED (assumption log 7). -/
def Obligations.CancelWithdrawsTheSlot : Prop :=
  ∀ (id : SlotId) (rest : List Request) (s : State), s.held = false →
    requestsOf s.mail id = .cancel :: rest →
    let x := s.air.slot id
    let n := x.counter
    let taken := s.node.mode = .listening ∨ s.node.mode = .running ∨ s.node.mode = .parked
    let mail := s.mail.setRequests id rest
    let put : Slot → List Notice → StepResult := fun y ns => .next { s with
      air := s.air.setSlot id { y with counter := (n + 1) % 256 }
      mail := mail.setNotices id (noticesOf s.mail id ++ ns) }
    let dropped : List Notice := match x.reload with
      | some r => if r.answered = [] then [] else
        [⟨.cancelled, r.answered.map (·.number), some r.content⟩]
      | none => []
    let result := exec (.cancelRequest id) s
    (¬taken ∨ x.state = .empty → result = put x [⟨.cancelled, [n], none⟩]) ∧
    (taken → x.state = .pending → result =
      put { x with
          state := .empty
          content := none
          answered := []
          reload := none }
        (⟨.cancelled, x.answered.map (·.number) ++ [n], x.content⟩ :: dropped)) ∧
    (taken → x.state = .onAir → result =
      put { x with
          mark := x.mark ++ [n]
          reload := none } dropped)

/-- Channel access: the carrier stops the quiet timer and freezes the countdown, its absence starts the
quiet timer afresh in SENSING; after 2 ms of quiet the count is drawn once an attempt from the
generator, 0..W, and counting begins; each tick lowers it; and 0 hands over. The backoff generator,
seeded from a station number of 1..62 and any reset count, never becomes 0, however many steps it
takes; and no step loses a value: different registers step to different ones. -/
def Obligations.ChannelAccessCountsDown : Prop :=
  (∀ s : State,
     let air : Air → StepResult := fun a => .next { s with air := a }
     let w := 2 ^ (s.node.settings.contentionCode + 3) - 1
     let counting : Nat → Air → StepResult := fun k a =>
       if k = 0 then .next (handOver { s with air := { a with access := .counting, count := 0, quiet := none } })
       else air { a with
         access := .counting
         count := k
         quiet := none
         countdown := some 1 }
     (s.air.access = .sensing → exec .carrierAppears s = air { s.air with carrier := true, quiet := none }) ∧
     (s.air.access = .counting → exec .carrierAppears s = air { s.air with
       carrier := true
       access := .sensing
       quiet := none
       countdown := none }) ∧
     (s.air.access = .idle ∨ s.air.access = .transmitting →
       exec .carrierAppears s = air { s.air with carrier := true } ∧
       exec .carrierAbsent s = air { s.air with carrier := false }) ∧
     (s.air.access = .counting → exec .carrierAbsent s = air { s.air with carrier := false }) ∧
     (s.air.access = .sensing → exec .carrierAbsent s = air { s.air with carrier := false, quiet := some 2 }) ∧
     (s.held = false → s.air.access = .sensing → s.air.quiet.isSome →
       (s.air.drawn = true → exec .quietTimer s = counting s.air.count s.air) ∧
       (∀ r, s.air.drawn = false → s.air.generator = some r →
         let drawn := generatorSteps 8 r
         exec .quietTimer s = counting ((drawn &&& BitVec.ofNat 16 w).toNat)
           { s.air with generator := some drawn, drawn := true })) ∧
     (s.held = false → s.air.access = .counting → s.air.countdown.isSome →
       (s.air.count ≤ 1 →
         exec .countdownTick s = .next (handOver { s with air := { s.air with count := 0, countdown := none } })) ∧
       (1 < s.air.count →
         exec .countdownTick s = air { s.air with count := s.air.count - 1, countdown := some 1 }))) ∧
  ((∀ station count n : Nat, 1 ≤ station → station ≤ 62 → count ≤ 255 →
     generatorSteps n (seedOf station count) ≠ 0) ∧
   (∀ a b : BitVec 16, generatorStep a = generatorStep b → a = b))

/-- The end of the countdown hands over the first PENDING slot in the order HALT, RELEASE, CLAIM,
POSITION: its frame is composed from the state of now and given to the transceiver with a timeout of
20 ms. A HALT slot with no convoy to reach is withdrawn and passed over; with nothing PENDING access
goes IDLE.
What a notice carries is DEDUCED (assumption log 7). -/
def Obligations.HandOverTakesTheFirstSlot : Prop :=
  ∀ s : State, (∀ id, (s.air.slot id).state = .pending → (s.air.slot id).content.isSome) →
    (s.air.haltSlot.reload = none) →
    let pending : SlotId → Prop := fun id => (s.air.slot id).state = .pending
    let sends : SlotId → Prop := fun id => pending id ∧ (id = .halt → s.cvy.convoy ≠ 0)
    let x := s.air.haltSlot
    let base : State := if x.state = .pending ∧ s.cvy.convoy = 0 then { s with
        air := { s.air with haltSlot := { x with
          state := .empty
          content := none
          answered := []
          mark := [] } }
        mail := { s.mail with haltNotices := s.mail.haltNotices ++
          [⟨.cancelled, x.answered.map (·.number), x.content⟩] } }
      else s
    let sent : SlotId → Prop := fun id => ∀ c, (s.air.slot id).content = some c →
      handOver s = { base with air := { base.air.setSlot id { s.air.slot id with state := .onAir } with
        access := .transmitting
        transceiver := some 20
        frame := frameOf (s.air.layoutCode.getD 0) (telegramOf base c)
        quiet := none
        countdown := none
        drawn := false
        count := 0 } }
    (sends .halt → sent .halt) ∧
    (¬sends .halt → sends .release → sent .release) ∧
    (¬sends .halt → ¬sends .release → sends .claim → sent .claim) ∧
    (¬sends .halt → ¬sends .release → ¬sends .claim → sends .position → sent .position) ∧
    ((∀ id, ¬sends id) → handOver s = { base with air := { base.air with
      access := .idle
      drawn := false
      count := 0
      quiet := none
      countdown := none } })

/-- A POSITION handed over says what the node's blocks hold at that moment. Its hold list has one hold entry
for each claim-table entry in HOLDING, RIDING, WAITING or STANDOFF, in the order of the table, which is
ascending order of section, and so at most two. -/
def Obligations.BeaconsTellTheStateOfNow : Prop :=
  ∀ s : State, ∃ b, telegramOf s .position = ⟨ownStation s, 63, .position b⟩ ∧
    (b.valid = true ↔ s.pos.record.validity = .valid) ∧ (b.parked = true ↔ s.node.mode = .parked) ∧
    (b.halted = true ↔ s.cvy.own.trailerLoss ∨ s.cvy.own.standoff ∨ s.cvy.own.intrusion ∨
      s.cvy.foreign ≠ []) ∧
    b.overlength = s.trl.overlength ∧ (b.reversing = true ↔ s.gov.direction = .reverse) ∧
    b.convoy = s.cvy.convoy ∧ b.rank = s.cvy.rank ∧ b.pred = s.cvy.pred ∧
    b.size = (if s.cvy.role = .solo then 1 else s.cvy.members.length + 1) ∧
    (s.pos.record.validity = .none → b.sec = 0 ∧ b.facing = .fwd ∧ b.distance = 0) ∧
    (s.pos.record.validity ≠ .none → b.sec = s.pos.record.sec ∧ b.facing = s.pos.record.facing ∧
      b.distance = s.pos.record.distance) ∧
    b.speed = s.pos.speed ∧
    b.length = min 4095 (s.node.settings.tractorLength +
      (s.trl.chain.map (fun r => s.node.settings.couplingGap + r.record.length)).sum +
      (if s.trl.overlength then s.node.settings.overlengthAllowance else 0)) ∧
    (∀ h, h ∈ b.holds ↔ ∃ e ∈ s.clm.entries, h.sec = e.sec ∧ h.dir = e.dir ∧
      ((e.state = .riding ∧ h.mode = .riding) ∨ (e.state = .waiting ∧ h.mode = .waiting) ∨
        ((e.state = .holding ∨ e.state = .standoff) ∧
          h.mode = if e.tail = 0 then .holding else .clearing))) ∧
    List.Forall₂ (fun (e : ClaimEntry) (h : HoldEntry) => h.sec = e.sec ∧ h.dir = e.dir ∧
        h.mode = match e.state with
          | .riding => .riding
          | .waiting => .waiting
          | _ => if e.tail = 0 then .holding else .clearing)
      (s.clm.entries.filter (fun e => e.state != .none && e.state != .claiming)) b.holds ∧
    (ClaimInv s.clm → (b.holds.map (·.sec)).Pairwise (· < ·) ∧ b.holds.length ≤ 2)

/-- The done signal ends a transmission as SENT, or SENT_DESPITE_CANCEL with a mark; the transceiver
timeout ends it as ABORTED with an AIR_ABORT record. One notice answers the content's requests and the
mark's cancels, the slot drops its content or takes up its reload, and access begins a new attempt
while a slot is PENDING and goes IDLE otherwise. A signal with no slot on the air changes nothing.
What a notice carries is DEDUCED (assumption log 7). -/
def Obligations.TransmissionsAreCompleted : Prop :=
  ∀ (id : SlotId) (s : State), s.held = false →
    let x := s.air.slot id
    let followed : Slot := match x.reload with
      | some r => { x with
        state := .pending
        content := some r.content
        answered := r.answered
        mark := []
        reload := none }
      | none => { x with
        state := .empty
        content := none
        answered := []
        mark := [] }
    let waits := x.reload.isSome ∨ ∃ j, j ≠ id ∧ (s.air.slot j).state = .pending
    let ended : Air → Air := fun a => { a.setSlot id followed with transceiver := none, frame := [] }
    let access : Air → Air := fun a => { a with
      drawn := false
      count := 0
      countdown := none }
    let result : Instr → State → Prop := fun c u =>
      (waits → exec c s = .next { u with air := { access (ended u.air) with
        access := .sensing
        quiet := if s.air.carrier then none else some 2 } }) ∧
      (¬waits → exec c s = .next { u with air := { access (ended u.air) with
        access := .idle
        quiet := none } })
    let notice : SlotOutcome → Notice := fun o => ⟨o, x.answered.map (·.number) ++ x.mark, x.content⟩
    let noted : SlotOutcome → Mail := fun o =>
      s.mail.setNotices id (noticesOf s.mail id ++ [notice o])
    (x.state = .onAir → (∀ j, j ≠ id → (s.air.slot j).state ≠ .onAir) →
      result .doneSignal (raise .sent { s with
        mail := noted (if x.mark = [] then .sent else .sentDespiteCancel)
        air := if id = .position then { s.air with lastBeacon := some s.time } else s.air }) ∧
      result .transceiverTimeout (raise .aborted { s with
        mail := { noted .aborted with
          posts := s.mail.posts ++ [⟨.air, .airAbort, .slot id, .num 0, .num 0⟩] } })) ∧
    ((∀ j, (s.air.slot j).state ≠ .onAir) →
      exec .doneSignal s = .next s ∧ exec .transceiverTimeout s = .next s)

/-! ## The governor -/

/-- One governor update: after the role check, the direction is kept while the rig is commanded to move
and chosen at a stand; the commanded speed rises toward the target by at most the up step and falls by
the brake step for GAP, STOP and HALT and by the down step for every other term; the motor width
follows; DRV takes width and lamps, and CRAWL_ON is posted when crawl comes into force, with the first
cause that holds: POSITION while the position is not VALID, BEACON with none sent since reset or the
last over 400 ms ago, OVERLENGTH.
Crawl in force is DEDUCED (assumption log 24). -/
def Obligations.GovernorUpdateIsRateLimited : Prop :=
  ∀ s : State, s.held = false → s.node.mode = .running → s.gov.timer.isSome →
    let u := roleCheck s
    let g := s.node.settings
    let old := s.gov.speed
    let backward := demand reverseDemand u ≠ 0 ∧ reversePermission u = true
    ∃ (t : State) (v : Nat) (d : Travel), exec .governorUpdate s = .next t ∧
      (old ≠ 0 → d = s.gov.direction) ∧ (old = 0 → (d = .reverse ↔ backward)) ∧
      let target := if d = .forward then forwardTarget u else reverseTarget u
      let braking := target.name = .gap ∨ target.name = .stop ∨ target.name = .halt
      (old < target.value → v = min target.value (old + s.gov.stepUp)) ∧
      (target.value < old → braking → v = max target.value (old - s.gov.stepBrake)) ∧
      (target.value < old → ¬braking → v = max target.value (old - s.gov.stepDown)) ∧
      (old = target.value → v = old) ∧
      let far := g.escStart + v * g.escGain / 256
      let width := if v = 0 then 1500 else
        if d = .forward then max 1000 (min 2000 (1500 + far)) else max 1000 (min 2000 (1500 - far))
      let crawl := crawlCause u
      let overdue := s.air.lastBeacon = none ∨ ∃ b, s.air.lastBeacon = some b ∧ age s.time b > 400
      (s.pos.record.validity ≠ .valid → crawl = some .position) ∧
      (s.pos.record.validity = .valid → overdue → crawl = some .beacon) ∧
      (s.pos.record.validity = .valid → ¬overdue → s.trl.overlength = true → crawl = some .overlength) ∧
      (s.pos.record.validity = .valid → ¬overdue → s.trl.overlength = false → crawl = none) ∧
      t.gov = { s.gov with
        speed := v
        direction := d
        lastTarget := target.value
        limiting := some target.name
        lowered := decide (target.value < old)
        crawl := crawl.isSome
        width := width
        timer := some 20 } ∧
      t.drv = { s.drv with
        heldWidth := width
        output := .governed
        frameTimer := if s.drv.output = .neutral then none else s.drv.frameTimer
        emitting := if s.drv.emitting.isSome then s.drv.emitting else some ⟨width, width⟩
        brakeLamp := decide (target.value < old ∨ v = 0)
        reverseLamp := decide (d = .reverse) } ∧
      (∀ c, crawl = some c → s.gov.crawl = false → t.mail = { u.mail with
        posts := u.mail.posts ++ [⟨.gov, .crawlOn, .crawl c, .num 0, .num 0⟩] }) ∧
      (crawl = none ∨ s.gov.crawl = true → t.mail = u.mail) ∧
      t = { s with
        gov := t.gov
        drv := t.drv
        cvy := u.cvy
        mail := t.mail }

/-- With the halt set empty the forward target is the smallest of the terms that apply, and the limiting
term is the first of equal ones in the order DRIVER, CONVOY, GAP, SECTION, AHEAD_CAP, STOP, CRAWL;
with settings in range it is at most 1023, and at most the crawl cap while the position is not VALID.
isqrt gives the integer square root of every argument the governor forms. -/
def Obligations.ForwardTargetIsTheSmallestTerm : Prop :=
  (∀ s : State, haltSetEmpty s.cvy = true →
     let g := s.node.settings
     let p := s.drv.throttleWidth
     let driver := if s.drv.failsafe = true ∨ p ≤ g.centreTrim + g.deadband then 0
       else min g.vmax ((p - g.centreTrim - g.deadband) * g.vmax / (500 - g.deadband))
     let applies : Term → Nat → Prop := fun name v => match name with
       | .driver => s.cvy.role ≠ .follower ∧ v = driver
       | .convoy => s.cvy.role = .follower ∧ v = g.vmax
       | .gap => (rigAhead s = none ∧ v = 1023) ∨ ∃ a, rigAhead s = some a ∧
         v = if a.gap ≤ g.standstillGap then 0 else min 1023 ((a.gap - g.standstillGap) * 100 / g.headway)
       | .sec => ∃ x rest, chain s = x :: rest ∧ v = x.cap
       | .aheadCap => ∃ x y rest, chain s = x :: y :: rest ∧
         v = min 1023 (isqrt (y.cap * y.cap + 2 * g.accelDown * x.span))
       | .stop => (stopRequirement s = .now ∧ v = 0) ∨
         ∃ d, stopRequirement s = .atMark d ∧ v = isqrt (2 * g.accelDown * d.toNat)
       | .crawl => v = g.crawlCap ∧ (s.pos.record.validity ≠ .valid ∨ s.air.lastBeacon = none ∨
         (∃ t, s.air.lastBeacon = some t ∧ age s.time t > 400) ∨ s.trl.overlength = true)
       | .halt => False
     let order : Term → Nat := fun name => match name with
       | .driver => 0
       | .convoy => 1
       | .gap => 2
       | .sec => 3
       | .aheadCap => 4
       | .stop => 5
       | .crawl => 6
       | .halt => 7
     let target := forwardTarget s
     applies target.name target.value ∧
     (∀ name v, applies name v → target.value < v ∨ (target.value = v ∧ order target.name ≤ order name)) ∧
     (SettingsInRange g → target.value ≤ 1023) ∧
     (s.pos.record.validity ≠ .valid → target.value ≤ g.crawlCap)) ∧
  (∀ n : Nat, n < 2 ^ 32 → isqrt n * isqrt n ≤ n ∧ n < (isqrt n + 1) * (isqrt n + 1))

/-- While the halt set is not empty the forward target is 0 under HALT. Reverse needs permission: a SOLO
role with an empty halt set, or an entry in STANDOFF; its target is the reverse demand, held to the
crawl cap under a crawl condition or in a standoff, and 0 without permission. CLM's stop requirement,
by the first condition that holds: an entry in STANDOFF or a fresh opposite holder inside with the
node asks to stop now; a claim not yet held, or deferred, for the next section asks to stop short of
the boundary by the stop margin; else nothing is asked.
That HALT is named also at reverse demand 0 is the model's choice (assumption log 33). -/
def Obligations.HaltStopsAndReverseNeedsPermission : Prop :=
  (∀ s : State,
     let g := s.node.settings
     let p := s.drv.throttleWidth
     let wanted := if s.drv.failsafe = true ∨ g.centreTrim ≤ p + g.deadband then 0
       else min g.reverseCap ((g.centreTrim - g.deadband - p) * g.reverseCap / (500 - g.deadband))
     let loser := ∃ e ∈ s.clm.entries, e.state = .standoff
     let permitted := (s.cvy.role = .solo ∧ haltSetEmpty s.cvy = true) ∨ loser
     let crawls := crawlCause s ≠ none ∨ loser
     (haltSetEmpty s.cvy = false → forwardTarget s = ⟨0, .halt⟩) ∧
     (¬permitted → haltSetEmpty s.cvy = false → reverseTarget s = ⟨0, .halt⟩) ∧
     (¬permitted → haltSetEmpty s.cvy = true → reverseTarget s = ⟨0, .driver⟩) ∧
     (permitted → crawls → g.crawlCap < wanted → reverseTarget s = ⟨g.crawlCap, .crawl⟩) ∧
     (permitted → (¬crawls ∨ wanted ≤ g.crawlCap) → reverseTarget s = ⟨wanted, .driver⟩)) ∧
  (∀ s : State,
     let fresh : Time → Prop := fun t => age s.time t ≤ s.node.settings.peerLapse ∧ age s.time t ≤ 32767
     let inside : ClaimEntry → Prop := fun e =>
       (s.pos.record.validity ≠ .none ∧ s.pos.record.sec = e.sec) ∨ 0 < e.tail
     let loses := ∃ e ∈ s.clm.entries, e.state = .standoff
     let wins := ∃ e ∈ s.clm.entries, e.state = .holding ∧ inside e ∧
       ∃ h ∈ e.holders, h.dir ≠ e.dir ∧ h.inside = true ∧ fresh h.lastHeard
     let busy : Nat → Nat := fun sec =>
       (s.clm.entries.filter (fun e => e.sec != sec && e.state != .none)).length
     let short : ChainElement → Nat → ClaimEntry → Prop := fun x b e =>
       e.state = .claiming ∨ e.state = .waiting ∨
         (x.kind = .single ∧ e.state = .none ∧ b ≤ s.node.settings.approachDistance ∧ 2 ≤ busy x.sec)
     (loses ∨ wins → stopRequirement s = .now) ∧
     (¬loses → ¬wins → ∀ x y rest, chain s = x :: y :: rest →
       (∀ e, claimEntry s y.sec = some e → short y x.span e →
         stopRequirement s = .atMark ((x.span : Int) - s.node.settings.stopMargin)) ∧
       ((∀ e, claimEntry s y.sec = some e → ¬short y x.span e) → stopRequirement s = .none)) ∧
     (¬loses → ¬wins → (chain s).length ≤ 1 → stopRequirement s = .none))

/-! ## The driver port -/

/-- A throttle pulse by its width: a glitch changes nothing, an invalid one is counted and breaks the run,
a valid one is held and restarts the silence timer, and the third in a row ends the failsafe, with a
record when its cause was SILENCE. Silence of 300 ms begins the failsafe, with a record, or breaks the
run of one that stands. A valid function pulse restarts the function silence timer and is compared
with the record: the present position drops the candidate, another class starts one, and a class that
has stood for 300 ms becomes the position, the change going to CVY and NODE. An invalid one is only
counted; silence drops the candidate. In
NEUTRAL each expiry of the frame timer begins a pulse of 1500 µs and runs the timer again for 20 ms; in
GOVERNED it does not arise. The end of a pulse takes it off the output, also while the node is held in
reset. -/
def Obligations.DriverChannelsFollowTheirPulses : Prop :=
  (∀ (w : Nat) (s : State), s.held = false →
     let d := s.drv
     let drv : Drv → StepResult := fun e => .next { s with drv := e }
     let posting : Drv → Post → StepResult := fun e p =>
       .next { s with drv := e, mail := { s.mail with posts := s.mail.posts ++ [p] } }
     let result := exec (.throttlePulse w) s
     let heldNow := { d with throttleWidth := w, silence := some 300 }
     (w < 20 → result = .next s) ∧
     ((20 ≤ w ∧ w < 900) ∨ 2100 < w →
       result = .next (raise .invalidPulses { s with drv := { d with validRun := 0 } })) ∧
     (900 ≤ w → w ≤ 2100 →
       (d.failsafe = false → result = drv heldNow) ∧
       (d.failsafe = true → d.validRun ≤ 1 → result = drv { heldNow with validRun := d.validRun + 1 }) ∧
       (d.failsafe = true → 2 ≤ d.validRun → d.failsafeCause = .reset →
         result = drv { heldNow with failsafe := false, validRun := 0 }) ∧
       (d.failsafe = true → 2 ≤ d.validRun → d.failsafeCause = .silence →
         result = posting { heldNow with failsafe := false, validRun := 0 }
           ⟨.drv, .failsafeEnded, .num w, .num 0, .num 0⟩)) ∧
     (d.silence.isSome →
       (d.failsafe = true → exec .silenceTimer s = drv { d with silence := none, validRun := 0 }) ∧
       (d.failsafe = false → exec .silenceTimer s = posting
         { d with
           silence := none
           failsafe := true
           failsafeCause := .silence
           validRun := 0 }
         ⟨.drv, .failsafe, .num d.throttleWidth, .mode s.node.mode, .num 0⟩))) ∧
  (∀ (w : Nat) (s : State), s.held = false →
     let d := { s.drv with fnSilence := some 300 }
     let cls : FnPosition := if w ≤ 1299 then .solo else if w ≤ 1700 then .convoy else .park
     let old := s.drv.position
     let result := exec (.functionPulse w) s
     (w < 20 → result = .next s) ∧
     ((20 ≤ w ∧ w < 900) ∨ 2100 < w → result = .next (raise .invalidPulses s)) ∧
     (900 ≤ w → w ≤ 2100 →
       (cls = old → result = .next { s with drv := { d with candidate := none } }) ∧
       (cls ≠ old → s.drv.candidate ≠ some cls →
         result = .next { s with drv := { d with candidate := some cls, candidateSince := s.time } }) ∧
       (cls ≠ old → s.drv.candidate = some cls → age s.time s.drv.candidateSince < 300 →
         result = .next { s with drv := d }) ∧
       (cls ≠ old → s.drv.candidate = some cls → 300 ≤ age s.time s.drv.candidateSince →
         result = .next { s with
           drv := { d with position := cls, candidate := none }
           mail := { s.mail with
             cvyChanges := s.mail.cvyChanges ++ [⟨old, cls⟩]
             nodeChanges := s.mail.nodeChanges ++ [⟨old, cls⟩] } })) ∧
     (s.drv.fnSilence.isSome → exec .functionSilenceTimer s =
       .next { s with drv := { s.drv with candidate := none, fnSilence := none } })) ∧
  (∀ s : State,
     (s.held = false → s.drv.output = .neutral → s.drv.frameTimer.isSome →
       exec .frameTimer s = .next { s with drv := { s.drv with
         frameTimer := some 20
         emitting := some ⟨1500, 1500⟩ } }) ∧
     (s.held = false → s.drv.output = .governed → exec .frameTimer s = .next s) ∧
     exec .motorPulseEnd s = .next { s with drv := { s.drv with emitting := none } })

/-! ## The trailer line and the trailer port -/

/-- On the trailer line a request reaches the tags in front of, and including, the first UNASSIGNED one.
The POLL of an address is answered by the reachable tag in the matching state; ASSIGN addresses the
first UNASSIGNED tag; FORGET makes a reachable tag UNASSIGNED and dark; LAMP reaches the UNASSIGNED
one too. What the node makes of an answer window: answered only by a well-formed answer that names the
address, a length of 100..1500, and the chain record's trailer ID for an assigned address; a
confirmation names the address carried and the trailer ID discovered. A trailer hitched behind the
last comes UNASSIGNED and dark to the end of the line, and a tag back from a brown-out stands so in
its place; behind a parted coupling every tag leaves the line. Nothing in the node changes, whatever
it does.
That a tag takes every request that reaches it is DEDUCED (assumption log 30). -/
def Obligations.TrailerLineReachesAndLosesTags : Prop :=
  (∀ (front back : List Tag) (g : Tag) (a : Nat) (l : Lamps), (∀ x ∈ front, x.address.isSome) →
     let assigned := { g with address := some a }
     let unassigned := { g with address := none }
     let fresh : Tag := ⟨g.record, none, ⟨false, false, false⟩⟩
     let lit : List Tag → List Tag := fun ts => ts.map (fun x => { x with lamps := l })
     (tagAnswering (front ++ unassigned :: back) 0 = if front.any (·.address == some 0) then
       tagAnswering front 0 else some unassigned) ∧
     ((∀ x ∈ front, x.address ≠ some a) → tagAnswering (front ++ assigned :: back) a = some assigned) ∧
     (a ≠ 0 → (∀ x ∈ front, x.address ≠ some a) →
       tagAnswering (front ++ unassigned :: back) a = none) ∧
     assignTag a (front ++ unassigned :: back) = front ++ assigned :: back ∧
     ((∀ x ∈ front, x.address ≠ some a) → forgetTag a (front ++ assigned :: back) = front ++ fresh :: back) ∧
     ((∀ x ∈ front, x.address ≠ some a) →
       forgetTag a (front ++ unassigned :: back) = front ++ unassigned :: back) ∧
     lampTags l (front ++ unassigned :: back) = lit front ++ { unassigned with lamps := l } :: back ∧
     lampTags l front = lit front) ∧
  (∀ (address : Nat) (id : Option TrailerId) (a : TagAnswer) (r : TagRecord),
     let good := a.address = address ∧ 100 ≤ a.record.length ∧ a.record.length ≤ 1500 ∧
       (∀ i, id = some i → i = a.record.id)
     (good → pollOutcome address id (.contents a) = .answered a.record) ∧
     (¬good → pollOutcome address id (.contents a) = .error) ∧
     pollOutcome address id .nothing = .silent ∧ pollOutcome address id .spoiled = .error ∧
     (a.address = address → a.record.id = r.id → assignOutcome address r (.contents a) = .answered r) ∧
     (a.address ≠ address ∨ a.record.id ≠ r.id → assignOutcome address r (.contents a) = .error) ∧
     assignOutcome address r .nothing = .silent ∧ assignOutcome address r .spoiled = .error ∧
     (∀ t : Option TagAnswer, hear t .silence = .nothing ∧ hear t .spoiled = .spoiled ∧
       hear t (.other a) = .contents a) ∧
     hear none .asSent = .nothing ∧ hear (some a) .asSent = .contents a) ∧
  (∀ s : State,
     (∀ r : TagRecord, 100 ≤ r.length → r.length ≤ 1500 → exec (.tagGainsLine (.hitched r)) s =
       .next { s with line := s.line ++ [⟨r, none, ⟨false, false, false⟩⟩] }) ∧
     (∀ front back g, s.line = front ++ g :: back →
       exec (.tagGainsLine (.recovered front.length)) s =
         .next { s with line := front ++ ⟨g.record, none, ⟨false, false, false⟩⟩ :: back }) ∧
     (∀ front back, s.line = front ++ back →
       exec (.tagLosesLine front.length) s = .next { s with line := front }))

/-- The cycle timer's expiry re-arms it with the interval of the mode and begins a cycle at the first
address in use, or at discovery. A POLL answered clears missed; any other outcome raises it, an error
being counted. At 3 the records from the lost address up leave the chain, the top first, with a FORGET
each: TRAILER_DROPPED each at a stand, else one TRAILER_LOSS and an own cause when the last has gone.
How many leave before another block may read the chain is free; the others leave when the queue is
empty and nothing is due (assumption log 35, DESIGN CHOICE). -/
def Obligations.PollsCountMissesAndPop : Prop :=
  let popped : State → Nat → Bool → TrailerId → Nat → Nat → Nat → State :=
    fun u k still id count m draws =>
      let chain := u.trl.chain
      let len := chain.length
      let dropped : List Post := (List.range m).filterMap (fun j => (chain[len - j - 1]?).map (fun x =>
        ⟨.trl, .trailerDropped, .num (len - j), .num x.record.id.toNat, .num 0⟩))
      { u with
        draws := draws
        trl := { u.trl with
          chain := chain.take (len - m)
          cycle := if len + 1 = k + m then .discovering else .popping k still id count }
        line := (List.range m).foldl (fun l j => forgetTag (len - j) l) u.line
        mail :=
          if still then { u.mail with posts := u.mail.posts ++ dropped }
          else if len + 1 = k + m then { u.mail with
            posts := u.mail.posts ++ [⟨.trl, .trailerLoss, .num k, .num id.toNat, .num count⟩]
            trlCauses := u.mail.trlCauses ++ [⟨true, .trailerLoss⟩] }
          else u.mail }
  (∀ (k : Nat) (r : TrailerRecord) (rec : Reception) (s : State), s.held = false →
     let chain := s.trl.chain
     let len := chain.length
     let interval := if s.node.mode = .parked then 1000 else 200
     let outcome := pollOutcome k (some r.record.id) (hear (pollAnswer s.line k) rec)
     let marked : Nat → List TrailerRecord := fun m => chain.set (k - 1) { r with missed := m }
     let next : Cycle := if k < len then .polling (k + 1) else .discovering
     let counted := if outcome = .error then raise .lineErrors s else s
     let polled : State → Nat → StepResult := fun u m =>
       .next { u with trl := { s.trl with chain := marked m, cycle := next } }
     let result := exec (.poll rec) s
     (s.trl.timer.isSome → exec .cycleTimer s = .next { s with trl := { s.trl with
       timer := some interval
       cycle := if s.trl.cycle = .idle then (if chain = [] then .discovering else .polling 1)
         else s.trl.cycle } }) ∧
     (s.trl.cycle = .polling k → 1 ≤ k → chain[k - 1]? = some r →
       (∀ a, outcome = .answered a → result = polled s 0) ∧
       ((∀ a, outcome ≠ .answered a) → r.missed < 2 → result = polled counted (r.missed + 1)) ∧
       ((∀ a, outcome ≠ .answered a) → 2 ≤ r.missed → ∃ m draws, 1 ≤ m ∧ k + m ≤ len + 1 ∧
         result = .next (popped { counted with trl := { s.trl with chain := marked (r.missed + 1) } }
           k (decide (s.pos.still = 25)) r.record.id (len + 1 - k) m draws))) ∧
     ((∀ j, s.trl.cycle ≠ .polling j) → result = .next s)) ∧
  (∀ (k : Nat) (still : Bool) (id : TrailerId) (count : Nat) (s : State), s.held = false →
     s.pending = [] → dueCommands s = [] → s.trl.cycle = .popping k still id count → 1 ≤ k →
     k ≤ s.trl.chain.length →
     ∃ m draws, 1 ≤ m ∧ k + m ≤ s.trl.chain.length + 1 ∧
       step s = .next (popped s k still id count m draws))

/-- Discovery by its outcome: a tag whose trailer ID stands in the chain is re-addressed there, a new one
is assigned the next address, a fifth sets OVERLENGTH with one record, silence three times in a row
clears it, an error is only counted. The cycle goes on to the ASSIGN or to the lamp step. An ASSIGN
that is confirmed pushes the new record, journalled and with a refresh due when it is braked or lit,
or clears missed of a tag re-addressed in its place; one that is not is followed by a FORGET. The
reachable UNASSIGNED tag is taken to have the address either way, which R176 leaves open. The lamp step sends one LAMP when some
record has braked or lamp set and the states differ from those last sent, none were sent, or a refresh
is due; otherwise it only ends the cycle.
The silent count, and that a tag takes every ASSIGN that reaches it, are DEDUCED (assumption log 23, 30). -/
def Obligations.DiscoveryAssignsAndLampsFollow : Prop :=
  (∀ (rec : Reception) (s : State), s.held = false →
     let chain := s.trl.chain
     let outcome := pollOutcome 0 none (hear (pollAnswer s.line 0) rec)
     let quiet := if s.trl.overlength then 0 else s.trl.silent
     let result := exec (.discovery rec) s
     (s.trl.cycle = .discovering →
       (∀ a k, outcome = .answered a → (∃ x, chain[k]? = some x ∧ x.record.id = a.id) →
         (∀ j < k, ∀ x, chain[j]? = some x → x.record.id ≠ a.id) →
         result = .next { s with trl := { s.trl with cycle := .assigning (k + 1) a true, silent := quiet } }) ∧
       (∀ a, outcome = .answered a → (∀ x ∈ chain, x.record.id ≠ a.id) → chain.length < 4 →
         result = .next { s with trl := { s.trl with
           cycle := .assigning (chain.length + 1) a false, silent := quiet } }) ∧
       (∀ a, outcome = .answered a → (∀ x ∈ chain, x.record.id ≠ a.id) → 4 ≤ chain.length →
         let heavy := { s with trl := { s.trl with overlength := true, silent := 0 } }
         (s.trl.overlength = true → result = .next (lampStep heavy)) ∧
         (s.trl.overlength = false → result = .next (lampStep { heavy with mail := { s.mail with
           posts := s.mail.posts ++ [⟨.trl, .overlength, .num a.id.toNat, .num a.length, .num 0⟩] } }))) ∧
       (outcome = .silent →
         (s.trl.overlength = false → result = .next (lampStep s)) ∧
         (s.trl.overlength = true → s.trl.silent < 2 →
           result = .next (lampStep { s with trl := { s.trl with silent := s.trl.silent + 1 } })) ∧
         (s.trl.overlength = true → 2 ≤ s.trl.silent →
           result = .next (lampStep { s with trl := { s.trl with overlength := false, silent := 0 } }))) ∧
       (outcome = .error → result = .next (lampStep (raise .lineErrors s)))) ∧
     (s.trl.cycle ≠ .discovering → result = .next s)) ∧
  (∀ (k : Nat) (r : TagRecord) (rejoin : Bool) (rec : Reception) (s : State), s.held = false →
     s.trl.cycle = .assigning k r rejoin →
     let chain := s.trl.chain
     let outcome := assignOutcome k r (hear (assignAnswer s.line k) rec)
     let taken := { s with line := assignTag k s.line }
     let result := exec (.assign rec) s
     (∀ a, outcome = .answered a → rejoin = false → result = .next (lampStep { taken with
       trl := { s.trl with
         chain := chain ++ [⟨r, 0⟩]
         refresh := s.trl.refresh || r.braked || r.lamp }
       mail := { s.mail with posts := s.mail.posts ++
         [⟨.trl, .trailerCoupled, .num (chain.length + 1), .num r.id.toNat, .num r.length⟩] } })) ∧
     (∀ a, outcome = .answered a → rejoin = true → result = .next (lampStep { taken with
       trl := { s.trl with chain := chain.modify (k - 1) (fun x => { x with missed := 0 }) } })) ∧
     (outcome = .silent → result =
       .next (lampStep { taken with line := forgetTag k taken.line })) ∧
     (outcome = .error → result =
       .next (lampStep { raise .lineErrors taken with line := forgetTag k taken.line }))) ∧
  (∀ s : State,
     let hazard := (s.cvy.own.trailerLoss || s.cvy.own.standoff || s.cvy.own.intrusion) = true ∨
       s.cvy.foreign ≠ [] ∨ ∃ e ∈ s.clm.entries, e.state = .standoff
     let worked := ∃ r ∈ s.trl.chain, r.record.braked = true ∨ r.record.lamp = true
     ∃ h : Bool, (h = true ↔ hazard) ∧
       let now : Lamps := ⟨s.drv.brakeLamp, s.drv.reverseLamp, h⟩
       (worked → (s.trl.lastLamps ≠ some now ∨ s.trl.refresh = true) → lampStep s = { s with
         trl := { s.trl with
           cycle := .idle
           lastLamps := some now
           refresh := false }
         line := lampTags now s.line }) ∧
       (¬worked ∨ (s.trl.lastLamps = some now ∧ s.trl.refresh = false) →
         lampStep s = { s with trl := { s.trl with cycle := .idle } }))

/-! ## The service unit -/

/-- SVC takes the oldest post of a block with the local time of now into the put place of the journal, or
loses it and counts it when 16 records are held; the posts of the other blocks keep their order. The
journal is a queue: a record taken with room stands last and the others keep their order and places;
an ACK of the m-th held record gives up the first m and keeps the rest; an index outside the held
records is answered BAD_INDEX and changes nothing. -/
def Obligations.JournalKeepsRecordsInOrder : Prop :=
  (∀ (block : BlockId) (before after : List Post) (p : Post) (s : State), s.held = false →
     s.mail.posts = before ++ p :: after → (∀ q ∈ before, q.block ≠ block) → p.block = block →
     let j := s.svc.journal
     let taken := { s with mail := { s.mail with posts := before ++ after } }
     (j.fill < 16 → exec (.journalPost block) s = .next { taken with svc := { s.svc with journal := { j with
       places := j.places.set j.putIndex (some ⟨p.kind, s.time, p.first, p.second, p.third⟩)
       putIndex := (j.putIndex + 1) % 16
       fill := j.fill + 1 } } }) ∧
     (16 ≤ j.fill → exec (.journalPost block) s = .next { taken with svc := { s.svc with
       journal := { j with lost := min 255 (j.lost + 1) } } })) ∧
  (∀ (j : Journal), JournalInv j →
     (∀ r, j.fill < 16 → (j.take r).records = j.records ++ [(j.putIndex, some r)] ∧ JournalInv (j.take r)) ∧
     (∀ r, j.fill = 16 → (j.take r).records = j.records) ∧
     (∀ (i : Nat) (s : State), s.held = false → s.svc.answer = none → s.svc.journal = j → i < 16 →
       (∀ k rec older newer, j.records = older ++ (i, rec) :: newer → k = older.length →
         ∃ t, exec (.ack i) s = .next t ∧ t.svc.journal.records = newer ∧
           t.svc.journal.fill = j.fill - (k + 1) ∧ JournalInv t.svc.journal ∧
           t.svc.answer = some (.acknowledged (j.fill - (k + 1))) ∧
           t.svc.journal.places = j.places ∧ t.svc.journal.lost = j.lost ∧
           t = { s with svc := { s.svc with journal := t.svc.journal, answer := t.svc.answer } }) ∧
       ((∀ x ∈ j.records, x.1 ≠ i) →
         exec (.ack i) s = .next { s with svc := { s.svc with answer := some .badIndex } })))

/-- Every request that reads state is answered from the state of that moment and changes nothing else: STATUS
with the node's modes, records and journal fill, PEERS with every entry in use at its index, with its
age and whether it is fresh, CLAIMS with every entry and the ages of its records, ROSTER with the role
record, the roster in roster order and the halt set, TRAILERS with the chain from address 1 upward,
JOURNAL with the held records from the get index on, each with its place. A request of an unknown kind
is answered UNKNOWN; and any request that completes while an answer is being sent waits for its BUSY
answer and changes nothing else. The fault lamp is lit exactly while the journal watermark is on and
reached, crawl is reported in force, the failsafe is active, OVERLENGTH is set or the halt set is not
empty.
That BUSY answers are counted, and the order of the foreign halt entries, of the records of a claim entry
and of the PEERS lines, are the model's choices (assumption log 26, 32, 37, 39). -/
def Obligations.ReadRequestsAnswerFromTheStateOfNow : Prop :=
  (∀ s : State, s.held = false →
     let gives : Instr → Answer → Prop := fun c a =>
       exec c s = .next { s with svc := { s.svc with answer := some a } }
     (s.svc.answer = none →
       gives .status (.status (statusAnswer s)) ∧ gives .peers (.peers (peersAnswer s)) ∧
       gives .claims (.claims (claimsAnswer s)) ∧ gives .roster (.roster (rosterAnswer s)) ∧
       gives .trailers (.trailers (trailersAnswer s)) ∧ gives .journal (.journal (journalAnswer s)) ∧
       gives .counters (.counters s.svc.counters) ∧ gives .unknown .unknown) ∧
     (s.svc.answer ≠ none → ∀ c, c ∈ [Instr.status, .peers, .claims, .roster, .trailers, .journal,
       .counters, .unknown, .clearCounters, .restart] ∨ (∃ i, c = .ack i) →
       exec c s = .next { s with svc := { s.svc with waiting := s.svc.waiting + 1 } })) ∧
  (∀ s : State, faultLamp s = true ↔
     (s.node.settings.watermark ≠ 0 ∧ s.node.settings.watermark ≤ s.svc.journal.fill) ∨
     s.gov.crawl = true ∨ s.node.mode = .unconfigured ∨ s.drv.failsafe = true ∨
     s.trl.overlength = true ∨ s.cvy.own.trailerLoss = true ∨ s.cvy.own.standoff = true ∨
     s.cvy.own.intrusion = true ∨ s.cvy.foreign ≠ []) ∧
  (∀ s : State,
     let old := age s.time
     let fresh : PeerEntry → Bool := fun e =>
       decide (old e.received ≤ (if e.parked then 3000 else s.node.settings.peerLapse) ∧
         old e.received ≤ 32767)
     let line : Member → RosterLine := fun m =>
       ⟨m.station, m.rank, m.pred, m.sec, m.facing, m.distance, m.parked, some m.lastHeard,
         some (old m.lastHeard)⟩
     let mine : RosterLine := ⟨ownStation s, s.cvy.rank, s.cvy.pred, s.pos.record.sec, s.pos.record.facing,
       s.pos.record.distance, decide (s.node.mode = .parked), none, none⟩
     let ro := rosterAnswer s
     let length : Nat → Int := fun i =>
       if (sectionAt s.pos.sections i).kind = .absent then 0 else (sectionAt s.pos.sections i).length
     let place : RosterLine → Int := fun x =>
       if x.facing = .fwd then x.distance else length x.sec - x.distance
     let inOrder : RosterLine → RosterLine → Prop := fun a b => a.rank < b.rank ∨ (a.rank = b.rank ∧
       (place a > place b ∨ (place a = place b ∧ a.station ≤ b.station)))
     let j := s.svc.journal
     statusAnswer s = ⟨s.node.mode, s.node.resetCause, s.node.resetCount, s.node.faultCause,
       s.node.faultDetail, s.pos.record, s.pos.speed, s.gov.speed, s.gov.direction, s.gov.lastTarget,
       s.gov.limiting, decide (s.gov.crawl = true ∨ s.node.mode = .unconfigured), s.drv.throttleWidth,
       s.drv.failsafe, s.drv.failsafeCause, s.drv.position, s.cvy.role, s.cvy.convoy, s.cvy.rank,
       s.cvy.pred, j.fill, j.lost, faultLamp s⟩ ∧
     ((∀ l, l ∈ peersAnswer s ↔ ∃ i e, s.peer.entries[i]? = some (some e) ∧
         l = ⟨i, e, old e.received, fresh e⟩) ∧
       ((peersAnswer s).map (·.index)).Pairwise (· < ·)) ∧
     claimsAnswer s = s.clm.entries.map (fun e => ⟨e, e.holders.map (fun h => old h.lastHeard),
       e.claimants.map (fun c => old c.received), e.heardAB.map old, e.heardBA.map old⟩) ∧
     (ro.role = s.cvy.role ∧ ro.convoy = s.cvy.convoy ∧ ro.rank = s.cvy.rank ∧ ro.pred = s.cvy.pred ∧
       ro.retryUsed = s.cvy.retryUsed ∧ ro.own = s.cvy.own ∧ ro.foreign = s.cvy.foreign ∧
       (s.cvy.role = .solo → ro.roster = [] ∧ ro.size = 1) ∧
       (s.cvy.role ≠ .solo → ro.roster.Perm (mine :: s.cvy.members.map line) ∧
         ro.size = ro.roster.length ∧
         (s.cvy.members.Pairwise (fun a b => b.before s.pos.sections a = false) →
           ro.roster.Pairwise inOrder))) ∧
     ((trailersAnswer s).overlength = s.trl.overlength ∧ (trailersAnswer s).silent = s.trl.silent ∧
       (trailersAnswer s).lastLamps = s.trl.lastLamps ∧
       (∀ i, (trailersAnswer s).chain[i]? = (s.trl.chain[i]?).map (fun r => (⟨i + 1, r⟩ : TrailerLine)))) ∧
     journalAnswer s = ⟨j.fill, j.lost, j.getIndex, j.putIndex, (List.range j.fill).map (fun k =>
       ((j.getIndex + k) % 16, j.places.getD ((j.getIndex + k) % 16) none))⟩)

/-- CLEAR_COUNTERS sets every counter to 0 in one change. RESTART is refused as MOVING while a speed is
not 0 and otherwise answered OK, after which only the restart follows. At the end of any other answer
a waiting request is answered BUSY, and with none waiting the service line becomes free. A counter
rises by one up to 65535, and the others keep their values.
That BUSY answers are counted is the model's choice (assumption log 26). -/
def Obligations.CountersClearAndRestartIsAsked : Prop :=
  (∀ s : State, s.held = false →
     let svc : Svc → StepResult := fun x => .next { s with svc := x }
     let moving := s.gov.speed ≠ 0 ∨ s.pos.speed ≠ 0
     (s.svc.answer = none →
       (∃ t, exec .clearCounters s = .next t ∧ (∀ id, t.svc.counters.read id = 0) ∧
         t.svc.answer = some .cleared ∧
         t = { s with svc := { s.svc with counters := t.svc.counters, answer := t.svc.answer } }) ∧
       (moving → exec .restart s = svc { s.svc with answer := some .moving }) ∧
       (¬moving → exec .restart s = svc { s.svc with answer := some .restarting })) ∧
     (∀ a, s.svc.answer = some a → a ≠ .restarting →
       (∀ n, s.svc.waiting = n + 1 →
         exec .busy s = svc { s.svc with answer := some .busy, waiting := n } ∧ exec .answerEnded s = .next s) ∧
       (s.svc.waiting = 0 →
         exec .answerEnded s = svc { s.svc with answer := none } ∧ exec .busy s = .next s)) ∧
     (s.svc.answer = none ∨ s.svc.answer = some .restarting →
       exec .busy s = .next s ∧ exec .answerEnded s = .next s)) ∧
  (∀ (i j : CounterId) (c : Counters),
     (c.raise i).read i = min 65535 (c.read i + 1) ∧ (i ≠ j → (c.raise i).read j = c.read j))

/-! ## Whole-machine rules -/

/-- The journal stays a queue of at most 16 held records, every counter within 0..65535, and the trailer
port's chain, missed counts, silent count and cycle within their bounds, through every step of every
state that has them so. -/
def Obligations.StepsKeepJournalCountersAndTrailers : Prop :=
  ∀ s t : State, step s = .next t →
    (JournalInv s.svc.journal → JournalInv t.svc.journal) ∧
    (CountersInv s.svc.counters → CountersInv t.svc.counters) ∧
    (TrailerInv s.trl → TrailerInv t.trl)

/-- Through every step the role record, the roster and the halt set agree, and the claim table keeps its
order, at most two entries in use, no station twice in an entry's lists and no tail above the rig
length taken at the exit. -/
def Obligations.StepsKeepConvoyAndClaims : Prop :=
  ∀ s t : State, step s = .next t →
    (ConvoyInv s.cvy → ConvoyInv t.cvy) ∧ (ClaimInv s.clm → ClaimInv t.clm)

/-- Through every step the transmit slots agree with channel access: at most one slot is on the air, and
exactly while access is TRANSMITTING; nothing is PENDING while access is IDLE; no dispatch queue holds
more than four copies. -/
def Obligations.StepsKeepTheAirPort : Prop :=
  ∀ s t : State, AirInv s.air → step s = .next t → AirInv t.air

/-- Through every step the settings stay in range, the position record stands on the map, and only a
RUNNING node can drive; a RUNNING node in a SINGLE section holds it or is in standoff there. -/
def Obligations.StepsKeepTheModes : Prop :=
  ∀ s t : State, ModeInv s → step s = .next t → ModeInv t

/-- Everything that always holds, holds right after reset. -/
def Obligations.ResetMeetsTheInvariant : Prop := Inv State.reset

/-- The commanded speed rises only at a governor update, by no more than the up step, and never forward
while the halt set that the update's role check leaves is not empty; and a command that is not a tag
read or a reset leaves the section and facing of the position record alone. -/
def Obligations.SpeedRisesOnlyAtUpdates : Prop :=
  ∀ (c : Instr) (s t : State), exec c s = .next t →
    (s.gov.speed < t.gov.speed → c = .governorUpdate ∧ s.node.mode = .running ∧
      t.gov.speed ≤ s.gov.speed + s.gov.stepUp ∧ t.gov.speed ≤ t.gov.lastTarget ∧
      (t.gov.direction = .forward → haltSetEmpty t.cvy = true)) ∧
    ((∀ tag, c ≠ .tagRead tag) → (∀ b, c ≠ .supplyDip b) → c ≠ .powerOn →
      c ≠ .supplyBelowDipThreshold → c ≠ .serviceRestart →
      t.pos.record.sec = s.pos.record.sec ∧ t.pos.record.facing = s.pos.record.facing)
end

