-- ==== Sys2Proof/Laws/State.lean ====
section
/-! SUPPORT. One lemma per field per update of the machine's state, each true by definition. -/

namespace Sys2Proof.Machine.State

@[simp] theorem setPending_pending (s : State) (x : List Instr) : (s.setPending x).pending = x := rfl
@[simp] theorem setPending_held (s : State) (x : List Instr) : (s.setPending x).held = s.held := rfl
@[simp] theorem setPending_time (s : State) (x : List Instr) : (s.setPending x).time = s.time := rfl
@[simp] theorem setPending_pos (s : State) (x : List Instr) : (s.setPending x).pos = s.pos := rfl
@[simp] theorem setPending_air (s : State) (x : List Instr) : (s.setPending x).air = s.air := rfl
@[simp] theorem setPending_peer (s : State) (x : List Instr) : (s.setPending x).peer = s.peer := rfl
@[simp] theorem setPending_cvy (s : State) (x : List Instr) : (s.setPending x).cvy = s.cvy := rfl
@[simp] theorem setPending_clm (s : State) (x : List Instr) : (s.setPending x).clm = s.clm := rfl
@[simp] theorem setPending_gov (s : State) (x : List Instr) : (s.setPending x).gov = s.gov := rfl
@[simp] theorem setPending_drv (s : State) (x : List Instr) : (s.setPending x).drv = s.drv := rfl
@[simp] theorem setPending_trl (s : State) (x : List Instr) : (s.setPending x).trl = s.trl := rfl
@[simp] theorem setPending_line (s : State) (x : List Instr) : (s.setPending x).line = s.line := rfl
@[simp] theorem setPending_node (s : State) (x : List Instr) : (s.setPending x).node = s.node := rfl
@[simp] theorem setPending_svc (s : State) (x : List Instr) : (s.setPending x).svc = s.svc := rfl
@[simp] theorem setPending_mail (s : State) (x : List Instr) : (s.setPending x).mail = s.mail := rfl
@[simp] theorem setPending_draws (s : State) (x : List Instr) : (s.setPending x).draws = s.draws := rfl

@[simp] theorem setTime_pending (s : State) (x : Time) : (s.setTime x).pending = s.pending := rfl
@[simp] theorem setTime_held (s : State) (x : Time) : (s.setTime x).held = s.held := rfl
@[simp] theorem setTime_time (s : State) (x : Time) : (s.setTime x).time = x := rfl
@[simp] theorem setTime_pos (s : State) (x : Time) : (s.setTime x).pos = s.pos := rfl
@[simp] theorem setTime_air (s : State) (x : Time) : (s.setTime x).air = s.air := rfl
@[simp] theorem setTime_peer (s : State) (x : Time) : (s.setTime x).peer = s.peer := rfl
@[simp] theorem setTime_cvy (s : State) (x : Time) : (s.setTime x).cvy = s.cvy := rfl
@[simp] theorem setTime_clm (s : State) (x : Time) : (s.setTime x).clm = s.clm := rfl
@[simp] theorem setTime_gov (s : State) (x : Time) : (s.setTime x).gov = s.gov := rfl
@[simp] theorem setTime_drv (s : State) (x : Time) : (s.setTime x).drv = s.drv := rfl
@[simp] theorem setTime_trl (s : State) (x : Time) : (s.setTime x).trl = s.trl := rfl
@[simp] theorem setTime_line (s : State) (x : Time) : (s.setTime x).line = s.line := rfl
@[simp] theorem setTime_node (s : State) (x : Time) : (s.setTime x).node = s.node := rfl
@[simp] theorem setTime_svc (s : State) (x : Time) : (s.setTime x).svc = s.svc := rfl
@[simp] theorem setTime_mail (s : State) (x : Time) : (s.setTime x).mail = s.mail := rfl
@[simp] theorem setTime_draws (s : State) (x : Time) : (s.setTime x).draws = s.draws := rfl

@[simp] theorem setPos_pending (s : State) (x : Pos) : (s.setPos x).pending = s.pending := rfl
@[simp] theorem setPos_held (s : State) (x : Pos) : (s.setPos x).held = s.held := rfl
@[simp] theorem setPos_time (s : State) (x : Pos) : (s.setPos x).time = s.time := rfl
@[simp] theorem setPos_pos (s : State) (x : Pos) : (s.setPos x).pos = x := rfl
@[simp] theorem setPos_air (s : State) (x : Pos) : (s.setPos x).air = s.air := rfl
@[simp] theorem setPos_peer (s : State) (x : Pos) : (s.setPos x).peer = s.peer := rfl
@[simp] theorem setPos_cvy (s : State) (x : Pos) : (s.setPos x).cvy = s.cvy := rfl
@[simp] theorem setPos_clm (s : State) (x : Pos) : (s.setPos x).clm = s.clm := rfl
@[simp] theorem setPos_gov (s : State) (x : Pos) : (s.setPos x).gov = s.gov := rfl
@[simp] theorem setPos_drv (s : State) (x : Pos) : (s.setPos x).drv = s.drv := rfl
@[simp] theorem setPos_trl (s : State) (x : Pos) : (s.setPos x).trl = s.trl := rfl
@[simp] theorem setPos_line (s : State) (x : Pos) : (s.setPos x).line = s.line := rfl
@[simp] theorem setPos_node (s : State) (x : Pos) : (s.setPos x).node = s.node := rfl
@[simp] theorem setPos_svc (s : State) (x : Pos) : (s.setPos x).svc = s.svc := rfl
@[simp] theorem setPos_mail (s : State) (x : Pos) : (s.setPos x).mail = s.mail := rfl
@[simp] theorem setPos_draws (s : State) (x : Pos) : (s.setPos x).draws = s.draws := rfl

@[simp] theorem setAir_pending (s : State) (x : Air) : (s.setAir x).pending = s.pending := rfl
@[simp] theorem setAir_held (s : State) (x : Air) : (s.setAir x).held = s.held := rfl
@[simp] theorem setAir_time (s : State) (x : Air) : (s.setAir x).time = s.time := rfl
@[simp] theorem setAir_pos (s : State) (x : Air) : (s.setAir x).pos = s.pos := rfl
@[simp] theorem setAir_air (s : State) (x : Air) : (s.setAir x).air = x := rfl
@[simp] theorem setAir_peer (s : State) (x : Air) : (s.setAir x).peer = s.peer := rfl
@[simp] theorem setAir_cvy (s : State) (x : Air) : (s.setAir x).cvy = s.cvy := rfl
@[simp] theorem setAir_clm (s : State) (x : Air) : (s.setAir x).clm = s.clm := rfl
@[simp] theorem setAir_gov (s : State) (x : Air) : (s.setAir x).gov = s.gov := rfl
@[simp] theorem setAir_drv (s : State) (x : Air) : (s.setAir x).drv = s.drv := rfl
@[simp] theorem setAir_trl (s : State) (x : Air) : (s.setAir x).trl = s.trl := rfl
@[simp] theorem setAir_line (s : State) (x : Air) : (s.setAir x).line = s.line := rfl
@[simp] theorem setAir_node (s : State) (x : Air) : (s.setAir x).node = s.node := rfl
@[simp] theorem setAir_svc (s : State) (x : Air) : (s.setAir x).svc = s.svc := rfl
@[simp] theorem setAir_mail (s : State) (x : Air) : (s.setAir x).mail = s.mail := rfl
@[simp] theorem setAir_draws (s : State) (x : Air) : (s.setAir x).draws = s.draws := rfl

@[simp] theorem setPeer_pending (s : State) (x : PeerTable) : (s.setPeer x).pending = s.pending := rfl
@[simp] theorem setPeer_held (s : State) (x : PeerTable) : (s.setPeer x).held = s.held := rfl
@[simp] theorem setPeer_time (s : State) (x : PeerTable) : (s.setPeer x).time = s.time := rfl
@[simp] theorem setPeer_pos (s : State) (x : PeerTable) : (s.setPeer x).pos = s.pos := rfl
@[simp] theorem setPeer_air (s : State) (x : PeerTable) : (s.setPeer x).air = s.air := rfl
@[simp] theorem setPeer_peer (s : State) (x : PeerTable) : (s.setPeer x).peer = x := rfl
@[simp] theorem setPeer_cvy (s : State) (x : PeerTable) : (s.setPeer x).cvy = s.cvy := rfl
@[simp] theorem setPeer_clm (s : State) (x : PeerTable) : (s.setPeer x).clm = s.clm := rfl
@[simp] theorem setPeer_gov (s : State) (x : PeerTable) : (s.setPeer x).gov = s.gov := rfl
@[simp] theorem setPeer_drv (s : State) (x : PeerTable) : (s.setPeer x).drv = s.drv := rfl
@[simp] theorem setPeer_trl (s : State) (x : PeerTable) : (s.setPeer x).trl = s.trl := rfl
@[simp] theorem setPeer_line (s : State) (x : PeerTable) : (s.setPeer x).line = s.line := rfl
@[simp] theorem setPeer_node (s : State) (x : PeerTable) : (s.setPeer x).node = s.node := rfl
@[simp] theorem setPeer_svc (s : State) (x : PeerTable) : (s.setPeer x).svc = s.svc := rfl
@[simp] theorem setPeer_mail (s : State) (x : PeerTable) : (s.setPeer x).mail = s.mail := rfl
@[simp] theorem setPeer_draws (s : State) (x : PeerTable) : (s.setPeer x).draws = s.draws := rfl

@[simp] theorem setCvy_pending (s : State) (x : Cvy) : (s.setCvy x).pending = s.pending := rfl
@[simp] theorem setCvy_held (s : State) (x : Cvy) : (s.setCvy x).held = s.held := rfl
@[simp] theorem setCvy_time (s : State) (x : Cvy) : (s.setCvy x).time = s.time := rfl
@[simp] theorem setCvy_pos (s : State) (x : Cvy) : (s.setCvy x).pos = s.pos := rfl
@[simp] theorem setCvy_air (s : State) (x : Cvy) : (s.setCvy x).air = s.air := rfl
@[simp] theorem setCvy_peer (s : State) (x : Cvy) : (s.setCvy x).peer = s.peer := rfl
@[simp] theorem setCvy_cvy (s : State) (x : Cvy) : (s.setCvy x).cvy = x := rfl
@[simp] theorem setCvy_clm (s : State) (x : Cvy) : (s.setCvy x).clm = s.clm := rfl
@[simp] theorem setCvy_gov (s : State) (x : Cvy) : (s.setCvy x).gov = s.gov := rfl
@[simp] theorem setCvy_drv (s : State) (x : Cvy) : (s.setCvy x).drv = s.drv := rfl
@[simp] theorem setCvy_trl (s : State) (x : Cvy) : (s.setCvy x).trl = s.trl := rfl
@[simp] theorem setCvy_line (s : State) (x : Cvy) : (s.setCvy x).line = s.line := rfl
@[simp] theorem setCvy_node (s : State) (x : Cvy) : (s.setCvy x).node = s.node := rfl
@[simp] theorem setCvy_svc (s : State) (x : Cvy) : (s.setCvy x).svc = s.svc := rfl
@[simp] theorem setCvy_mail (s : State) (x : Cvy) : (s.setCvy x).mail = s.mail := rfl
@[simp] theorem setCvy_draws (s : State) (x : Cvy) : (s.setCvy x).draws = s.draws := rfl

@[simp] theorem setClm_pending (s : State) (x : Clm) : (s.setClm x).pending = s.pending := rfl
@[simp] theorem setClm_held (s : State) (x : Clm) : (s.setClm x).held = s.held := rfl
@[simp] theorem setClm_time (s : State) (x : Clm) : (s.setClm x).time = s.time := rfl
@[simp] theorem setClm_pos (s : State) (x : Clm) : (s.setClm x).pos = s.pos := rfl
@[simp] theorem setClm_air (s : State) (x : Clm) : (s.setClm x).air = s.air := rfl
@[simp] theorem setClm_peer (s : State) (x : Clm) : (s.setClm x).peer = s.peer := rfl
@[simp] theorem setClm_cvy (s : State) (x : Clm) : (s.setClm x).cvy = s.cvy := rfl
@[simp] theorem setClm_clm (s : State) (x : Clm) : (s.setClm x).clm = x := rfl
@[simp] theorem setClm_gov (s : State) (x : Clm) : (s.setClm x).gov = s.gov := rfl
@[simp] theorem setClm_drv (s : State) (x : Clm) : (s.setClm x).drv = s.drv := rfl
@[simp] theorem setClm_trl (s : State) (x : Clm) : (s.setClm x).trl = s.trl := rfl
@[simp] theorem setClm_line (s : State) (x : Clm) : (s.setClm x).line = s.line := rfl
@[simp] theorem setClm_node (s : State) (x : Clm) : (s.setClm x).node = s.node := rfl
@[simp] theorem setClm_svc (s : State) (x : Clm) : (s.setClm x).svc = s.svc := rfl
@[simp] theorem setClm_mail (s : State) (x : Clm) : (s.setClm x).mail = s.mail := rfl
@[simp] theorem setClm_draws (s : State) (x : Clm) : (s.setClm x).draws = s.draws := rfl

@[simp] theorem setGov_pending (s : State) (x : Gov) : (s.setGov x).pending = s.pending := rfl
@[simp] theorem setGov_held (s : State) (x : Gov) : (s.setGov x).held = s.held := rfl
@[simp] theorem setGov_time (s : State) (x : Gov) : (s.setGov x).time = s.time := rfl
@[simp] theorem setGov_pos (s : State) (x : Gov) : (s.setGov x).pos = s.pos := rfl
@[simp] theorem setGov_air (s : State) (x : Gov) : (s.setGov x).air = s.air := rfl
@[simp] theorem setGov_peer (s : State) (x : Gov) : (s.setGov x).peer = s.peer := rfl
@[simp] theorem setGov_cvy (s : State) (x : Gov) : (s.setGov x).cvy = s.cvy := rfl
@[simp] theorem setGov_clm (s : State) (x : Gov) : (s.setGov x).clm = s.clm := rfl
@[simp] theorem setGov_gov (s : State) (x : Gov) : (s.setGov x).gov = x := rfl
@[simp] theorem setGov_drv (s : State) (x : Gov) : (s.setGov x).drv = s.drv := rfl
@[simp] theorem setGov_trl (s : State) (x : Gov) : (s.setGov x).trl = s.trl := rfl
@[simp] theorem setGov_line (s : State) (x : Gov) : (s.setGov x).line = s.line := rfl
@[simp] theorem setGov_node (s : State) (x : Gov) : (s.setGov x).node = s.node := rfl
@[simp] theorem setGov_svc (s : State) (x : Gov) : (s.setGov x).svc = s.svc := rfl
@[simp] theorem setGov_mail (s : State) (x : Gov) : (s.setGov x).mail = s.mail := rfl
@[simp] theorem setGov_draws (s : State) (x : Gov) : (s.setGov x).draws = s.draws := rfl

@[simp] theorem setDrv_pending (s : State) (x : Drv) : (s.setDrv x).pending = s.pending := rfl
@[simp] theorem setDrv_held (s : State) (x : Drv) : (s.setDrv x).held = s.held := rfl
@[simp] theorem setDrv_time (s : State) (x : Drv) : (s.setDrv x).time = s.time := rfl
@[simp] theorem setDrv_pos (s : State) (x : Drv) : (s.setDrv x).pos = s.pos := rfl
@[simp] theorem setDrv_air (s : State) (x : Drv) : (s.setDrv x).air = s.air := rfl
@[simp] theorem setDrv_peer (s : State) (x : Drv) : (s.setDrv x).peer = s.peer := rfl
@[simp] theorem setDrv_cvy (s : State) (x : Drv) : (s.setDrv x).cvy = s.cvy := rfl
@[simp] theorem setDrv_clm (s : State) (x : Drv) : (s.setDrv x).clm = s.clm := rfl
@[simp] theorem setDrv_gov (s : State) (x : Drv) : (s.setDrv x).gov = s.gov := rfl
@[simp] theorem setDrv_drv (s : State) (x : Drv) : (s.setDrv x).drv = x := rfl
@[simp] theorem setDrv_trl (s : State) (x : Drv) : (s.setDrv x).trl = s.trl := rfl
@[simp] theorem setDrv_line (s : State) (x : Drv) : (s.setDrv x).line = s.line := rfl
@[simp] theorem setDrv_node (s : State) (x : Drv) : (s.setDrv x).node = s.node := rfl
@[simp] theorem setDrv_svc (s : State) (x : Drv) : (s.setDrv x).svc = s.svc := rfl
@[simp] theorem setDrv_mail (s : State) (x : Drv) : (s.setDrv x).mail = s.mail := rfl
@[simp] theorem setDrv_draws (s : State) (x : Drv) : (s.setDrv x).draws = s.draws := rfl

@[simp] theorem setTrl_pending (s : State) (x : Trl) : (s.setTrl x).pending = s.pending := rfl
@[simp] theorem setTrl_held (s : State) (x : Trl) : (s.setTrl x).held = s.held := rfl
@[simp] theorem setTrl_time (s : State) (x : Trl) : (s.setTrl x).time = s.time := rfl
@[simp] theorem setTrl_pos (s : State) (x : Trl) : (s.setTrl x).pos = s.pos := rfl
@[simp] theorem setTrl_air (s : State) (x : Trl) : (s.setTrl x).air = s.air := rfl
@[simp] theorem setTrl_peer (s : State) (x : Trl) : (s.setTrl x).peer = s.peer := rfl
@[simp] theorem setTrl_cvy (s : State) (x : Trl) : (s.setTrl x).cvy = s.cvy := rfl
@[simp] theorem setTrl_clm (s : State) (x : Trl) : (s.setTrl x).clm = s.clm := rfl
@[simp] theorem setTrl_gov (s : State) (x : Trl) : (s.setTrl x).gov = s.gov := rfl
@[simp] theorem setTrl_drv (s : State) (x : Trl) : (s.setTrl x).drv = s.drv := rfl
@[simp] theorem setTrl_trl (s : State) (x : Trl) : (s.setTrl x).trl = x := rfl
@[simp] theorem setTrl_line (s : State) (x : Trl) : (s.setTrl x).line = s.line := rfl
@[simp] theorem setTrl_node (s : State) (x : Trl) : (s.setTrl x).node = s.node := rfl
@[simp] theorem setTrl_svc (s : State) (x : Trl) : (s.setTrl x).svc = s.svc := rfl
@[simp] theorem setTrl_mail (s : State) (x : Trl) : (s.setTrl x).mail = s.mail := rfl
@[simp] theorem setTrl_draws (s : State) (x : Trl) : (s.setTrl x).draws = s.draws := rfl

@[simp] theorem setLine_pending (s : State) (x : List Tag) : (s.setLine x).pending = s.pending := rfl
@[simp] theorem setLine_held (s : State) (x : List Tag) : (s.setLine x).held = s.held := rfl
@[simp] theorem setLine_time (s : State) (x : List Tag) : (s.setLine x).time = s.time := rfl
@[simp] theorem setLine_pos (s : State) (x : List Tag) : (s.setLine x).pos = s.pos := rfl
@[simp] theorem setLine_air (s : State) (x : List Tag) : (s.setLine x).air = s.air := rfl
@[simp] theorem setLine_peer (s : State) (x : List Tag) : (s.setLine x).peer = s.peer := rfl
@[simp] theorem setLine_cvy (s : State) (x : List Tag) : (s.setLine x).cvy = s.cvy := rfl
@[simp] theorem setLine_clm (s : State) (x : List Tag) : (s.setLine x).clm = s.clm := rfl
@[simp] theorem setLine_gov (s : State) (x : List Tag) : (s.setLine x).gov = s.gov := rfl
@[simp] theorem setLine_drv (s : State) (x : List Tag) : (s.setLine x).drv = s.drv := rfl
@[simp] theorem setLine_trl (s : State) (x : List Tag) : (s.setLine x).trl = s.trl := rfl
@[simp] theorem setLine_line (s : State) (x : List Tag) : (s.setLine x).line = x := rfl
@[simp] theorem setLine_node (s : State) (x : List Tag) : (s.setLine x).node = s.node := rfl
@[simp] theorem setLine_svc (s : State) (x : List Tag) : (s.setLine x).svc = s.svc := rfl
@[simp] theorem setLine_mail (s : State) (x : List Tag) : (s.setLine x).mail = s.mail := rfl
@[simp] theorem setLine_draws (s : State) (x : List Tag) : (s.setLine x).draws = s.draws := rfl

@[simp] theorem setNode_pending (s : State) (x : Node) : (s.setNode x).pending = s.pending := rfl
@[simp] theorem setNode_held (s : State) (x : Node) : (s.setNode x).held = s.held := rfl
@[simp] theorem setNode_time (s : State) (x : Node) : (s.setNode x).time = s.time := rfl
@[simp] theorem setNode_pos (s : State) (x : Node) : (s.setNode x).pos = s.pos := rfl
@[simp] theorem setNode_air (s : State) (x : Node) : (s.setNode x).air = s.air := rfl
@[simp] theorem setNode_peer (s : State) (x : Node) : (s.setNode x).peer = s.peer := rfl
@[simp] theorem setNode_cvy (s : State) (x : Node) : (s.setNode x).cvy = s.cvy := rfl
@[simp] theorem setNode_clm (s : State) (x : Node) : (s.setNode x).clm = s.clm := rfl
@[simp] theorem setNode_gov (s : State) (x : Node) : (s.setNode x).gov = s.gov := rfl
@[simp] theorem setNode_drv (s : State) (x : Node) : (s.setNode x).drv = s.drv := rfl
@[simp] theorem setNode_trl (s : State) (x : Node) : (s.setNode x).trl = s.trl := rfl
@[simp] theorem setNode_line (s : State) (x : Node) : (s.setNode x).line = s.line := rfl
@[simp] theorem setNode_node (s : State) (x : Node) : (s.setNode x).node = x := rfl
@[simp] theorem setNode_svc (s : State) (x : Node) : (s.setNode x).svc = s.svc := rfl
@[simp] theorem setNode_mail (s : State) (x : Node) : (s.setNode x).mail = s.mail := rfl
@[simp] theorem setNode_draws (s : State) (x : Node) : (s.setNode x).draws = s.draws := rfl

@[simp] theorem setSvc_pending (s : State) (x : Svc) : (s.setSvc x).pending = s.pending := rfl
@[simp] theorem setSvc_held (s : State) (x : Svc) : (s.setSvc x).held = s.held := rfl
@[simp] theorem setSvc_time (s : State) (x : Svc) : (s.setSvc x).time = s.time := rfl
@[simp] theorem setSvc_pos (s : State) (x : Svc) : (s.setSvc x).pos = s.pos := rfl
@[simp] theorem setSvc_air (s : State) (x : Svc) : (s.setSvc x).air = s.air := rfl
@[simp] theorem setSvc_peer (s : State) (x : Svc) : (s.setSvc x).peer = s.peer := rfl
@[simp] theorem setSvc_cvy (s : State) (x : Svc) : (s.setSvc x).cvy = s.cvy := rfl
@[simp] theorem setSvc_clm (s : State) (x : Svc) : (s.setSvc x).clm = s.clm := rfl
@[simp] theorem setSvc_gov (s : State) (x : Svc) : (s.setSvc x).gov = s.gov := rfl
@[simp] theorem setSvc_drv (s : State) (x : Svc) : (s.setSvc x).drv = s.drv := rfl
@[simp] theorem setSvc_trl (s : State) (x : Svc) : (s.setSvc x).trl = s.trl := rfl
@[simp] theorem setSvc_line (s : State) (x : Svc) : (s.setSvc x).line = s.line := rfl
@[simp] theorem setSvc_node (s : State) (x : Svc) : (s.setSvc x).node = s.node := rfl
@[simp] theorem setSvc_svc (s : State) (x : Svc) : (s.setSvc x).svc = x := rfl
@[simp] theorem setSvc_mail (s : State) (x : Svc) : (s.setSvc x).mail = s.mail := rfl
@[simp] theorem setSvc_draws (s : State) (x : Svc) : (s.setSvc x).draws = s.draws := rfl

@[simp] theorem setMail_pending (s : State) (x : Mail) : (s.setMail x).pending = s.pending := rfl
@[simp] theorem setMail_held (s : State) (x : Mail) : (s.setMail x).held = s.held := rfl
@[simp] theorem setMail_time (s : State) (x : Mail) : (s.setMail x).time = s.time := rfl
@[simp] theorem setMail_pos (s : State) (x : Mail) : (s.setMail x).pos = s.pos := rfl
@[simp] theorem setMail_air (s : State) (x : Mail) : (s.setMail x).air = s.air := rfl
@[simp] theorem setMail_peer (s : State) (x : Mail) : (s.setMail x).peer = s.peer := rfl
@[simp] theorem setMail_cvy (s : State) (x : Mail) : (s.setMail x).cvy = s.cvy := rfl
@[simp] theorem setMail_clm (s : State) (x : Mail) : (s.setMail x).clm = s.clm := rfl
@[simp] theorem setMail_gov (s : State) (x : Mail) : (s.setMail x).gov = s.gov := rfl
@[simp] theorem setMail_drv (s : State) (x : Mail) : (s.setMail x).drv = s.drv := rfl
@[simp] theorem setMail_trl (s : State) (x : Mail) : (s.setMail x).trl = s.trl := rfl
@[simp] theorem setMail_line (s : State) (x : Mail) : (s.setMail x).line = s.line := rfl
@[simp] theorem setMail_node (s : State) (x : Mail) : (s.setMail x).node = s.node := rfl
@[simp] theorem setMail_svc (s : State) (x : Mail) : (s.setMail x).svc = s.svc := rfl
@[simp] theorem setMail_mail (s : State) (x : Mail) : (s.setMail x).mail = x := rfl
@[simp] theorem setMail_draws (s : State) (x : Mail) : (s.setMail x).draws = s.draws := rfl

@[simp] theorem setDraws_pending (s : State) (x : Nat) : (s.setDraws x).pending = s.pending := rfl
@[simp] theorem setDraws_held (s : State) (x : Nat) : (s.setDraws x).held = s.held := rfl
@[simp] theorem setDraws_time (s : State) (x : Nat) : (s.setDraws x).time = s.time := rfl
@[simp] theorem setDraws_pos (s : State) (x : Nat) : (s.setDraws x).pos = s.pos := rfl
@[simp] theorem setDraws_air (s : State) (x : Nat) : (s.setDraws x).air = s.air := rfl
@[simp] theorem setDraws_peer (s : State) (x : Nat) : (s.setDraws x).peer = s.peer := rfl
@[simp] theorem setDraws_cvy (s : State) (x : Nat) : (s.setDraws x).cvy = s.cvy := rfl
@[simp] theorem setDraws_clm (s : State) (x : Nat) : (s.setDraws x).clm = s.clm := rfl
@[simp] theorem setDraws_gov (s : State) (x : Nat) : (s.setDraws x).gov = s.gov := rfl
@[simp] theorem setDraws_drv (s : State) (x : Nat) : (s.setDraws x).drv = s.drv := rfl
@[simp] theorem setDraws_trl (s : State) (x : Nat) : (s.setDraws x).trl = s.trl := rfl
@[simp] theorem setDraws_line (s : State) (x : Nat) : (s.setDraws x).line = s.line := rfl
@[simp] theorem setDraws_node (s : State) (x : Nat) : (s.setDraws x).node = s.node := rfl
@[simp] theorem setDraws_svc (s : State) (x : Nat) : (s.setDraws x).svc = s.svc := rfl
@[simp] theorem setDraws_mail (s : State) (x : Nat) : (s.setDraws x).mail = s.mail := rfl
@[simp] theorem setDraws_draws (s : State) (x : Nat) : (s.setDraws x).draws = x := rfl

end Sys2Proof.Machine.State
end

