-- ==== Sys2Proof/Laws/Foot.lean ====
section
/-! SUPPORT. Footprints: which parts of the state an operation can change. `blank F s` forgets the parts
that F names, so `blank F t = blank F s` says that t differs from s in those parts only. -/

namespace Sys2Proof.Laws

open Sys2Proof.Machine

/-- The parts of the state an operation may change; SVC is split into journal, counters and service
line. -/
structure Foot where
  pending : Bool := false
  held : Bool := false
  time : Bool := false
  pos : Bool := false
  air : Bool := false
  peer : Bool := false
  cvy : Bool := false
  clm : Bool := false
  gov : Bool := false
  drv : Bool := false
  trl : Bool := false
  line : Bool := false
  node : Bool := false
  journal : Bool := false
  counters : Bool := false
  service : Bool := false
  mail : Bool := false
  draws : Bool := false
  deriving DecidableEq, Repr

/-- F names no part that G does not name. -/
def Foot.le (F G : Foot) : Bool :=
  (!F.pending || G.pending) && (!F.held || G.held) && (!F.time || G.time) && (!F.pos || G.pos) &&
  (!F.air || G.air) && (!F.peer || G.peer) && (!F.cvy || G.cvy) && (!F.clm || G.clm) &&
  (!F.gov || G.gov) && (!F.drv || G.drv) && (!F.trl || G.trl) && (!F.line || G.line) &&
  (!F.node || G.node) && (!F.journal || G.journal) && (!F.counters || G.counters) &&
  (!F.service || G.service) && (!F.mail || G.mail) && (!F.draws || G.draws)

/-- One value, or nothing where the part is forgotten. -/
def keep {α : Type} (b : Bool) (z x : α) : α := if b then z else x

/-- The state with the parts of F forgotten. -/
def blank (F : Foot) (s : State) : State where
  pending := keep F.pending [] s.pending
  held := keep F.held false s.held
  time := keep F.time 0 s.time
  pos := keep F.pos Pos.reset s.pos
  air := keep F.air Air.reset s.air
  peer := keep F.peer PeerTable.reset s.peer
  cvy := keep F.cvy Cvy.reset s.cvy
  clm := keep F.clm Clm.reset s.clm
  gov := keep F.gov Gov.reset s.gov
  drv := keep F.drv Drv.reset s.drv
  trl := keep F.trl Trl.reset s.trl
  line := keep F.line [] s.line
  node := keep F.node (Node.reset .powerOn 0) s.node
  svc := ⟨keep F.journal Journal.cleared s.svc.journal, keep F.counters Counters.zero s.svc.counters,
    keep F.service none s.svc.answer, keep F.service 0 s.svc.waiting⟩
  mail := keep F.mail Mail.empty s.mail
  draws := keep F.draws 0 s.draws

theorem keep_mono {α : Type} {b c : Bool} (h : (!b || c) = true) {z x y : α}
    (e : keep b z x = keep b z y) : keep c z x = keep c z y := by
  cases b <;> cases c <;> simp_all [keep]

theorem of_keep {α : Type} {b : Bool} (h : b = false) {z x y : α} (e : keep b z x = keep b z y) : x = y := by
  subst h; exact e

/-- Two states agree after forgetting F exactly when every part agrees after forgetting it. -/
theorem blank_eq_iff {F : Foot} {s t : State} : blank F s = blank F t ↔
    keep F.pending [] s.pending = keep F.pending [] t.pending ∧
    keep F.held false s.held = keep F.held false t.held ∧
    keep F.time 0 s.time = keep F.time 0 t.time ∧
    keep F.pos Pos.reset s.pos = keep F.pos Pos.reset t.pos ∧
    keep F.air Air.reset s.air = keep F.air Air.reset t.air ∧
    keep F.peer PeerTable.reset s.peer = keep F.peer PeerTable.reset t.peer ∧
    keep F.cvy Cvy.reset s.cvy = keep F.cvy Cvy.reset t.cvy ∧
    keep F.clm Clm.reset s.clm = keep F.clm Clm.reset t.clm ∧
    keep F.gov Gov.reset s.gov = keep F.gov Gov.reset t.gov ∧
    keep F.drv Drv.reset s.drv = keep F.drv Drv.reset t.drv ∧
    keep F.trl Trl.reset s.trl = keep F.trl Trl.reset t.trl ∧
    keep F.line [] s.line = keep F.line [] t.line ∧
    keep F.node (Node.reset .powerOn 0) s.node = keep F.node (Node.reset .powerOn 0) t.node ∧
    (keep F.journal Journal.cleared s.svc.journal = keep F.journal Journal.cleared t.svc.journal ∧
      keep F.counters Counters.zero s.svc.counters = keep F.counters Counters.zero t.svc.counters ∧
      keep F.service none s.svc.answer = keep F.service none t.svc.answer ∧
      keep F.service 0 s.svc.waiting = keep F.service 0 t.svc.waiting) ∧
    keep F.mail Mail.empty s.mail = keep F.mail Mail.empty t.mail ∧
    keep F.draws 0 s.draws = keep F.draws 0 t.draws := by
  simp only [blank, State.mk.injEq, Svc.mk.injEq]

/-- A larger footprint forgets more. -/
theorem blank_mono {F G : Foot} (h : F.le G = true) {s t : State} (e : blank F s = blank F t) :
    blank G s = blank G t := by
  simp only [Foot.le, Bool.and_eq_true] at h
  obtain ⟨⟨⟨⟨⟨⟨⟨⟨⟨⟨⟨⟨⟨⟨⟨⟨⟨h1, h2⟩, h3⟩, h4⟩, h5⟩, h6⟩, h7⟩, h8⟩, h9⟩, h10⟩, h11⟩, h12⟩, h13⟩, h14⟩, h15⟩,
    h16⟩, h17⟩, h18⟩ := h
  rw [blank_eq_iff] at e ⊢
  obtain ⟨e1, e2, e3, e4, e5, e6, e7, e8, e9, e10, e11, e12, e13, ⟨e14, e15, e16, e16'⟩, e17, e18⟩ := e
  exact ⟨keep_mono h1 e1, keep_mono h2 e2, keep_mono h3 e3, keep_mono h4 e4, keep_mono h5 e5,
    keep_mono h6 e6, keep_mono h7 e7, keep_mono h8 e8, keep_mono h9 e9, keep_mono h10 e10,
    keep_mono h11 e11, keep_mono h12 e12, keep_mono h13 e13,
    ⟨keep_mono h14 e14, keep_mono h15 e15, keep_mono h16 e16, keep_mono h16 e16'⟩,
    keep_mono h17 e17, keep_mono h18 e18⟩

/-! ## Reading a part off a footprint -/

variable {F : Foot} {s t : State} (e : blank F t = blank F s)
include e

theorem blank_pending (h : F.pending = false) : t.pending = s.pending := of_keep h (congrArg State.pending e)
theorem blank_held (h : F.held = false) : t.held = s.held := of_keep h (congrArg State.held e)
theorem blank_time (h : F.time = false) : t.time = s.time := of_keep h (congrArg State.time e)
theorem blank_pos (h : F.pos = false) : t.pos = s.pos := of_keep h (congrArg State.pos e)
theorem blank_air (h : F.air = false) : t.air = s.air := of_keep h (congrArg State.air e)
theorem blank_peer (h : F.peer = false) : t.peer = s.peer := of_keep h (congrArg State.peer e)
theorem blank_cvy (h : F.cvy = false) : t.cvy = s.cvy := of_keep h (congrArg State.cvy e)
theorem blank_clm (h : F.clm = false) : t.clm = s.clm := of_keep h (congrArg State.clm e)
theorem blank_gov (h : F.gov = false) : t.gov = s.gov := of_keep h (congrArg State.gov e)
theorem blank_drv (h : F.drv = false) : t.drv = s.drv := of_keep h (congrArg State.drv e)
theorem blank_trl (h : F.trl = false) : t.trl = s.trl := of_keep h (congrArg State.trl e)
theorem blank_line (h : F.line = false) : t.line = s.line := of_keep h (congrArg State.line e)
theorem blank_node (h : F.node = false) : t.node = s.node := of_keep h (congrArg State.node e)
theorem blank_journal (h : F.journal = false) : t.svc.journal = s.svc.journal :=
  of_keep h (congrArg (fun x : State => x.svc.journal) e)
theorem blank_counters (h : F.counters = false) : t.svc.counters = s.svc.counters :=
  of_keep h (congrArg (fun x : State => x.svc.counters) e)
theorem blank_answer (h : F.service = false) : t.svc.answer = s.svc.answer :=
  of_keep h (congrArg (fun x : State => x.svc.answer) e)
theorem blank_waiting (h : F.service = false) : t.svc.waiting = s.svc.waiting :=
  of_keep h (congrArg (fun x : State => x.svc.waiting) e)
theorem blank_mail (h : F.mail = false) : t.mail = s.mail := of_keep h (congrArg State.mail e)
theorem blank_draws (h : F.draws = false) : t.draws = s.draws := of_keep h (congrArg State.draws e)

end Sys2Proof.Laws
end

