-- ==== Sys2Proof/Laws/Frames.lean ====
section
/-! SUPPORT. The footprints of the shared operations and of the setters: which parts of the state each can change. -/

namespace Sys2Proof.Laws

open Sys2Proof.Machine

variable {G : Foot}

@[simp] theorem setPending_frame (h : G.pending = true) (s : State) (x : List Instr) : blank G (s.setPending x) = blank G s := by
  simp [blank_eq_iff, keep, h]
@[simp] theorem setTime_frame (h : G.time = true) (s : State) (x : Time) : blank G (s.setTime x) = blank G s := by
  simp [blank_eq_iff, keep, h]
@[simp] theorem setPos_frame (h : G.pos = true) (s : State) (x : Pos) : blank G (s.setPos x) = blank G s := by
  simp [blank_eq_iff, keep, h]
@[simp] theorem setAir_frame (h : G.air = true) (s : State) (x : Air) : blank G (s.setAir x) = blank G s := by
  simp [blank_eq_iff, keep, h]
@[simp] theorem setPeer_frame (h : G.peer = true) (s : State) (x : PeerTable) : blank G (s.setPeer x) = blank G s := by
  simp [blank_eq_iff, keep, h]
@[simp] theorem setCvy_frame (h : G.cvy = true) (s : State) (x : Cvy) : blank G (s.setCvy x) = blank G s := by
  simp [blank_eq_iff, keep, h]
@[simp] theorem setClm_frame (h : G.clm = true) (s : State) (x : Clm) : blank G (s.setClm x) = blank G s := by
  simp [blank_eq_iff, keep, h]
@[simp] theorem setGov_frame (h : G.gov = true) (s : State) (x : Gov) : blank G (s.setGov x) = blank G s := by
  simp [blank_eq_iff, keep, h]
@[simp] theorem setDrv_frame (h : G.drv = true) (s : State) (x : Drv) : blank G (s.setDrv x) = blank G s := by
  simp [blank_eq_iff, keep, h]
@[simp] theorem setTrl_frame (h : G.trl = true) (s : State) (x : Trl) : blank G (s.setTrl x) = blank G s := by
  simp [blank_eq_iff, keep, h]
@[simp] theorem setLine_frame (h : G.line = true) (s : State) (x : List Tag) : blank G (s.setLine x) = blank G s := by
  simp [blank_eq_iff, keep, h]
@[simp] theorem setNode_frame (h : G.node = true) (s : State) (x : Node) : blank G (s.setNode x) = blank G s := by
  simp [blank_eq_iff, keep, h]
@[simp] theorem setMail_frame (h : G.mail = true) (s : State) (x : Mail) : blank G (s.setMail x) = blank G s := by
  simp [blank_eq_iff, keep, h]
@[simp] theorem setDraws_frame (h : G.draws = true) (s : State) (x : Nat) : blank G (s.setDraws x) = blank G s := by
  simp [blank_eq_iff, keep, h]

/-- Replacing SVC's counters. -/
@[simp] theorem setCounters_frame (h : G.counters = true) (s : State) (x : Counters) :
    blank G (s.setSvc ⟨s.svc.journal, x, s.svc.answer, s.svc.waiting⟩) = blank G s := by
  simp [blank_eq_iff, keep, h]

/-- Replacing SVC's journal. -/
@[simp] theorem setJournalPart_frame (h : G.journal = true) (s : State) (x : Journal) :
    blank G (s.setSvc ⟨x, s.svc.counters, s.svc.answer, s.svc.waiting⟩) = blank G s := by
  simp [blank_eq_iff, keep, h]

/-- Replacing SVC's service line. -/
@[simp] theorem setAnswer_frame (h : G.service = true) (s : State) (x : Option Answer) (n : Nat) :
    blank G (s.setSvc ⟨s.svc.journal, s.svc.counters, x, n⟩) = blank G s := by
  simp [blank_eq_iff, keep, h]

/-- A fold of steps that keep what G keeps. -/
theorem foldl_frame {α : Type} {f : State → α → State} (hf : ∀ s a, blank G (f s a) = blank G s)
    (l : List α) (s : State) : blank G (l.foldl f s) = blank G s := by
  induction l generalizing s with
  | nil => rfl
  | cons a l ih => rw [List.foldl_cons, ih, hf]

/-- A command guarded by the hold of the node in reset. -/
theorem whileUp_frame {f : State → State} (hf : ∀ s, blank G (f s) = blank G s) {s t : State}
    (e : whileUp s f = .next t) : blank G t = blank G s := by
  unfold whileUp at e
  split at e <;> cases e
  · rfl
  · exact hf _

end Sys2Proof.Laws
end

