-- ==== Sys2Proof/Laws/FrameOps.lean ====
section
/-! SUPPORT. Footprints of the messages and counts. -/

namespace Sys2Proof.Laws

open Sys2Proof.Machine

/-- Footprint. -/
abbrev footPost : Foot := { mail := true }
/-- Footprint. -/
abbrev footRaise : Foot := { counters := true }
/-- Footprint. -/
abbrev footPeer : Foot := { peer := true, mail := true, counters := true }
/-- Footprint. -/
abbrev footPeerTake : Foot := { peer := true, air := true, mail := true, counters := true }
/-- Footprint. -/
abbrev footCvy : Foot := { cvy := true, mail := true, draws := true }
/-- Footprint. -/
abbrev footCvyTake : Foot := { cvy := true, air := true, mail := true, draws := true }
/-- Footprint. -/
abbrev footClm : Foot := { clm := true, mail := true, draws := true }
/-- Footprint. -/
abbrev footLearn : Foot := { clm := true, mail := true, counters := true, draws := true }
/-- Footprint. -/
abbrev footClmTake : Foot := { clm := true, air := true, mail := true, counters := true, draws := true }
/-- Footprint. -/
abbrev footAir : Foot := { air := true, mail := true, counters := true }
/-- Footprint. -/
abbrev footDrv : Foot := { drv := true, mail := true, counters := true }
/-- Footprint. -/
abbrev footGov : Foot := { gov := true, drv := true, cvy := true, mail := true, draws := true }
/-- Footprint. -/
abbrev footTrl : Foot := { trl := true, line := true, mail := true, counters := true, draws := true }
/-- Footprint. -/
abbrev footPos : Foot := { pos := true, clm := true, mail := true, counters := true, draws := true }
/-- Footprint. -/
abbrev footLoad : Foot := { node := true, pos := true, air := true, peer := true, cvy := true, clm := true, gov := true, trl := true, line := true, mail := true }
/-- Footprint. -/
abbrev footRun : Foot := { node := true, gov := true, clm := true, mail := true, draws := true }
/-- Footprint. -/
abbrev footPark : Foot := { node := true, gov := true, drv := true, trl := true, air := true, clm := true, mail := true, draws := true }
/-- Footprint. -/
abbrev footDraw : Foot := { air := true }
/-- Footprint. -/
abbrev footTrlOnly : Foot := { trl := true }
/-- Footprint. -/
abbrev footDrvOnly : Foot := { drv := true }
/-- Footprint. -/
abbrev footPostTake : Foot := { journal := true, mail := true }
/-- Footprint. -/
abbrev footJournal : Foot := { journal := true }
/-- Footprint. -/
abbrev footLine : Foot := { line := true }
/-- Footprint. -/
abbrev footService : Foot := { service := true }
/-- Footprint. -/
abbrev footAck : Foot := { journal := true, service := true }
/-- Footprint. -/
abbrev footClear : Foot := { counters := true, service := true }

@[simp] theorem post_frame {G : Foot} (h : Foot.le footPost G = true) (block : BlockId) (kind : RecordKind) (first second third : Detail) (s : State) :
    blank G (post block kind first second third s) = blank G s := by
  refine blank_mono h ?_
  unfold post
  (try dsimp only)
  (repeat' split) <;> simp (disch := decide)

@[simp] theorem postRequest_frame {G : Foot} (h : Foot.le footPost G = true) (id : SlotId) (r : Request) (s : State) :
    blank G (postRequest id r s) = blank G s := by
  refine blank_mono h ?_
  unfold postRequest
  (try dsimp only)
  (repeat' split) <;> simp (disch := decide)

@[simp] theorem notify_frame {G : Foot} (h : Foot.le footPost G = true) (id : SlotId) (n : Notice) (s : State) :
    blank G (notify id n s) = blank G s := by
  refine blank_mono h ?_
  unfold notify
  (try dsimp only)
  (repeat' split) <;> simp (disch := decide)

@[simp] theorem postRelease_frame {G : Foot} (h : Foot.le footPost G = true) (sec : Nat) (s : State) :
    blank G (postRelease sec s) = blank G s := by
  refine blank_mono h ?_
  unfold postRelease
  (try dsimp only)
  (repeat' split) <;> simp (disch := decide)

@[simp] theorem postCause_frame {G : Foot} (h : Foot.le footPost G = true) (src : CauseSource) (add : Bool) (cause : HaltCause) (s : State) :
    blank G (postCause src add cause s) = blank G s := by
  refine blank_mono h ?_
  unfold postCause
  (try dsimp only)
  (repeat' split) <;> simp (disch := decide)

@[simp] theorem raise_frame {G : Foot} (h : Foot.le footRaise G = true) (id : CounterId) (s : State) :
    blank G (raise id s) = blank G s := by
  refine blank_mono h ?_
  unfold raise
  (try dsimp only)
  (repeat' split) <;> simp (disch := decide)

end Sys2Proof.Laws
end

