-- ==== Sys2Proof/Laws/FrameConvoy.lean ====
section
/-! SUPPORT. Footprints of CVY's operations. -/

namespace Sys2Proof.Laws

open Sys2Proof.Machine

/-- CVY takes a telegram. -/
theorem cvyTakes_frame {G : Foot} (ha : G.air = true) {p : Matter → Bool} {f : Received → State → State}
    (hf : ∀ r s, blank G (f r s) = blank G s) (s : State) : blank G (cvyTakes p f s) = blank G s := by
  unfold cvyTakes
  split
  · rfl
  · split
    · rw [hf]; simp [ha]
    · rfl

/-- A requester takes a notice. -/
theorem takeNotice_frame {G : Foot} (hm : G.mail = true) {id : SlotId} {f : Notice → State → State}
    (hf : ∀ r s, blank G (f r s) = blank G s) (s : State) : blank G (takeNotice id f s) = blank G s := by
  unfold takeNotice
  split
  · rfl
  · rw [hf]; simp [hm]

/-- Two posts in either order. -/
theorem postEitherOrder_frame {G : Foot} (hd : G.draws = true) {f g : State → State}
    (hf : ∀ s, blank G (f s) = blank G s) (hg : ∀ s, blank G (g s) = blank G s) (s : State) :
    blank G (postEitherOrder f g s) = blank G s := by
  unfold postEitherOrder
  dsimp only
  split <;> simp [hf, hg, hd]

@[simp] theorem postHalt_frame {G : Foot} (h : Foot.le footCvy G = true) (cause : HaltCause) (s : State) :
    blank G (postHalt cause s) = blank G s := by
  refine blank_mono h ?_
  unfold postHalt
  (try dsimp only)
  (repeat' split) <;> simp (disch := decide)

@[simp] theorem postResume_frame {G : Foot} (h : Foot.le footCvy G = true) (s : State) :
    blank G (postResume s) = blank G s := by
  refine blank_mono h ?_
  unfold postResume
  (try dsimp only)
  (repeat' split) <;> simp (disch := decide)

@[simp] theorem tellNewConvoy_frame {G : Foot} (h : Foot.le footCvy G = true) (s : State) :
    blank G (tellNewConvoy s) = blank G s := by
  refine blank_mono h ?_
  unfold tellNewConvoy
  (try dsimp only)
  (repeat' split) <;> simp (disch := decide)

@[simp] theorem leave_frame {G : Foot} (h : Foot.le footCvy G = true) (cause : LeaveCause) (s : State) :
    blank G (leave cause s) = blank G s := by
  refine blank_mono h ?_
  unfold leave
  (try dsimp only)
  (repeat' split) <;> simp (disch := decide)

@[simp] theorem join_frame {G : Foot} (h : Foot.le footCvy G = true) (e : PeerEntry) (s : State) :
    blank G (join e s) = blank G s := by
  refine blank_mono h ?_
  unfold join
  (try dsimp only)
  (repeat' split) <;> simp (disch := decide)

@[simp] theorem joinTest_frame {G : Foot} (h : Foot.le footCvy G = true) (s : State) :
    blank G (joinTest s) = blank G s := by
  refine blank_mono h ?_
  unfold joinTest
  (try dsimp only)
  (repeat' split) <;> simp (disch := decide)

@[simp] theorem roleCheck_frame {G : Foot} (h : Foot.le footCvy G = true) (s : State) :
    blank G (roleCheck s) = blank G s := by
  refine blank_mono h ?_
  unfold roleCheck
  (try dsimp only)
  (repeat' split) <;> simp (disch := decide)

@[simp] theorem followFunction_frame {G : Foot} (h : Foot.le footCvy G = true) (c : FnChange) (s : State) :
    blank G (followFunction c s) = blank G s := by
  refine blank_mono h ?_
  unfold followFunction
  (try dsimp only)
  (repeat' split) <;> simp (disch := decide)

@[simp] theorem cvyTakesChange_frame {G : Foot} (h : Foot.le footCvy G = true) (s : State) :
    blank G (cvyTakesChange s) = blank G s := by
  refine blank_mono h ?_
  unfold cvyTakesChange
  (try dsimp only)
  (repeat' split) <;> simp (disch := decide)

theorem execCvyFunctionChange_frame {G : Foot} (h : Foot.le footCvy G = true) {s t : State} (e : execCvyFunctionChange s = .next t) :
    blank G t = blank G s := by
  refine whileUp_frame (f := _) ?_ e
  intro s; refine blank_mono h ?_
  (try dsimp only)
  (repeat' split) <;> simp (disch := decide)

@[simp] theorem setMembers_frame {G : Foot} (h : Foot.le footCvy G = true) (ms : List Member) (s : State) :
    blank G (setMembers ms s) = blank G s := by
  refine blank_mono h ?_
  unfold setMembers
  (try dsimp only)
  (repeat' split) <;> simp (disch := decide)

@[simp] theorem leaderTest_frame {G : Foot} (h : Foot.le footCvy G = true) (s : State) :
    blank G (leaderTest s) = blank G s := by
  refine blank_mono h ?_
  unfold leaderTest
  (try dsimp only)
  (repeat' split) <;> simp (disch := decide)

@[simp] theorem fullRoster_frame {G : Foot} (h : Foot.le footCvy G = true) (m : Member) (s : State) :
    blank G (fullRoster m s) = blank G s := by
  refine blank_mono h ?_
  unfold fullRoster
  (try dsimp only)
  (repeat' split) <;> simp (disch := decide)

@[simp] theorem membership_frame {G : Foot} (h : Foot.le footCvy G = true) (station : Nat) (b : Beacon) (received : Time) (s : State) :
    blank G (membership station b received s) = blank G s := by
  refine blank_mono h ?_
  unfold membership
  (try dsimp only)
  (repeat' split) <;> simp (disch := decide)

@[simp] theorem becomeLeader_frame {G : Foot} (h : Foot.le footCvy G = true) (station : Nat) (s : State) :
    blank G (becomeLeader station s) = blank G s := by
  refine blank_mono h ?_
  unfold becomeLeader
  (try dsimp only)
  (repeat' split) <;> simp (disch := decide)

@[simp] theorem propagate_frame {G : Foot} (h : Foot.le footCvy G = true) (b : Beacon) (s : State) :
    blank G (propagate b s) = blank G s := by
  refine blank_mono h ?_
  unfold propagate
  (try dsimp only)
  (repeat' split) <;> simp (disch := decide)

@[simp] theorem leadOrPropagate_frame {G : Foot} (h : Foot.le footCvy G = true) (station : Nat) (b : Beacon) (s : State) :
    blank G (leadOrPropagate station b s) = blank G s := by
  refine blank_mono h ?_
  unfold leadOrPropagate
  (try dsimp only)
  (repeat' split) <;> simp (disch := decide)

@[simp] theorem liftHalt_frame {G : Foot} (h : Foot.le footCvy G = true) (source : Nat) (s : State) :
    blank G (liftHalt source s) = blank G s := by
  refine blank_mono h ?_
  unfold liftHalt
  (try dsimp only)
  (repeat' split) <;> simp (disch := decide)

@[simp] theorem haltEndsByBeacon_frame {G : Foot} (h : Foot.le footCvy G = true) (station : Nat) (b : Beacon) (s : State) :
    blank G (haltEndsByBeacon station b s) = blank G s := by
  refine blank_mono h ?_
  unfold haltEndsByBeacon
  (try dsimp only)
  (repeat' split) <;> simp (disch := decide)

@[simp] theorem cvyTakePosition_frame {G : Foot} (h : Foot.le footCvy G = true) (station : Nat) (b : Beacon) (received : Time) (s : State) :
    blank G (cvyTakePosition station b received s) = blank G s := by
  refine blank_mono h ?_
  unfold cvyTakePosition
  (try dsimp only)
  (repeat' split) <;> simp (disch := decide)

@[simp] theorem recordHalt_frame {G : Foot} (h : Foot.le footCvy G = true) (source : Nat) (cause : HaltCause) (s : State) :
    blank G (recordHalt source cause s) = blank G s := by
  refine blank_mono h ?_
  unfold recordHalt
  dsimp only
  (repeat' split)
  · simp (disch := decide)
  · simp (disch := decide)
  · exact postEitherOrder_frame rfl (fun s => by simp (disch := decide)) (fun s => by simp (disch := decide)) s

theorem execCvyTakesPosition_frame {G : Foot} (h : Foot.le footCvyTake G = true) {s t : State} (e : execCvyTakesPosition s = .next t) :
    blank G t = blank G s := by
  refine whileUp_frame (f := _) ?_ e
  intro s; refine blank_mono h ?_
  apply cvyTakes_frame rfl
  intro r s
  (try dsimp only)
  (repeat' split) <;> simp (disch := decide)

theorem execCvyTakesHalt_frame {G : Foot} (h : Foot.le footCvyTake G = true) {s t : State} (e : execCvyTakesHalt s = .next t) :
    blank G t = blank G s := by
  refine whileUp_frame (f := _) ?_ e
  intro s; refine blank_mono h ?_
  apply cvyTakes_frame rfl
  intro r s
  (try dsimp only)
  (repeat' split) <;> simp (disch := decide)

theorem execCvyTakesResume_frame {G : Foot} (h : Foot.le footCvyTake G = true) {s t : State} (e : execCvyTakesResume s = .next t) :
    blank G t = blank G s := by
  refine whileUp_frame (f := _) ?_ e
  intro s; refine blank_mono h ?_
  apply cvyTakes_frame rfl
  intro r s
  (try dsimp only)
  (repeat' split) <;> simp (disch := decide)

@[simp] theorem sweepMembers_frame {G : Foot} (h : Foot.le footCvy G = true) (s : State) :
    blank G (sweepMembers s) = blank G s := by
  refine blank_mono h ?_
  unfold sweepMembers
  (try dsimp only)
  (repeat' split) <;> simp (disch := decide)

theorem execCvySweep_frame {G : Foot} (h : Foot.le footCvy G = true) {s t : State} (e : execCvySweep s = .next t) :
    blank G t = blank G s := by
  refine whileUp_frame (f := _) ?_ e
  intro s; refine blank_mono h ?_
  (try dsimp only)
  (repeat' split) <;> simp (disch := decide)

@[simp] theorem addCause_frame {G : Foot} (h : Foot.le footCvy G = true) (cause : HaltCause) (s : State) :
    blank G (addCause cause s) = blank G s := by
  refine blank_mono h ?_
  unfold addCause
  (try dsimp only)
  (repeat' split) <;> simp (disch := decide)

@[simp] theorem removeCause_frame {G : Foot} (h : Foot.le footCvy G = true) (cause : HaltCause) (s : State) :
    blank G (removeCause cause s) = blank G s := by
  refine blank_mono h ?_
  unfold removeCause
  (try dsimp only)
  (repeat' split) <;> simp (disch := decide)

@[simp] theorem takeCause_frame {G : Foot} (h : Foot.le footCvy G = true) (src : CauseSource) (add : Bool) (s : State) :
    blank G (takeCause src add s) = blank G s := by
  refine blank_mono h ?_
  unfold takeCause
  (try dsimp only)
  (repeat' split) <;> simp (disch := decide)

theorem execOwnCauseAdd_frame {G : Foot} (h : Foot.le footCvy G = true) (src : CauseSource) {s t : State} (e : execOwnCauseAdd src s = .next t) :
    blank G t = blank G s := by
  refine whileUp_frame (f := _) ?_ e
  intro s; refine blank_mono h ?_
  (try dsimp only)
  (repeat' split) <;> simp (disch := decide)

theorem execOwnCauseRemove_frame {G : Foot} (h : Foot.le footCvy G = true) (src : CauseSource) {s t : State} (e : execOwnCauseRemove src s = .next t) :
    blank G t = blank G s := by
  refine whileUp_frame (f := _) ?_ e
  intro s; refine blank_mono h ?_
  (try dsimp only)
  (repeat' split) <;> simp (disch := decide)

@[simp] theorem acknowledge_frame {G : Foot} (h : Foot.le footCvy G = true) (s : State) :
    blank G (acknowledge s) = blank G s := by
  refine blank_mono h ?_
  unfold acknowledge
  (try dsimp only)
  (repeat' split) <;> simp (disch := decide)

@[simp] theorem takeGesture_frame {G : Foot} (h : Foot.le footCvy G = true) (s : State) :
    blank G (takeGesture s) = blank G s := by
  refine blank_mono h ?_
  unfold takeGesture
  (try dsimp only)
  (repeat' split) <;> simp (disch := decide)

theorem execAcknowledgeGesture_frame {G : Foot} (h : Foot.le footCvy G = true) {s t : State} (e : execAcknowledgeGesture s = .next t) :
    blank G t = blank G s := by
  refine whileUp_frame (f := _) ?_ e
  intro s; refine blank_mono h ?_
  (try dsimp only)
  (repeat' split) <;> simp (disch := decide)

@[simp] theorem repostHalt_frame {G : Foot} (h : Foot.le footCvy G = true) (content : Option Content) (s : State) :
    blank G (repostHalt content s) = blank G s := by
  refine blank_mono h ?_
  unfold repostHalt
  (try dsimp only)
  (repeat' split) <;> simp (disch := decide)

@[simp] theorem onHaltNotice_frame {G : Foot} (h : Foot.le footCvy G = true) (n : Notice) (s : State) :
    blank G (onHaltNotice n s) = blank G s := by
  refine blank_mono h ?_
  unfold onHaltNotice
  (try dsimp only)
  (repeat' split) <;> simp (disch := decide)

theorem execCvyHaltNotice_frame {G : Foot} (h : Foot.le footCvy G = true) {s t : State} (e : execCvyHaltNotice s = .next t) :
    blank G t = blank G s := by
  refine whileUp_frame (f := _) ?_ e
  intro s; refine blank_mono h ?_
  exact takeNotice_frame rfl (fun n s => by simp (disch := decide)) s

end Sys2Proof.Laws
end

