-- ==== Sys2Proof/Laws/FrameClaims.lean ====
section
/-! SUPPORT. Footprints of CLM's operations. -/

namespace Sys2Proof.Laws

open Sys2Proof.Machine

/-- Acting on one entry. -/
theorem onEntry_frame {G : Foot} {sec : Nat} {f : ClaimEntry → State → State}
    (hf : ∀ e s, blank G (f e s) = blank G s) (s : State) : blank G (onEntry sec f s) = blank G s := by
  unfold onEntry; split
  · exact hf _ _
  · rfl

/-- Acting on every entry. -/
theorem onEveryEntry_frame {G : Foot} {f : ClaimEntry → State → State}
    (hf : ∀ e s, blank G (f e s) = blank G s) (s : State) : blank G (onEveryEntry f s) = blank G s :=
  foldl_frame (fun s _ => onEntry_frame hf s) _ s

/-- Choosing a holder. -/
theorem pickHolder_frame {G : Foot} (hd : G.draws = true) (hs : List Holder) (s : State) :
    blank G (pickHolder hs s).2 = blank G s := by
  unfold pickHolder; split <;> simp [hd]

/-- Acting with a chosen holder. -/
theorem withHolder_frame {G : Foot} (hd : G.draws = true) {hs : List Holder} {f : Nat → State → State}
    (hf : ∀ n s, blank G (f n s) = blank G s) (s : State) : blank G (withHolder hs f s) = blank G s := by
  have := pickHolder_frame hd hs s
  unfold withHolder
  split <;> simp_all

/-- CLM takes a telegram. -/
theorem clmTakes_frame {G : Foot} (ha : G.air = true) {f : Received → Option (State → State)}
    (hf : ∀ r g, f r = some g → ∀ s, blank G (g s) = blank G s) (s : State) :
    blank G (clmTakes f s) = blank G s := by
  unfold clmTakes
  split
  · rfl
  · split
    · rename_i h; rw [hf _ _ h]; simp [ha]
    · rfl

@[simp] theorem setClaimEntry_frame {G : Foot} (h : Foot.le footClm G = true) (e : ClaimEntry) (s : State) :
    blank G (setClaimEntry e s) = blank G s := by
  refine blank_mono h ?_
  unfold setClaimEntry
  (try dsimp only)
  (repeat' split) <;> simp (disch := decide)

@[simp] theorem postClaim_frame {G : Foot} (h : Foot.le footClm G = true) (e : ClaimEntry) (s : State) :
    blank G (postClaim e s) = blank G s := by
  refine blank_mono h ?_
  unfold postClaim
  (try dsimp only)
  (repeat' split) <;> simp (disch := decide)

@[simp] theorem startClaim_frame {G : Foot} (h : Foot.le footClm G = true) (e : ClaimEntry) (s : State) :
    blank G (startClaim e s) = blank G s := by
  refine blank_mono h ?_
  unfold startClaim
  (try dsimp only)
  (repeat' split) <;> simp (disch := decide)

@[simp] theorem goStandoff_frame {G : Foot} (h : Foot.le footClm G = true) (e : ClaimEntry) (c : StandoffCause) (station : Nat) (role : StandoffRole) (s : State) :
    blank G (goStandoff e c station role s) = blank G s := by
  refine blank_mono h ?_
  unfold goStandoff
  (try dsimp only)
  (repeat' split) <;> simp (disch := decide)

@[simp] theorem dropCause_frame {G : Foot} (h : Foot.le footClm G = true) (e : ClaimEntry) (s : State) :
    blank G (dropCause e s) = blank G s := by
  refine blank_mono h ?_
  unfold dropCause
  (try dsimp only)
  (repeat' split) <;> simp (disch := decide)

@[simp] theorem endByTail_frame {G : Foot} (h : Foot.le footClm G = true) (e : ClaimEntry) (s : State) :
    blank G (endByTail e s) = blank G s := by
  refine blank_mono h ?_
  unfold endByTail
  (try dsimp only)
  (repeat' split) <;> simp (disch := decide)

@[simp] theorem reviewRiding_frame {G : Foot} (h : Foot.le footClm G = true) (e : ClaimEntry) (s : State) :
    blank G (reviewRiding e s) = blank G s := by
  refine blank_mono h ?_
  unfold reviewRiding
  (try dsimp only)
  (repeat' split) <;> simp (disch := decide)

@[simp] theorem reviewHeld_frame {G : Foot} (h : Foot.le footClm G = true) (e : ClaimEntry) (s : State) :
    blank G (reviewHeld e s) = blank G s := by
  refine blank_mono h ?_
  unfold reviewHeld
  (try dsimp only)
  (repeat' split) <;> (try simp (disch := decide)) <;>
    (try (first | refine (onEntry_frame ?_ _).trans ?_ | refine (onEveryEntry_frame ?_ _).trans ?_ | refine (withHolder_frame rfl ?_ _).trans ?_ | refine (foldl_frame ?_ _ _).trans ?_)) <;> intros <;> (try dsimp only) <;> (repeat' split) <;> (try simp (disch := decide))

@[simp] theorem reviewInside_frame {G : Foot} (h : Foot.le footClm G = true) (e : ClaimEntry) (s : State) :
    blank G (reviewInside e s) = blank G s := by
  refine blank_mono h ?_
  unfold reviewInside
  (try dsimp only)
  (repeat' split) <;> (try simp (disch := decide)) <;>
    (try (first | refine (onEntry_frame ?_ _).trans ?_ | refine (onEveryEntry_frame ?_ _).trans ?_ | refine (withHolder_frame rfl ?_ _).trans ?_ | refine (foldl_frame ?_ _ _).trans ?_)) <;> intros <;> (try dsimp only) <;> (repeat' split) <;> (try simp (disch := decide))

@[simp] theorem reviewNoted_frame {G : Foot} (h : Foot.le footClm G = true) (e : ClaimEntry) (s : State) :
    blank G (reviewNoted e s) = blank G s := by
  refine blank_mono h ?_
  unfold reviewNoted
  (try dsimp only)
  (repeat' split) <;> simp (disch := decide)

@[simp] theorem reviewWaiting_frame {G : Foot} (h : Foot.le footClm G = true) (e : ClaimEntry) (s : State) :
    blank G (reviewWaiting e s) = blank G s := by
  refine blank_mono h ?_
  unfold reviewWaiting
  (try dsimp only)
  (repeat' split) <;> simp (disch := decide)

@[simp] theorem review_frame {G : Foot} (h : Foot.le footClm G = true) (sec : Nat) (s : State) :
    blank G (review sec s) = blank G s := by
  refine blank_mono h ?_
  unfold review
  split
  · iterate 5 refine (onEntry_frame (fun e s => by simp (disch := decide)) _).trans ?_
    rfl
  · rfl

@[simp] theorem reviewAll_frame {G : Foot} (h : Foot.le footClm G = true) (s : State) :
    blank G (reviewAll s) = blank G s := by
  refine blank_mono h ?_
  unfold reviewAll
  (try dsimp only)
  (repeat' split) <;> (try simp (disch := decide)) <;>
    (try (first | refine (onEntry_frame ?_ _).trans ?_ | refine (onEveryEntry_frame ?_ _).trans ?_ | refine (withHolder_frame rfl ?_ _).trans ?_ | refine (foldl_frame ?_ _ _).trans ?_)) <;> intros <;> (try dsimp only) <;> (repeat' split) <;> (try simp (disch := decide))

@[simp] theorem leaveApproach_frame {G : Foot} (h : Foot.le footClm G = true) (e : ClaimEntry) (s : State) :
    blank G (leaveApproach e s) = blank G s := by
  refine blank_mono h ?_
  unfold leaveApproach
  (try dsimp only)
  (repeat' split) <;> simp (disch := decide)

@[simp] theorem checkLeaving_frame {G : Foot} (h : Foot.le footClm G = true) (e : ClaimEntry) (s : State) :
    blank G (checkLeaving e s) = blank G s := by
  refine blank_mono h ?_
  unfold checkLeaving
  (try dsimp only)
  (repeat' split) <;> simp (disch := decide)

@[simp] theorem exitEntry_frame {G : Foot} (h : Foot.le footClm G = true) (e : ClaimEntry) (s : State) :
    blank G (exitEntry e s) = blank G s := by
  refine blank_mono h ?_
  unfold exitEntry
  (try dsimp only)
  (repeat' split) <;> simp (disch := decide)

@[simp] theorem makeRoom_frame {G : Foot} (h : Foot.le footClm G = true) (sec : Nat) (s : State) :
    blank G (makeRoom sec s) = blank G s := by
  refine blank_mono h ?_
  unfold makeRoom
  (try dsimp only)
  (repeat' split) <;> (try simp (disch := decide)) <;>
    (try (first | refine (onEntry_frame ?_ _).trans ?_ | refine (onEveryEntry_frame ?_ _).trans ?_ | refine (withHolder_frame rfl ?_ _).trans ?_ | refine (foldl_frame ?_ _ _).trans ?_)) <;> intros <;> (try dsimp only) <;> (repeat' split) <;> (try simp (disch := decide))

@[simp] theorem intrude_frame {G : Foot} (h : Foot.le footClm G = true) (e : ClaimEntry) (d : Dir) (s : State) :
    blank G (intrude e d s) = blank G s := by
  refine blank_mono h ?_
  unfold intrude
  (try dsimp only)
  (repeat' split) <;> simp (disch := decide)

@[simp] theorem holdEntry_frame {G : Foot} (h : Foot.le footClm G = true) (e : ClaimEntry) (s : State) :
    blank G (holdEntry e s) = blank G s := by
  refine blank_mono h ?_
  unfold holdEntry
  (try dsimp only)
  (repeat' split) <;> simp (disch := decide)

@[simp] theorem enterTable_frame {G : Foot} (h : Foot.le footClm G = true) (e : ClaimEntry) (d : Dir) (s : State) :
    blank G (enterTable e d s) = blank G s := by
  refine blank_mono h ?_
  unfold enterTable
  (try dsimp only)
  (repeat' split) <;> simp (disch := decide)

@[simp] theorem enterEntry_frame {G : Foot} (h : Foot.le footClm G = true) (sec : Nat) (s : State) :
    blank G (enterEntry sec s) = blank G s := by
  refine blank_mono h ?_
  unfold enterEntry
  (try dsimp only)
  (repeat' split) <;> (try simp (disch := decide)) <;>
    (try (first | refine (onEntry_frame ?_ _).trans ?_ | refine (onEveryEntry_frame ?_ _).trans ?_ | refine (withHolder_frame rfl ?_ _).trans ?_ | refine (foldl_frame ?_ _ _).trans ?_)) <;> intros <;> (try dsimp only) <;> (repeat' split) <;> (try simp (disch := decide))

@[simp] theorem crossing_frame {G : Foot} (h : Foot.le footClm G = true) (before : Option Nat) (s : State) :
    blank G (crossing before s) = blank G s := by
  refine blank_mono h ?_
  unfold crossing
  (try dsimp only)
  (repeat' split) <;> (try simp (disch := decide)) <;>
    (try (first | refine (onEntry_frame ?_ _).trans ?_ | refine (onEveryEntry_frame ?_ _).trans ?_ | refine (withHolder_frame rfl ?_ _).trans ?_ | refine (foldl_frame ?_ _ _).trans ?_)) <;> intros <;> (try dsimp only) <;> (repeat' split) <;> (try simp (disch := decide))

@[simp] theorem moveTail_frame {G : Foot} (h : Foot.le footClm G = true) (mm : Nat) (e : ClaimEntry) (s : State) :
    blank G (moveTail mm e s) = blank G s := by
  refine blank_mono h ?_
  unfold moveTail
  (try dsimp only)
  (repeat' split) <;> simp (disch := decide)

@[simp] theorem tailCountdown_frame {G : Foot} (h : Foot.le footClm G = true) (move : Option Nat) (s : State) :
    blank G (tailCountdown move s) = blank G s := by
  refine blank_mono h ?_
  unfold tailCountdown
  (try dsimp only)
  (repeat' split) <;> (try simp (disch := decide)) <;>
    (try (first | refine (onEntry_frame ?_ _).trans ?_ | refine (onEveryEntry_frame ?_ _).trans ?_ | refine (withHolder_frame rfl ?_ _).trans ?_ | refine (foldl_frame ?_ _ _).trans ?_)) <;> intros <;> (try dsimp only) <;> (repeat' split) <;> (try simp (disch := decide))

@[simp] theorem approach_frame {G : Foot} (h : Foot.le footClm G = true) (s : State) :
    blank G (approach s) = blank G s := by
  refine blank_mono h ?_
  unfold approach
  (try dsimp only)
  (repeat' split) <;> (try simp (disch := decide)) <;>
    (try (first | refine (onEntry_frame ?_ _).trans ?_ | refine (onEveryEntry_frame ?_ _).trans ?_ | refine (withHolder_frame rfl ?_ _).trans ?_ | refine (foldl_frame ?_ _ _).trans ?_)) <;> intros <;> (try dsimp only) <;> (repeat' split) <;> (try simp (disch := decide))

@[simp] theorem positionCheck_frame {G : Foot} (h : Foot.le footClm G = true) (before : Option Nat) (move : Option Nat) (s : State) :
    blank G (positionCheck before move s) = blank G s := by
  refine blank_mono h ?_
  unfold positionCheck
  (try dsimp only)
  (repeat' split) <;> (try simp (disch := decide)) <;>
    (try (first | refine (onEntry_frame ?_ _).trans ?_ | refine (onEveryEntry_frame ?_ _).trans ?_ | refine (withHolder_frame rfl ?_ _).trans ?_ | refine (foldl_frame ?_ _ _).trans ?_)) <;> intros <;> (try dsimp only) <;> (repeat' split) <;> (try simp (disch := decide))

@[simp] theorem learnHold_frame {G : Foot} (hG : Foot.le footLearn G = true) (station : Nat) (b : Beacon) (received : Time) (h : HoldEntry) (s : State) :
    blank G (learnHold station b received h s) = blank G s := by
  refine blank_mono hG ?_
  unfold learnHold
  (try dsimp only)
  (repeat' split) <;> (try simp (disch := decide)) <;>
    (try (first | refine (onEntry_frame ?_ _).trans ?_ | refine (onEveryEntry_frame ?_ _).trans ?_ | refine (withHolder_frame rfl ?_ _).trans ?_ | refine (foldl_frame ?_ _ _).trans ?_)) <;> intros <;> (try dsimp only) <;> (repeat' split) <;> (try simp (disch := decide))

@[simp] theorem dropOmitted_frame {G : Foot} (h : Foot.le footClm G = true) (station : Nat) (b : Beacon) (s : State) :
    blank G (dropOmitted station b s) = blank G s := by
  refine blank_mono h ?_
  unfold dropOmitted
  (try dsimp only)
  (repeat' split) <;> (try simp (disch := decide)) <;>
    (try (first | refine (onEntry_frame ?_ _).trans ?_ | refine (onEveryEntry_frame ?_ _).trans ?_ | refine (withHolder_frame rfl ?_ _).trans ?_ | refine (foldl_frame ?_ _ _).trans ?_)) <;> intros <;> (try dsimp only) <;> (repeat' split) <;> (try simp (disch := decide))

@[simp] theorem reviewChanged_frame {G : Foot} (h : Foot.le footClm G = true) (old : State) (s : State) :
    blank G (reviewChanged old s) = blank G s := by
  refine blank_mono h ?_
  unfold reviewChanged
  (try dsimp only)
  (repeat' split) <;> (try simp (disch := decide)) <;>
    (try (first | refine (onEntry_frame ?_ _).trans ?_ | refine (onEveryEntry_frame ?_ _).trans ?_ | refine (withHolder_frame rfl ?_ _).trans ?_ | refine (foldl_frame ?_ _ _).trans ?_)) <;> intros <;> (try dsimp only) <;> (repeat' split) <;> (try simp (disch := decide))

@[simp] theorem clmTakePosition_frame {G : Foot} (h : Foot.le footLearn G = true) (station : Nat) (b : Beacon) (received : Time) (s : State) :
    blank G (clmTakePosition station b received s) = blank G s := by
  refine blank_mono h ?_
  unfold clmTakePosition
  (try dsimp only)
  (repeat' split) <;> (try simp (disch := decide)) <;>
    (try (first | refine (onEntry_frame ?_ _).trans ?_ | refine (onEveryEntry_frame ?_ _).trans ?_ | refine (withHolder_frame rfl ?_ _).trans ?_ | refine (foldl_frame ?_ _ _).trans ?_)) <;> intros <;> (try dsimp only) <;> (repeat' split) <;> (try simp (disch := decide))

@[simp] theorem clmTakeClaim_frame {G : Foot} (h : Foot.le footClm G = true) (sec : Nat) (c : Claimant) (s : State) :
    blank G (clmTakeClaim sec c s) = blank G s := by
  refine blank_mono h ?_
  unfold clmTakeClaim
  (try dsimp only)
  (repeat' split) <;> (try simp (disch := decide)) <;>
    (try (first | refine (onEntry_frame ?_ _).trans ?_ | refine (onEveryEntry_frame ?_ _).trans ?_ | refine (withHolder_frame rfl ?_ _).trans ?_ | refine (foldl_frame ?_ _ _).trans ?_)) <;> intros <;> (try dsimp only) <;> (repeat' split) <;> (try simp (disch := decide))

@[simp] theorem clmTakeRelease_frame {G : Foot} (h : Foot.le footClm G = true) (station : Nat) (secs : List Nat) (s : State) :
    blank G (clmTakeRelease station secs s) = blank G s := by
  refine blank_mono h ?_
  unfold clmTakeRelease
  rw [reviewChanged_frame rfl]
  exact foldl_frame (fun s a => onEntry_frame (fun e s => by simp (disch := decide)) s) _ _

theorem execClmTakesPosition_frame {G : Foot} (h : Foot.le footClmTake G = true) {s t : State} (e : execClmTakesPosition s = .next t) :
    blank G t = blank G s := by
  refine whileUp_frame (f := _) ?_ e
  intro s; refine blank_mono h ?_
  apply clmTakes_frame rfl
  intro r g hg s
  (try dsimp only at hg)
  split at hg <;> cases hg
  simp (disch := decide)

theorem execClmTakesClaim_frame {G : Foot} (h : Foot.le footClmTake G = true) {s t : State} (e : execClmTakesClaim s = .next t) :
    blank G t = blank G s := by
  refine whileUp_frame (f := _) ?_ e
  intro s; refine blank_mono h ?_
  apply clmTakes_frame rfl
  intro r g hg s
  (try dsimp only at hg)
  split at hg <;> cases hg
  simp (disch := decide)

theorem execClmTakesRelease_frame {G : Foot} (h : Foot.le footClmTake G = true) {s t : State} (e : execClmTakesRelease s = .next t) :
    blank G t = blank G s := by
  refine whileUp_frame (f := _) ?_ e
  intro s; refine blank_mono h ?_
  apply clmTakes_frame rfl
  intro r g hg s
  (try dsimp only at hg)
  split at hg <;> cases hg
  simp (disch := decide)

@[simp] theorem sweepClaims_frame {G : Foot} (h : Foot.le footClm G = true) (s : State) :
    blank G (sweepClaims s) = blank G s := by
  refine blank_mono h ?_
  unfold sweepClaims
  (try dsimp only)
  (repeat' split) <;> simp (disch := decide)

theorem execClmSweep_frame {G : Foot} (h : Foot.le footClm G = true) {s t : State} (e : execClmSweep s = .next t) :
    blank G t = blank G s := by
  refine whileUp_frame (f := _) ?_ e
  intro s; refine blank_mono h ?_
  (try dsimp only)
  (repeat' split) <;> simp (disch := decide)

@[simp] theorem closeWindow_frame {G : Foot} (h : Foot.le footClm G = true) (e : ClaimEntry) (s : State) :
    blank G (closeWindow e s) = blank G s := by
  refine blank_mono h ?_
  unfold closeWindow
  (try dsimp only)
  (repeat' split) <;> simp (disch := decide)

theorem execClaimWindow_frame {G : Foot} (h : Foot.le footClm G = true) (sec : Nat) {s t : State} (e : execClaimWindow sec s = .next t) :
    blank G t = blank G s := by
  refine whileUp_frame (f := _) ?_ e
  intro s; refine blank_mono h ?_
  (repeat' split) <;> (try simp (disch := decide)) <;>
    (try (refine (onEntry_frame ?_ _).trans ?_)) <;> intros <;> (try simp (disch := decide))

@[simp] theorem releaseHeard_frame {G : Foot} (h : Foot.le footClm G = true) (sec : Nat) (s : State) :
    blank G (releaseHeard sec s) = blank G s := by
  refine blank_mono h ?_
  unfold releaseHeard
  (try dsimp only)
  (repeat' split) <;> (try simp (disch := decide)) <;>
    (try (first | refine (onEntry_frame ?_ _).trans ?_ | refine (onEveryEntry_frame ?_ _).trans ?_ | refine (withHolder_frame rfl ?_ _).trans ?_ | refine (foldl_frame ?_ _ _).trans ?_)) <;> intros <;> (try dsimp only) <;> (repeat' split) <;> (try simp (disch := decide))

@[simp] theorem repostClaim_frame {G : Foot} (h : Foot.le footClm G = true) (sec : Nat) (s : State) :
    blank G (repostClaim sec s) = blank G s := by
  refine blank_mono h ?_
  unfold repostClaim
  (try dsimp only)
  (repeat' split) <;> (try simp (disch := decide)) <;>
    (try (first | refine (onEntry_frame ?_ _).trans ?_ | refine (onEveryEntry_frame ?_ _).trans ?_ | refine (withHolder_frame rfl ?_ _).trans ?_ | refine (foldl_frame ?_ _ _).trans ?_)) <;> intros <;> (try dsimp only) <;> (repeat' split) <;> (try simp (disch := decide))

@[simp] theorem onClaimPost_frame {G : Foot} (h : Foot.le footClm G = true) (o : SlotOutcome) (p : ClaimPost) (s : State) :
    blank G (onClaimPost o p s) = blank G s := by
  refine blank_mono h ?_
  unfold onClaimPost
  (try dsimp only)
  (repeat' split) <;> simp (disch := decide)

@[simp] theorem onClaimNotice_frame {G : Foot} (h : Foot.le footClm G = true) (n : Notice) (s : State) :
    blank G (onClaimNotice n s) = blank G s := by
  refine blank_mono h ?_
  unfold onClaimNotice
  (try dsimp only)
  (repeat' split) <;> (try simp (disch := decide)) <;>
    (try (first | refine (onEntry_frame ?_ _).trans ?_ | refine (onEveryEntry_frame ?_ _).trans ?_ | refine (withHolder_frame rfl ?_ _).trans ?_ | refine (foldl_frame ?_ _ _).trans ?_)) <;> intros <;> (try dsimp only) <;> (repeat' split) <;> (try simp (disch := decide))

theorem execClmClaimNotice_frame {G : Foot} (h : Foot.le footClm G = true) {s t : State} (e : execClmClaimNotice s = .next t) :
    blank G t = blank G s := by
  refine whileUp_frame (f := _) ?_ e
  intro s; refine blank_mono h ?_
  exact takeNotice_frame rfl (fun n s => by simp (disch := decide)) s

theorem execClmReleaseNotice_frame {G : Foot} (h : Foot.le footClm G = true) {s t : State} (e : execClmReleaseNotice s = .next t) :
    blank G t = blank G s := by
  refine whileUp_frame (f := _) ?_ e
  intro s; refine blank_mono h ?_
  exact takeNotice_frame rfl (fun n s => rfl) s

end Sys2Proof.Laws
end

