-- ==== Sys2Proof/Laws/FrameDriver.lean ====
section
/-! SUPPORT. Footprints of DRV's operations. -/

namespace Sys2Proof.Laws

open Sys2Proof.Machine

@[simp] theorem endFailsafe_frame {G : Foot} (h : Foot.le footDrv G = true) (width : Nat) (s : State) :
    blank G (endFailsafe width s) = blank G s := by
  refine blank_mono h ?_
  unfold endFailsafe
  (try dsimp only)
  (repeat' split) <;> simp (disch := decide)

@[simp] theorem validThrottle_frame {G : Foot} (h : Foot.le footDrv G = true) (width : Nat) (s : State) :
    blank G (validThrottle width s) = blank G s := by
  refine blank_mono h ?_
  unfold validThrottle
  (try dsimp only)
  (repeat' split) <;> simp (disch := decide)

@[simp] theorem throttle_frame {G : Foot} (h : Foot.le footDrv G = true) (width : Nat) (s : State) :
    blank G (throttle width s) = blank G s := by
  refine blank_mono h ?_
  unfold throttle
  (try dsimp only)
  (repeat' split) <;> simp (disch := decide)

theorem execThrottlePulse_frame {G : Foot} (h : Foot.le footDrv G = true) (width : Nat) {s t : State} (e : execThrottlePulse width s = .next t) :
    blank G t = blank G s := by
  refine whileUp_frame (f := _) ?_ e
  intro s; refine blank_mono h ?_
  (try dsimp only)
  (repeat' split) <;> simp (disch := decide)

@[simp] theorem throttleSilent_frame {G : Foot} (h : Foot.le footDrv G = true) (s : State) :
    blank G (throttleSilent s) = blank G s := by
  refine blank_mono h ?_
  unfold throttleSilent
  (try dsimp only)
  (repeat' split) <;> simp (disch := decide)

theorem execSilenceTimer_frame {G : Foot} (h : Foot.le footDrv G = true) {s t : State} (e : execSilenceTimer s = .next t) :
    blank G t = blank G s := by
  refine whileUp_frame (f := _) ?_ e
  intro s; refine blank_mono h ?_
  (try dsimp only)
  (repeat' split) <;> simp (disch := decide)

@[simp] theorem reportChange_frame {G : Foot} (h : Foot.le footDrv G = true) (c : FnChange) (s : State) :
    blank G (reportChange c s) = blank G s := by
  refine blank_mono h ?_
  unfold reportChange
  (try dsimp only)
  (repeat' split) <;> simp (disch := decide)

@[simp] theorem confirmFunction_frame {G : Foot} (h : Foot.le footDrv G = true) (c : FnPosition) (s : State) :
    blank G (confirmFunction c s) = blank G s := by
  refine blank_mono h ?_
  unfold confirmFunction
  (try dsimp only)
  (repeat' split) <;> simp (disch := decide)

@[simp] theorem validFunction_frame {G : Foot} (h : Foot.le footDrv G = true) (c : FnPosition) (s : State) :
    blank G (validFunction c s) = blank G s := by
  refine blank_mono h ?_
  unfold validFunction
  (try dsimp only)
  (repeat' split) <;> simp (disch := decide)

@[simp] theorem functionInput_frame {G : Foot} (h : Foot.le footDrv G = true) (width : Nat) (s : State) :
    blank G (functionInput width s) = blank G s := by
  refine blank_mono h ?_
  unfold functionInput
  (try dsimp only)
  (repeat' split) <;> simp (disch := decide)

theorem execFunctionPulse_frame {G : Foot} (h : Foot.le footDrv G = true) (width : Nat) {s t : State} (e : execFunctionPulse width s = .next t) :
    blank G t = blank G s := by
  refine whileUp_frame (f := _) ?_ e
  intro s; refine blank_mono h ?_
  (try dsimp only)
  (repeat' split) <;> simp (disch := decide)

theorem execFunctionSilenceTimer_frame {G : Foot} (h : Foot.le footDrv G = true) {s t : State} (e : execFunctionSilenceTimer s = .next t) :
    blank G t = blank G s := by
  refine whileUp_frame (f := _) ?_ e
  intro s; refine blank_mono h ?_
  (try dsimp only)
  (repeat' split) <;> simp (disch := decide)

theorem execFrameTimer_frame {G : Foot} (h : Foot.le footDrv G = true) {s t : State} (e : execFrameTimer s = .next t) :
    blank G t = blank G s := by
  refine whileUp_frame (f := _) ?_ e
  intro s; refine blank_mono h ?_
  (try dsimp only)
  (repeat' split) <;> simp (disch := decide)

theorem execMotorPulseEnd_frame {G : Foot} (h : Foot.le footDrv G = true) {s t : State} (e : execMotorPulseEnd s = .next t) :
    blank G t = blank G s := by
  unfold execMotorPulseEnd at e
  cases e
  refine blank_mono h ?_
  simp (disch := decide)

@[simp] theorem motorHandOver_frame {G : Foot} (h : Foot.le footDrvOnly G = true) (s : State) :
    blank G (motorHandOver s) = blank G s := by
  refine blank_mono h ?_
  unfold motorHandOver
  (try dsimp only)
  (repeat' split) <;> simp (disch := decide)

@[simp] theorem motorNeutral_frame {G : Foot} (h : Foot.le footDrvOnly G = true) (s : State) :
    blank G (motorNeutral s) = blank G s := by
  refine blank_mono h ?_
  unfold motorNeutral
  (try dsimp only)
  (repeat' split) <;> simp (disch := decide)

end Sys2Proof.Laws
end

