-- ==== Sys2Proof/Laws/FrameGovernor.lean ====
section
/-! SUPPORT. Footprints of GOV's operations. -/

namespace Sys2Proof.Laws

open Sys2Proof.Machine

@[simp] theorem noteCrawl_frame {G : Foot} (h : Foot.le footGov G = true) (s : State) :
    blank G (noteCrawl s) = blank G s := by
  refine blank_mono h ?_
  unfold noteCrawl
  (try dsimp only)
  (repeat' split) <;> simp (disch := decide)

@[simp] theorem governorStep_frame {G : Foot} (h : Foot.le footGov G = true) (s : State) :
    blank G (governorStep s) = blank G s := by
  refine blank_mono h ?_
  unfold governorStep
  (try dsimp only)
  (repeat' split) <;> simp (disch := decide)

theorem execGovernorUpdate_frame {G : Foot} (h : Foot.le footGov G = true) {s t : State} (e : execGovernorUpdate s = .next t) :
    blank G t = blank G s := by
  refine whileUp_frame (f := _) ?_ e
  intro s; refine blank_mono h ?_
  (try dsimp only)
  (repeat' split) <;> simp (disch := decide)

end Sys2Proof.Laws
end

