-- ==== Sys2Proof/Laws/FrameTrailers.lean ====
section
/-! SUPPORT. Footprints of TRL's operations. -/

namespace Sys2Proof.Laws

open Sys2Proof.Machine

@[simp] theorem sendForget_frame {G : Foot} (h : Foot.le footLine G = true) (address : Nat) (s : State) :
    blank G (sendForget address s) = blank G s := by
  refine blank_mono h ?_
  unfold sendForget
  (try dsimp only)
  (repeat' split) <;> simp (disch := decide)

@[simp] theorem forgetAll_frame {G : Foot} (h : Foot.le footLine G = true) (s : State) :
    blank G (forgetAll s) = blank G s := by
  refine blank_mono h ?_
  unfold forgetAll
  (try dsimp only)
  (repeat' split) <;> simp (disch := decide)

@[simp] theorem countError_frame {G : Foot} (h : Foot.le footTrl G = true) (o : LineOutcome) (s : State) :
    blank G (countError o s) = blank G s := by
  refine blank_mono h ?_
  unfold countError
  (try dsimp only)
  (repeat' split) <;> simp (disch := decide)

@[simp] theorem setCycle_frame {G : Foot} (h : Foot.le footTrl G = true) (c : Cycle) (s : State) :
    blank G (setCycle c s) = blank G s := by
  refine blank_mono h ?_
  unfold setCycle
  (try dsimp only)
  (repeat' split) <;> simp (disch := decide)

@[simp] theorem setChain_frame {G : Foot} (h : Foot.le footTrl G = true) (c : List TrailerRecord) (s : State) :
    blank G (setChain c s) = blank G s := by
  refine blank_mono h ?_
  unfold setChain
  (try dsimp only)
  (repeat' split) <;> simp (disch := decide)

@[simp] theorem beginCycle_frame {G : Foot} (h : Foot.le footTrl G = true) (s : State) :
    blank G (beginCycle s) = blank G s := by
  refine blank_mono h ?_
  unfold beginCycle
  (try dsimp only)
  (repeat' split) <;> simp (disch := decide)

theorem execCycleTimer_frame {G : Foot} (h : Foot.le footTrl G = true) {s t : State} (e : execCycleTimer s = .next t) :
    blank G t = blank G s := by
  refine whileUp_frame (f := _) ?_ e
  intro s; refine blank_mono h ?_
  (try dsimp only)
  (repeat' split) <;> simp (disch := decide)

@[simp] theorem popTop_frame {G : Foot} (h : Foot.le footTrl G = true) (still : Bool) (s : State) :
    blank G (popTop still s) = blank G s := by
  refine blank_mono h ?_
  unfold popTop
  (try dsimp only)
  (repeat' split) <;> simp (disch := decide)

@[simp] theorem popEnds_frame {G : Foot} (h : Foot.le footTrl G = true) (lost : Nat) (still : Bool) (id : TrailerId) (count : Nat) (s : State) :
    blank G (popEnds lost still id count s) = blank G s := by
  refine blank_mono h ?_
  unfold popEnds
  (try dsimp only)
  (repeat' split) <;> simp (disch := decide)

@[simp] theorem popOn_frame {G : Foot} (h : Foot.le footTrl G = true) (lost : Nat) (still : Bool) (id : TrailerId) (count n : Nat) (s : State) :
    blank G (popOn lost still id count n s) = blank G s := by
  refine blank_mono h ?_
  induction n generalizing s with
  | zero => unfold popOn; simp (disch := decide)
  | succ n ih =>
    cases n with
    | zero => unfold popOn; simp (disch := decide)
    | succ n =>
      unfold popOn
      dsimp only
      split
      · simp (disch := decide)
      · rw [ih]; simp (disch := decide)

@[simp] theorem popFrom_frame {G : Foot} (h : Foot.le footTrl G = true) (k : Nat) (id : TrailerId) (s : State) :
    blank G (popFrom k id s) = blank G s := by
  unfold popFrom
  exact popOn_frame h _ _ _ _ _ _

@[simp] theorem popResumes_frame {G : Foot} (h : Foot.le footTrl G = true) (s : State) :
    blank G (popResumes s) = blank G s := by
  unfold popResumes
  split
  · exact popOn_frame h _ _ _ _ _ _
  · rfl

@[simp] theorem setMissed_frame {G : Foot} (h : Foot.le footTrl G = true) (k m : Nat) (s : State) :
    blank G (setMissed k m s) = blank G s := by
  refine blank_mono h ?_
  unfold setMissed
  (try dsimp only)
  (repeat' split) <;> simp (disch := decide)

@[simp] theorem afterPoll_frame {G : Foot} (h : Foot.le footTrl G = true) (k : Nat) (s : State) :
    blank G (afterPoll k s) = blank G s := by
  refine blank_mono h ?_
  unfold afterPoll
  (try dsimp only)
  (repeat' split) <;> simp (disch := decide)

@[simp] theorem pollEnds_frame {G : Foot} (h : Foot.le footTrl G = true) (k : Nat) (r : TrailerRecord) (o : LineOutcome) (s : State) :
    blank G (pollEnds k r o s) = blank G s := by
  refine blank_mono h ?_
  unfold pollEnds
  (try dsimp only)
  (repeat' split) <;> simp (disch := decide)

@[simp] theorem pollWindow_frame {G : Foot} (h : Foot.le footTrl G = true) (r : Reception) (s : State) :
    blank G (pollWindow r s) = blank G s := by
  refine blank_mono h ?_
  unfold pollWindow
  (try dsimp only)
  (repeat' split) <;> simp (disch := decide)

theorem execPoll_frame {G : Foot} (h : Foot.le footTrl G = true) (r : Reception) {s t : State} (e : execPoll r s = .next t) :
    blank G t = blank G s := by
  refine whileUp_frame (f := _) ?_ e
  intro s; refine blank_mono h ?_
  (try dsimp only)
  (repeat' split) <;> simp (disch := decide)

@[simp] theorem lampStep_frame {G : Foot} (h : Foot.le footTrl G = true) (s : State) :
    blank G (lampStep s) = blank G s := by
  refine blank_mono h ?_
  unfold lampStep
  (try dsimp only)
  (repeat' split) <;> simp (disch := decide)

@[simp] theorem breakSilence_frame {G : Foot} (h : Foot.le footTrl G = true) (s : State) :
    blank G (breakSilence s) = blank G s := by
  refine blank_mono h ?_
  unfold breakSilence
  (try dsimp only)
  (repeat' split) <;> simp (disch := decide)

@[simp] theorem tooLong_frame {G : Foot} (h : Foot.le footTrl G = true) (r : TagRecord) (s : State) :
    blank G (tooLong r s) = blank G s := by
  refine blank_mono h ?_
  unfold tooLong
  (try dsimp only)
  (repeat' split) <;> simp (disch := decide)

@[simp] theorem silentDiscovery_frame {G : Foot} (h : Foot.le footTrl G = true) (s : State) :
    blank G (silentDiscovery s) = blank G s := by
  refine blank_mono h ?_
  unfold silentDiscovery
  (try dsimp only)
  (repeat' split) <;> simp (disch := decide)

@[simp] theorem discoveryEnds_frame {G : Foot} (h : Foot.le footTrl G = true) (o : LineOutcome) (s : State) :
    blank G (discoveryEnds o s) = blank G s := by
  refine blank_mono h ?_
  unfold discoveryEnds
  (try dsimp only)
  (repeat' split) <;> simp (disch := decide)

@[simp] theorem discoveryWindow_frame {G : Foot} (h : Foot.le footTrl G = true) (r : Reception) (s : State) :
    blank G (discoveryWindow r s) = blank G s := by
  refine blank_mono h ?_
  unfold discoveryWindow
  (try dsimp only)
  (repeat' split) <;> simp (disch := decide)

theorem execDiscovery_frame {G : Foot} (h : Foot.le footTrl G = true) (r : Reception) {s t : State} (e : execDiscovery r s = .next t) :
    blank G t = blank G s := by
  refine whileUp_frame (f := _) ?_ e
  intro s; refine blank_mono h ?_
  (try dsimp only)
  (repeat' split) <;> simp (disch := decide)

@[simp] theorem pushTrailer_frame {G : Foot} (h : Foot.le footTrl G = true) (r : TagRecord) (s : State) :
    blank G (pushTrailer r s) = blank G s := by
  refine blank_mono h ?_
  unfold pushTrailer
  (try dsimp only)
  (repeat' split) <;> simp (disch := decide)

@[simp] theorem assignEnds_frame {G : Foot} (h : Foot.le footTrl G = true) (address : Nat) (r : TagRecord) (rejoin : Bool) (o : LineOutcome) (s : State) :
    blank G (assignEnds address r rejoin o s) = blank G s := by
  refine blank_mono h ?_
  unfold assignEnds
  (try dsimp only)
  (repeat' split) <;> simp (disch := decide)

@[simp] theorem assignWindow_frame {G : Foot} (h : Foot.le footTrl G = true) (r : Reception) (s : State) :
    blank G (assignWindow r s) = blank G s := by
  refine blank_mono h ?_
  unfold assignWindow
  (try dsimp only)
  (repeat' split) <;> simp (disch := decide)

theorem execAssign_frame {G : Foot} (h : Foot.le footTrl G = true) (r : Reception) {s t : State} (e : execAssign r s = .next t) :
    blank G t = blank G s := by
  refine whileUp_frame (f := _) ?_ e
  intro s; refine blank_mono h ?_
  (try dsimp only)
  (repeat' split) <;> simp (disch := decide)

theorem execTagGainsLine_frame {G : Foot} (h : Foot.le footTrl G = true) (g : TagGain) {s t : State} (e : execTagGainsLine g s = .next t) :
    blank G t = blank G s := by
  unfold execTagGainsLine at e
  split at e <;> cases e
  refine blank_mono h ?_
  simp (disch := decide)

theorem execTagLosesLine_frame {G : Foot} (h : Foot.le footTrl G = true) (place : Nat) {s t : State} (e : execTagLosesLine place s = .next t) :
    blank G t = blank G s := by
  unfold execTagLosesLine at e
  cases e
  refine blank_mono h ?_
  simp (disch := decide)

end Sys2Proof.Laws
end

