-- ==== Sys2Proof/Laws/FrameTransmit.lean ====
section
/-! SUPPORT. Footprints of the transmit path. -/

namespace Sys2Proof.Laws

open Sys2Proof.Machine

/-- AIR takes a request. -/
theorem takeRequest_frame {G : Foot} (ha : G.air = true) (hm : G.mail = true) {id : SlotId}
    {f : Request → Option (Nat → State → State)}
    (hf : ∀ r g, f r = some g → ∀ n s, blank G (g n s) = blank G s) (s : State) :
    blank G (takeRequest id f s) = blank G s := by
  unfold takeRequest
  split
  · rfl
  · split
    · rfl
    · rename_i h
      dsimp only
      split
      · rw [hf _ _ h]; simp [takeNumber, setSlot, ha, hm]
      · simp [takeNumber, setSlot, notify, ha, hm]

/-- The slot on the air. -/
theorem onAirSlot_frame {G : Foot} {f : SlotId → State → State}
    (hf : ∀ id s, blank G (f id s) = blank G s) (s : State) : blank G (onAirSlot f s) = blank G s := by
  unfold onAirSlot; split
  · exact hf _ _
  · rfl

/-- A draw. -/
theorem draw_frame {G : Foot} (ha : G.air = true) {n : Nat} {f : Nat → State → State}
    (hf : ∀ k s, blank G (f k s) = blank G s) (s : State) : blank G (draw n f s) = blank G s := by
  unfold draw; dsimp only; rw [hf]; simp [ha]

@[simp] theorem setSlot_frame {G : Foot} (h : Foot.le footAir G = true) (id : SlotId) (x : Slot) (s : State) :
    blank G (setSlot id x s) = blank G s := by
  refine blank_mono h ?_
  unfold setSlot
  (try dsimp only)
  (repeat' split) <;> simp (disch := decide)

@[simp] theorem beginAttempt_frame {G : Foot} (h : Foot.le footAir G = true) (s : State) :
    blank G (beginAttempt s) = blank G s := by
  refine blank_mono h ?_
  unfold beginAttempt
  (try dsimp only)
  (repeat' split) <;> simp (disch := decide)

@[simp] theorem wakeAccess_frame {G : Foot} (h : Foot.le footAir G = true) (s : State) :
    blank G (wakeAccess s) = blank G s := by
  refine blank_mono h ?_
  unfold wakeAccess
  (try dsimp only)
  (repeat' split) <;> simp (disch := decide)

@[simp] theorem endAttempt_frame {G : Foot} (h : Foot.le footAir G = true) (s : State) :
    blank G (endAttempt s) = blank G s := by
  refine blank_mono h ?_
  unfold endAttempt
  (try dsimp only)
  (repeat' split) <;> simp (disch := decide)

@[simp] theorem afterTransmission_frame {G : Foot} (h : Foot.le footAir G = true) (s : State) :
    blank G (afterTransmission s) = blank G s := by
  refine blank_mono h ?_
  unfold afterTransmission
  (try dsimp only)
  (repeat' split) <;> simp (disch := decide)

@[simp] theorem takeNumber_frame {G : Foot} (h : Foot.le footAir G = true) (id : SlotId) (s : State) :
    blank G (takeNumber id s) = blank G s := by
  refine blank_mono h ?_
  unfold takeNumber
  (try dsimp only)
  (repeat' split) <;> simp (disch := decide)

@[simp] theorem notifyCancelled_frame {G : Foot} (h : Foot.le footAir G = true) (id : SlotId) (content : Option Content) (numbers : List Nat) (s : State) :
    blank G (notifyCancelled id content numbers s) = blank G s := by
  refine blank_mono h ?_
  unfold notifyCancelled
  (try dsimp only)
  (repeat' split) <;> simp (disch := decide)

@[simp] theorem addSuperseding_frame {G : Foot} (h : Foot.le footAir G = true) (id : SlotId) (c : Content) (n : Nat) (s : State) :
    blank G (addSuperseding id c n s) = blank G s := by
  refine blank_mono h ?_
  unfold addSuperseding
  (try dsimp only)
  (repeat' split) <;> simp (disch := decide)

@[simp] theorem addToReload_frame {G : Foot} (h : Foot.le footAir G = true) (x : Slot) (sec n : Nat) (s : State) :
    blank G (addToReload x sec n s) = blank G s := by
  refine blank_mono h ?_
  unfold addToReload
  (try dsimp only)
  (repeat' split) <;> simp (disch := decide)

@[simp] theorem addRelease_frame {G : Foot} (h : Foot.le footAir G = true) (sec n : Nat) (s : State) :
    blank G (addRelease sec n s) = blank G s := by
  refine blank_mono h ?_
  unfold addRelease
  (try dsimp only)
  (repeat' split) <;> simp (disch := decide)

@[simp] theorem addPosition_frame {G : Foot} (h : Foot.le footAir G = true) (n : Nat) (s : State) :
    blank G (addPosition n s) = blank G s := by
  refine blank_mono h ?_
  unfold addPosition
  (try dsimp only)
  (repeat' split) <;> simp (disch := decide)

@[simp] theorem cancelSlot_frame {G : Foot} (h : Foot.le footAir G = true) (id : SlotId) (n : Nat) (s : State) :
    blank G (cancelSlot id n s) = blank G s := by
  refine blank_mono h ?_
  unfold cancelSlot
  (try dsimp only)
  (repeat' split) <;> simp (disch := decide)

theorem execAddRequest_frame {G : Foot} (h : Foot.le footAir G = true) (slot : SupersedingSlot) {s t : State} (e : execAddRequest slot s = .next t) :
    blank G t = blank G s := by
  refine whileUp_frame (f := _) ?_ e
  intro s; refine blank_mono h ?_
  apply takeRequest_frame rfl rfl
  intro r g hg n s
  (try dsimp only at hg)
  split at hg <;> cases hg
  simp (disch := decide)

theorem execReleaseAddRequest_frame {G : Foot} (h : Foot.le footAir G = true) {s t : State} (e : execReleaseAddRequest s = .next t) :
    blank G t = blank G s := by
  refine whileUp_frame (f := _) ?_ e
  intro s; refine blank_mono h ?_
  apply takeRequest_frame rfl rfl
  intro r g hg n s
  (try dsimp only at hg)
  split at hg <;> cases hg
  simp (disch := decide)

theorem execPositionAddRequest_frame {G : Foot} (h : Foot.le footAir G = true) {s t : State} (e : execPositionAddRequest s = .next t) :
    blank G t = blank G s := by
  refine whileUp_frame (f := _) ?_ e
  intro s; refine blank_mono h ?_
  apply takeRequest_frame rfl rfl
  intro r g hg n s
  (try dsimp only at hg)
  split at hg <;> cases hg
  simp (disch := decide)

theorem execCancelRequest_frame {G : Foot} (h : Foot.le footAir G = true) (slot : SlotId) {s t : State} (e : execCancelRequest slot s = .next t) :
    blank G t = blank G s := by
  refine whileUp_frame (f := _) ?_ e
  intro s; refine blank_mono h ?_
  apply takeRequest_frame rfl rfl
  intro r g hg n s
  (try dsimp only at hg)
  split at hg <;> cases hg
  simp (disch := decide)

@[simp] theorem transmit_frame {G : Foot} (h : Foot.le footAir G = true) (id : SlotId) (c : Content) (s : State) :
    blank G (transmit id c s) = blank G s := by
  refine blank_mono h ?_
  unfold transmit
  (try dsimp only)
  (repeat' split) <;> simp (disch := decide)

@[simp] theorem withdraw_frame {G : Foot} (h : Foot.le footAir G = true) (id : SlotId) (s : State) :
    blank G (withdraw id s) = blank G s := by
  refine blank_mono h ?_
  unfold withdraw
  (try dsimp only)
  (repeat' split) <;> simp (disch := decide)

@[simp] theorem handOverFrom_frame {G : Foot} (h : Foot.le footAir G = true)  (l : List SlotId) (s : State) :
    blank G (handOverFrom l s) = blank G s := by
  refine blank_mono h ?_
  induction l generalizing s with
  | nil => simp (disch := decide) [handOverFrom]
  | cons a l ih =>
    unfold handOverFrom
    dsimp only
    (repeat' split) <;> simp (disch := decide) [ih]

@[simp] theorem handOver_frame {G : Foot} (h : Foot.le footAir G = true) (s : State) :
    blank G (handOver s) = blank G s := by
  refine blank_mono h ?_
  unfold handOver
  (try dsimp only)
  (repeat' split) <;> simp (disch := decide)

@[simp] theorem clearAir_frame {G : Foot} (h : Foot.le footAir G = true) (id : SlotId) (s : State) :
    blank G (clearAir id s) = blank G s := by
  refine blank_mono h ?_
  unfold clearAir
  (try dsimp only)
  (repeat' split) <;> simp (disch := decide)

@[simp] theorem noteBeacon_frame {G : Foot} (h : Foot.le footAir G = true) (id : SlotId) (s : State) :
    blank G (noteBeacon id s) = blank G s := by
  refine blank_mono h ?_
  unfold noteBeacon
  (try dsimp only)
  (repeat' split) <;> simp (disch := decide)

@[simp] theorem finishSent_frame {G : Foot} (h : Foot.le footAir G = true) (id : SlotId) (s : State) :
    blank G (finishSent id s) = blank G s := by
  refine blank_mono h ?_
  unfold finishSent
  (try dsimp only)
  (repeat' split) <;> simp (disch := decide)

@[simp] theorem finishAborted_frame {G : Foot} (h : Foot.le footAir G = true) (id : SlotId) (s : State) :
    blank G (finishAborted id s) = blank G s := by
  refine blank_mono h ?_
  unfold finishAborted
  (try dsimp only)
  (repeat' split) <;> simp (disch := decide)

theorem execDoneSignal_frame {G : Foot} (h : Foot.le footAir G = true) {s t : State} (e : execDoneSignal s = .next t) :
    blank G t = blank G s := by
  refine whileUp_frame (f := _) ?_ e
  intro s; refine blank_mono h ?_
  exact onAirSlot_frame (fun id s => by simp (disch := decide)) s

theorem execTransceiverTimeout_frame {G : Foot} (h : Foot.le footAir G = true) {s t : State} (e : execTransceiverTimeout s = .next t) :
    blank G t = blank G s := by
  refine whileUp_frame (f := _) ?_ e
  intro s; refine blank_mono h ?_
  exact onAirSlot_frame (fun id s => by simp (disch := decide)) s

@[simp] theorem carrierOn_frame {G : Foot} (h : Foot.le footAir G = true) (s : State) :
    blank G (carrierOn s) = blank G s := by
  refine blank_mono h ?_
  unfold carrierOn
  (try dsimp only)
  (repeat' split) <;> simp (disch := decide)

@[simp] theorem carrierOff_frame {G : Foot} (h : Foot.le footAir G = true) (s : State) :
    blank G (carrierOff s) = blank G s := by
  refine blank_mono h ?_
  unfold carrierOff
  (try dsimp only)
  (repeat' split) <;> simp (disch := decide)

theorem execCarrierAppears_frame {G : Foot} (h : Foot.le footAir G = true) {s t : State} (e : execCarrierAppears s = .next t) :
    blank G t = blank G s := by
  unfold execCarrierAppears at e
  cases e
  refine blank_mono h ?_
  simp (disch := decide)

theorem execCarrierAbsent_frame {G : Foot} (h : Foot.le footAir G = true) {s t : State} (e : execCarrierAbsent s = .next t) :
    blank G t = blank G s := by
  unfold execCarrierAbsent at e
  cases e
  refine blank_mono h ?_
  simp (disch := decide)

@[simp] theorem startCounting_frame {G : Foot} (h : Foot.le footAir G = true) (s : State) :
    blank G (startCounting s) = blank G s := by
  refine blank_mono h ?_
  unfold startCounting
  (try dsimp only)
  (repeat' split) <;> simp (disch := decide)

@[simp] theorem quietPassed_frame {G : Foot} (h : Foot.le footAir G = true) (s : State) :
    blank G (quietPassed s) = blank G s := by
  refine blank_mono h ?_
  unfold quietPassed
  split
  · simp (disch := decide)
  · exact draw_frame rfl (fun k s => by simp (disch := decide)) s

theorem execQuietTimer_frame {G : Foot} (h : Foot.le footAir G = true) {s t : State} (e : execQuietTimer s = .next t) :
    blank G t = blank G s := by
  refine whileUp_frame (f := _) ?_ e
  intro s; refine blank_mono h ?_
  (try dsimp only)
  (repeat' split) <;> simp (disch := decide)

@[simp] theorem tickCount_frame {G : Foot} (h : Foot.le footAir G = true) (s : State) :
    blank G (tickCount s) = blank G s := by
  refine blank_mono h ?_
  unfold tickCount
  (try dsimp only)
  (repeat' split) <;> simp (disch := decide)

theorem execCountdownTick_frame {G : Foot} (h : Foot.le footAir G = true) {s t : State} (e : execCountdownTick s = .next t) :
    blank G t = blank G s := by
  refine whileUp_frame (f := _) ?_ e
  intro s; refine blank_mono h ?_
  (try dsimp only)
  (repeat' split) <;> simp (disch := decide)

@[simp] theorem armBeacon_frame {G : Foot} (h : Foot.le footDraw G = true) (interval : Nat) (s : State) :
    blank G (armBeacon interval s) = blank G s := by
  refine blank_mono h ?_
  unfold armBeacon
  exact draw_frame rfl (fun k s => by simp (disch := decide)) s

@[simp] theorem beaconDue_frame {G : Foot} (h : Foot.le footAir G = true) (s : State) :
    blank G (beaconDue s) = blank G s := by
  refine blank_mono h ?_
  unfold beaconDue
  (try dsimp only)
  (repeat' split) <;> simp (disch := decide)

theorem execBeaconTimer_frame {G : Foot} (h : Foot.le footAir G = true) {s t : State} (e : execBeaconTimer s = .next t) :
    blank G t = blank G s := by
  refine whileUp_frame (f := _) ?_ e
  intro s; refine blank_mono h ?_
  (try dsimp only)
  (repeat' split) <;> simp (disch := decide)

theorem execBeaconNotice_frame {G : Foot} (h : Foot.le footAir G = true) {s t : State} (e : execBeaconNotice s = .next t) :
    blank G t = blank G s := by
  refine whileUp_frame (f := _) ?_ e
  intro s; refine blank_mono h ?_
  exact takeNotice_frame rfl (fun n s => rfl) s

end Sys2Proof.Laws
end

