-- ==== Sys2Proof/Laws/FrameNode.lean ====
section
/-! SUPPORT. Footprints of NODE's operations. -/

namespace Sys2Proof.Laws

open Sys2Proof.Machine

@[simp] theorem loadFails_frame {G : Foot} (h : Foot.le footLoad G = true) (cause : FaultCause) (detail : Nat) (s : State) :
    blank G (loadFails cause detail s) = blank G s := by
  refine blank_mono h ?_
  unfold loadFails
  (try dsimp only)
  (repeat' split) <;> simp (disch := decide)

@[simp] theorem readFailed_frame {G : Foot} (h : Foot.le footLoad G = true) (s : State) :
    blank G (readFailed s) = blank G s := by
  refine blank_mono h ?_
  unfold readFailed
  (try dsimp only)
  (repeat' split) <;> simp (disch := decide)

@[simp] theorem postClamped_frame {G : Foot} (h : Foot.le footLoad G = true) (img : List Byte) (s : State) :
    blank G (postClamped img s) = blank G s := by
  refine blank_mono h ?_
  exact foldl_frame (fun s t => by simp (disch := decide)) _ s

@[simp] theorem handSettings_frame {G : Foot} (h : Foot.le footLoad G = true) (img : List Byte) (s : State) :
    blank G (handSettings img s) = blank G s := by
  refine blank_mono h ?_
  simp [handSettings, blank_eq_iff, keep]

@[simp] theorem enterListening_frame {G : Foot} (h : Foot.le footLoad G = true) (s : State) :
    blank G (enterListening s) = blank G s := by
  refine blank_mono h ?_
  unfold enterListening
  dsimp only
  rw [armBeacon_frame (by decide)]
  exact (by simp [blank_eq_iff, keep] : _ = blank footLoad (forgetAll s)).trans (forgetAll_frame rfl s)

@[simp] theorem readCompletes_frame {G : Foot} (h : Foot.le footLoad G = true) (img : List Byte) (s : State) :
    blank G (readCompletes img s) = blank G s := by
  refine blank_mono h ?_
  unfold readCompletes
  (try dsimp only)
  (repeat' split) <;> simp (disch := decide)

theorem execLoadRetry_frame {G : Foot} (h : Foot.le footLoad G = true) {s t : State} (e : execLoadRetry s = .next t) :
    blank G t = blank G s := by
  refine whileUp_frame (f := _) ?_ e
  intro s; refine blank_mono h ?_
  (try dsimp only)
  (repeat' split) <;> simp (disch := decide)

theorem execStoreNoAck_frame {G : Foot} (h : Foot.le footLoad G = true) {s t : State} (e : execStoreNoAck s = .next t) :
    blank G t = blank G s := by
  refine whileUp_frame (f := _) ?_ e
  intro s; refine blank_mono h ?_
  (try dsimp only)
  (repeat' split) <;> simp (disch := decide)

theorem execStoreByteTimeout_frame {G : Foot} (h : Foot.le footLoad G = true) {s t : State} (e : execStoreByteTimeout s = .next t) :
    blank G t = blank G s := by
  refine whileUp_frame (f := _) ?_ e
  intro s; refine blank_mono h ?_
  (try dsimp only)
  (repeat' split) <;> simp (disch := decide)

theorem execStoreReadComplete_frame {G : Foot} (h : Foot.le footLoad G = true) (image : List Byte) {s t : State} (e : execStoreReadComplete image s = .next t) :
    blank G t = blank G s := by
  unfold execStoreReadComplete at e
  split at e
  · refine whileUp_frame (f := _) ?_ e
    intro s; refine blank_mono h ?_
    split <;> simp (disch := decide)
  · cases e

@[simp] theorem enterRunning_frame {G : Foot} (h : Foot.le footRun G = true) (s : State) :
    blank G (enterRunning s) = blank G s := by
  refine blank_mono h ?_
  unfold enterRunning
  rw [positionCheck_frame rfl]
  simp [blank_eq_iff, keep]

theorem execListenTimer_frame {G : Foot} (h : Foot.le footRun G = true) {s t : State} (e : execListenTimer s = .next t) :
    blank G t = blank G s := by
  refine whileUp_frame (f := _) ?_ e
  intro s; refine blank_mono h ?_
  (try dsimp only)
  (repeat' split) <;> simp (disch := decide)

@[simp] theorem refusePark_frame {G : Foot} (h : Foot.le footPost G = true) (cause : ParkCause) (s : State) :
    blank G (refusePark cause s) = blank G s := by
  refine blank_mono h ?_
  unfold refusePark
  (try dsimp only)
  (repeat' split) <;> simp (disch := decide)

@[simp] theorem sendGesture_frame {G : Foot} (h : Foot.le footPost G = true) (s : State) :
    blank G (sendGesture s) = blank G s := by
  refine blank_mono h ?_
  unfold sendGesture
  (try dsimp only)
  (repeat' split) <;> simp (disch := decide)

@[simp] theorem enterParked_frame {G : Foot} (h : Foot.le footPark G = true) (s : State) :
    blank G (enterParked s) = blank G s := by
  refine blank_mono h ?_
  unfold enterParked
  (try dsimp only)
  (repeat' split) <;> simp (disch := decide)

@[simp] theorem parkTest_frame {G : Foot} (h : Foot.le footPark G = true) (s : State) :
    blank G (parkTest s) = blank G s := by
  refine blank_mono h ?_
  unfold parkTest
  (try dsimp only)
  (repeat' split) <;> simp (disch := decide)

@[simp] theorem leaveParked_frame {G : Foot} (h : Foot.le footPark G = true) (s : State) :
    blank G (leaveParked s) = blank G s := by
  refine blank_mono h ?_
  unfold leaveParked
  (try dsimp only)
  (repeat' split) <;> simp (disch := decide)

@[simp] theorem nodeChange_frame {G : Foot} (h : Foot.le footPark G = true) (c : FnChange) (s : State) :
    blank G (nodeChange c s) = blank G s := by
  refine blank_mono h ?_
  unfold nodeChange
  (try dsimp only)
  (repeat' split) <;> simp (disch := decide)

@[simp] theorem nodeTakesChange_frame {G : Foot} (h : Foot.le footPark G = true) (s : State) :
    blank G (nodeTakesChange s) = blank G s := by
  refine blank_mono h ?_
  unfold nodeTakesChange
  (try dsimp only)
  (repeat' split) <;> simp (disch := decide)

theorem execNodeFunctionChange_frame {G : Foot} (h : Foot.le footPark G = true) {s t : State} (e : execNodeFunctionChange s = .next t) :
    blank G t = blank G s := by
  refine whileUp_frame (f := _) ?_ e
  intro s; refine blank_mono h ?_
  (try dsimp only)
  (repeat' split) <;> simp (disch := decide)

end Sys2Proof.Laws
end

