-- ==== Sys2Proof/Laws/FramePeers.lean ====
section
/-! SUPPORT. Footprints of PEER's operations. -/

namespace Sys2Proof.Laws

open Sys2Proof.Machine

@[simp] theorem setPeerEntry_frame {G : Foot} (h : Foot.le footPeer G = true) (i : Nat) (e : PeerEntry) (s : State) :
    blank G (setPeerEntry i e s) = blank G s := by
  refine blank_mono h ?_
  unfold setPeerEntry
  (try dsimp only)
  (repeat' split) <;> simp (disch := decide)

@[simp] theorem postWatched_frame {G : Foot} (h : Foot.le footPeer G = true) (d : FilterAction) (station : Nat) (s : State) :
    blank G (postWatched d station s) = blank G s := by
  refine blank_mono h ?_
  unfold postWatched
  (try dsimp only)
  (repeat' split) <;> simp (disch := decide)

@[simp] theorem peerTake_frame {G : Foot} (h : Foot.le footPeer G = true) (station : Nat) (b : Beacon) (received : Time) (d : FilterAction) (s : State) :
    blank G (peerTake station b received d s) = blank G s := by
  refine blank_mono h ?_
  unfold peerTake
  (try dsimp only)
  (repeat' split) <;> simp (disch := decide)

@[simp] theorem peerTakesOldest_frame {G : Foot} (h : Foot.le footPeerTake G = true) (s : State) :
    blank G (peerTakesOldest s) = blank G s := by
  refine blank_mono h ?_
  unfold peerTakesOldest
  (try dsimp only)
  (repeat' split) <;> simp (disch := decide)

theorem execPeerTakesPosition_frame {G : Foot} (h : Foot.le footPeerTake G = true) {s t : State} (e : execPeerTakesPosition s = .next t) :
    blank G t = blank G s := by
  refine whileUp_frame (f := _) ?_ e
  intro s; refine blank_mono h ?_
  (try dsimp only)
  (repeat' split) <;> simp (disch := decide)

@[simp] theorem sweepPeers_frame {G : Foot} (h : Foot.le footPeer G = true) (s : State) :
    blank G (sweepPeers s) = blank G s := by
  refine blank_mono h ?_
  unfold sweepPeers
  (try dsimp only)
  (repeat' split) <;> simp (disch := decide)

theorem execPeerSweep_frame {G : Foot} (h : Foot.le footPeer G = true) {s t : State} (e : execPeerSweep s = .next t) :
    blank G t = blank G s := by
  refine whileUp_frame (f := _) ?_ e
  intro s; refine blank_mono h ?_
  (try dsimp only)
  (repeat' split) <;> simp (disch := decide)

end Sys2Proof.Laws
end

