-- ==== Sys2Proof/Laws/FramePosition.lean ====
section
/-! SUPPORT. Footprints of POS's commands. -/

namespace Sys2Proof.Laws

open Sys2Proof.Machine

@[simp] theorem tagPlaced_frame {G : Foot} (h : Foot.le footPos G = true) (tag : TagNumber) (sec distance : Nat) (s : State) :
    blank G (tagPlaced tag sec distance s) = blank G s := by
  refine blank_mono h ?_
  unfold tagPlaced
  (try dsimp only)
  (repeat' split) <;> simp (disch := decide)

@[simp] theorem tagArrives_frame {G : Foot} (h : Foot.le footPos G = true) (tag : TagNumber) (s : State) :
    blank G (tagArrives tag s) = blank G s := by
  refine blank_mono h ?_
  unfold tagArrives
  (try dsimp only)
  (repeat' split) <;> simp (disch := decide)

theorem execTagRead_frame {G : Foot} (h : Foot.le footPos G = true) (tag : TagNumber) {s t : State} (e : execTagRead tag s = .next t) :
    blank G t = blank G s := by
  refine whileUp_frame (f := _) ?_ e
  intro s; refine blank_mono h ?_
  (try dsimp only)
  (repeat' split) <;> simp (disch := decide)

@[simp] theorem postLost_frame {G : Foot} (h : Foot.le footPos G = true) (p : Position) (s : State) :
    blank G (postLost p s) = blank G s := by
  refine blank_mono h ?_
  unfold postLost
  (try dsimp only)
  (repeat' split) <;> simp (disch := decide)

@[simp] theorem noteLost_frame {G : Foot} (h : Foot.le footPos G = true) (before : Position) (s : State) :
    blank G (noteLost before s) = blank G s := by
  refine blank_mono h ?_
  unfold noteLost
  (try dsimp only)
  (repeat' split) <;> simp (disch := decide)

@[simp] theorem movePosition_frame {G : Foot} (h : Foot.le footPos G = true) (s : State) :
    blank G (movePosition s) = blank G s := by
  refine blank_mono h ?_
  unfold movePosition
  (try dsimp only)
  (repeat' split) <;> simp (disch := decide)

@[simp] theorem pulseArrives_frame {G : Foot} (h : Foot.le footPos G = true) (s : State) :
    blank G (pulseArrives s) = blank G s := by
  refine blank_mono h ?_
  unfold pulseArrives
  (try dsimp only)
  (repeat' split) <;> simp (disch := decide)

theorem execWheelPulse_frame {G : Foot} (h : Foot.le footPos G = true) {s t : State} (e : execWheelPulse s = .next t) :
    blank G t = blank G s := by
  refine whileUp_frame (f := _) ?_ e
  intro s; refine blank_mono h ?_
  (try dsimp only)
  (repeat' split) <;> simp (disch := decide)

@[simp] theorem binExpires_frame {G : Foot} (h : Foot.le footPos G = true) (s : State) :
    blank G (binExpires s) = blank G s := by
  refine blank_mono h ?_
  unfold binExpires
  (try dsimp only)
  (repeat' split) <;> simp (disch := decide)

theorem execBinTimer_frame {G : Foot} (h : Foot.le footPos G = true) {s t : State} (e : execBinTimer s = .next t) :
    blank G t = blank G s := by
  refine whileUp_frame (f := _) ?_ e
  intro s; refine blank_mono h ?_
  (try dsimp only)
  (repeat' split) <;> simp (disch := decide)

end Sys2Proof.Laws
end

