-- ==== Sys2Proof/Laws/FrameReceive.lean ====
section
/-! SUPPORT. Footprints of the receive path. -/

namespace Sys2Proof.Laws

open Sys2Proof.Machine

@[simp] theorem dispatchPeer_frame {G : Foot} (h : Foot.le footAir G = true) (r : Received) (d : FilterAction) (s : State) :
    blank G (dispatchPeer r d s) = blank G s := by
  refine blank_mono h ?_
  unfold dispatchPeer
  (try dsimp only)
  (repeat' split) <;> simp (disch := decide)

@[simp] theorem dispatchCvy_frame {G : Foot} (h : Foot.le footAir G = true) (r : Received) (s : State) :
    blank G (dispatchCvy r s) = blank G s := by
  refine blank_mono h ?_
  unfold dispatchCvy
  (try dsimp only)
  (repeat' split) <;> simp (disch := decide)

@[simp] theorem dispatchClm_frame {G : Foot} (h : Foot.le footAir G = true) (r : Received) (s : State) :
    blank G (dispatchClm r s) = blank G s := by
  refine blank_mono h ?_
  unfold dispatchClm
  (try dsimp only)
  (repeat' split) <;> simp (disch := decide)

@[simp] theorem dispatchFiltered_frame {G : Foot} (h : Foot.le footAir G = true) (r : Received) (s : State) :
    blank G (dispatchFiltered r s) = blank G s := by
  refine blank_mono h ?_
  unfold dispatchFiltered
  (try dsimp only)
  (repeat' split) <;> simp (disch := decide)

@[simp] theorem dispatch_frame {G : Foot} (h : Foot.le footAir G = true) (r : Received) (s : State) :
    blank G (dispatch r s) = blank G s := by
  refine blank_mono h ?_
  unfold dispatch
  (try dsimp only)
  (repeat' split) <;> simp (disch := decide)

@[simp] theorem noteClash_frame {G : Foot} (h : Foot.le footAir G = true) (kind : Nat) (s : State) :
    blank G (noteClash kind s) = blank G s := by
  refine blank_mono h ?_
  unfold noteClash
  (try dsimp only)
  (repeat' split) <;> simp (disch := decide)

@[simp] theorem complete_frame {G : Foot} (h : Foot.le footAir G = true) (body : List Byte) (computed check : Byte) (received : Time) (s : State) :
    blank G (complete body computed check received s) = blank G s := by
  refine blank_mono h ?_
  unfold complete
  (try dsimp only)
  (repeat' split) <;> simp (disch := decide)

@[simp] theorem setAssembler_frame {G : Foot} (h : Foot.le footAir G = true) (a : Assembler) (gap : Timer) (s : State) :
    blank G (setAssembler a gap s) = blank G s := by
  refine blank_mono h ?_
  unfold setAssembler
  (try dsimp only)
  (repeat' split) <;> simp (disch := decide)

@[simp] theorem openFrame_frame {G : Foot} (h : Foot.le footAir G = true) (b : Byte) (s : State) :
    blank G (openFrame b s) = blank G s := by
  refine blank_mono h ?_
  unfold openFrame
  (try dsimp only)
  (repeat' split) <;> simp (disch := decide)

@[simp] theorem takeByte_frame {G : Foot} (h : Foot.le footAir G = true) (start : Bool) (b : Byte) (s : State) :
    blank G (takeByte start b s) = blank G s := by
  refine blank_mono h ?_
  unfold takeByte
  (try dsimp only)
  (repeat' split) <;> simp (disch := decide)

theorem execReceiveByte_frame {G : Foot} (h : Foot.le footAir G = true) (start : Bool) (b : Byte) {s t : State} (e : execReceiveByte start b s = .next t) :
    blank G t = blank G s := by
  refine whileUp_frame (f := _) ?_ e
  intro s; refine blank_mono h ?_
  (try dsimp only)
  (repeat' split) <;> simp (disch := decide)

@[simp] theorem dropPartial_frame {G : Foot} (h : Foot.le footAir G = true) (s : State) :
    blank G (dropPartial s) = blank G s := by
  refine blank_mono h ?_
  unfold dropPartial
  (try dsimp only)
  (repeat' split) <;> simp (disch := decide)

theorem execByteGapTimeout_frame {G : Foot} (h : Foot.le footAir G = true) {s t : State} (e : execByteGapTimeout s = .next t) :
    blank G t = blank G s := by
  refine whileUp_frame (f := _) ?_ e
  intro s; refine blank_mono h ?_
  (try dsimp only)
  (repeat' split) <;> simp (disch := decide)

end Sys2Proof.Laws
end

