-- ==== Sys2Proof/Laws/FrameService.lean ====
section
/-! SUPPORT. Footprints of SVC's operations. -/

namespace Sys2Proof.Laws

open Sys2Proof.Machine

/-- A request on the service line. -/
theorem request_frame {G : Foot} (hv : G.service = true) {f : State → State}
    (hf : ∀ s, blank G (f s) = blank G s) (s : State) : blank G (request f s) = blank G s := by
  unfold request
  split
  · exact hf _
  · exact setAnswer_frame hv s _ _

/-- A request that reads. -/
theorem readRequest_frame {G : Foot} (hv : G.service = true) (f : State → Answer) (s : State) :
    blank G (readRequest f s) = blank G s :=
  request_frame hv (fun s => setAnswer_frame hv s _ _) s

@[simp] theorem setJournal_frame {G : Foot} (h : Foot.le footJournal G = true) (j : Journal) (s : State) :
    blank G (setJournal j s) = blank G s := by
  refine blank_mono h ?_
  unfold setJournal
  (try dsimp only)
  (repeat' split) <;> simp (disch := decide)

@[simp] theorem takePost_frame {G : Foot} (h : Foot.le footPostTake G = true) (block : BlockId) (s : State) :
    blank G (takePost block s) = blank G s := by
  refine blank_mono h ?_
  unfold takePost
  (try dsimp only)
  (repeat' split) <;> simp (disch := decide)

theorem execJournalPost_frame {G : Foot} (h : Foot.le footPostTake G = true) (block : BlockId) {s t : State} (e : execJournalPost block s = .next t) :
    blank G t = blank G s := by
  refine whileUp_frame (f := _) ?_ e
  intro s; refine blank_mono h ?_
  (try dsimp only)
  (repeat' split) <;> simp (disch := decide)

@[simp] theorem sendAnswer_frame {G : Foot} (h : Foot.le footService G = true) (a : Answer) (s : State) :
    blank G (sendAnswer a s) = blank G s := by
  refine blank_mono h ?_
  unfold sendAnswer
  (try dsimp only)
  (repeat' split) <;> simp (disch := decide)

theorem execStatus_frame {G : Foot} (h : Foot.le footService G = true) {s t : State} (e : execStatus s = .next t) :
    blank G t = blank G s := by
  refine whileUp_frame (f := _) ?_ e
  intro s; refine blank_mono h ?_
  exact readRequest_frame rfl _ s

theorem execPeers_frame {G : Foot} (h : Foot.le footService G = true) {s t : State} (e : execPeers s = .next t) :
    blank G t = blank G s := by
  refine whileUp_frame (f := _) ?_ e
  intro s; refine blank_mono h ?_
  exact readRequest_frame rfl _ s

theorem execClaims_frame {G : Foot} (h : Foot.le footService G = true) {s t : State} (e : execClaims s = .next t) :
    blank G t = blank G s := by
  refine whileUp_frame (f := _) ?_ e
  intro s; refine blank_mono h ?_
  exact readRequest_frame rfl _ s

theorem execRoster_frame {G : Foot} (h : Foot.le footService G = true) {s t : State} (e : execRoster s = .next t) :
    blank G t = blank G s := by
  refine whileUp_frame (f := _) ?_ e
  intro s; refine blank_mono h ?_
  exact readRequest_frame rfl _ s

theorem execTrailers_frame {G : Foot} (h : Foot.le footService G = true) {s t : State} (e : execTrailers s = .next t) :
    blank G t = blank G s := by
  refine whileUp_frame (f := _) ?_ e
  intro s; refine blank_mono h ?_
  exact readRequest_frame rfl _ s

theorem execJournal_frame {G : Foot} (h : Foot.le footService G = true) {s t : State} (e : execJournal s = .next t) :
    blank G t = blank G s := by
  refine whileUp_frame (f := _) ?_ e
  intro s; refine blank_mono h ?_
  exact readRequest_frame rfl _ s

theorem execCounters_frame {G : Foot} (h : Foot.le footService G = true) {s t : State} (e : execCounters s = .next t) :
    blank G t = blank G s := by
  refine whileUp_frame (f := _) ?_ e
  intro s; refine blank_mono h ?_
  exact readRequest_frame rfl _ s

theorem execUnknown_frame {G : Foot} (h : Foot.le footService G = true) {s t : State} (e : execUnknown s = .next t) :
    blank G t = blank G s := by
  refine whileUp_frame (f := _) ?_ e
  intro s; refine blank_mono h ?_
  exact readRequest_frame rfl _ s

@[simp] theorem acknowledgeIndex_frame {G : Foot} (h : Foot.le footAck G = true) (index : Nat) (s : State) :
    blank G (acknowledgeIndex index s) = blank G s := by
  refine blank_mono h ?_
  unfold acknowledgeIndex
  split <;> simp (disch := decide)

theorem execAck_frame {G : Foot} (h : Foot.le footAck G = true) (index : Nat) {s t : State} (e : execAck index s = .next t) :
    blank G t = blank G s := by
  refine whileUp_frame (f := _) ?_ e
  intro s; refine blank_mono h ?_
  exact request_frame rfl (fun s => by simp (disch := decide)) s

@[simp] theorem clearCounters_frame {G : Foot} (h : Foot.le footClear G = true) (s : State) :
    blank G (clearCounters s) = blank G s := by
  refine blank_mono h ?_
  unfold clearCounters
  (try dsimp only)
  (repeat' split) <;> simp (disch := decide)

theorem execClearCounters_frame {G : Foot} (h : Foot.le footClear G = true) {s t : State} (e : execClearCounters s = .next t) :
    blank G t = blank G s := by
  refine whileUp_frame (f := _) ?_ e
  intro s; refine blank_mono h ?_
  exact request_frame rfl (fun s => by simp (disch := decide)) s

@[simp] theorem restartRequest_frame {G : Foot} (h : Foot.le footService G = true) (s : State) :
    blank G (restartRequest s) = blank G s := by
  refine blank_mono h ?_
  unfold restartRequest
  (try dsimp only)
  (repeat' split) <;> simp (disch := decide)

theorem execRestart_frame {G : Foot} (h : Foot.le footService G = true) {s t : State} (e : execRestart s = .next t) :
    blank G t = blank G s := by
  refine whileUp_frame (f := _) ?_ e
  intro s; refine blank_mono h ?_
  exact request_frame rfl (fun s => by simp (disch := decide)) s

@[simp] theorem busy_frame {G : Foot} (h : Foot.le footService G = true) (s : State) :
    blank G (busy s) = blank G s := by
  refine blank_mono h ?_
  unfold busy
  (try dsimp only)
  (repeat' split) <;> simp (disch := decide)

theorem execBusy_frame {G : Foot} (h : Foot.le footService G = true) {s t : State} (e : execBusy s = .next t) :
    blank G t = blank G s := by
  refine whileUp_frame (f := _) ?_ e
  intro s; refine blank_mono h ?_
  (try dsimp only)
  (repeat' split) <;> simp (disch := decide)

@[simp] theorem answerEnded_frame {G : Foot} (h : Foot.le footService G = true) (s : State) :
    blank G (answerEnded s) = blank G s := by
  refine blank_mono h ?_
  unfold answerEnded
  (try dsimp only)
  (repeat' split) <;> simp (disch := decide)

theorem execAnswerEnded_frame {G : Foot} (h : Foot.le footService G = true) {s t : State} (e : execAnswerEnded s = .next t) :
    blank G t = blank G s := by
  refine whileUp_frame (f := _) ?_ e
  intro s; refine blank_mono h ?_
  (try dsimp only)
  (repeat' split) <;> simp (disch := decide)

end Sys2Proof.Laws
end

