-- ==== Sys2Proof/Laws/Steps.lean ====
section
/-! SUPPORT. The guard of a reset: what a guarded meaning answers. -/

namespace Sys2Proof.Laws

open Sys2Proof.Machine

/-- With the supply up a guarded meaning is its effect (R184). -/
theorem whileUp_up {s : State} (h : s.held = false) (f : State → State) : whileUp s f = .next (f s) := by
  unfold whileUp; rw [if_neg (by rw [h]; decide)]

/-- In reset a guarded meaning does nothing (R184). -/
theorem whileUp_held {s : State} (h : s.held = true) (f : State → State) : whileUp s f = .next s := by
  unfold whileUp; rw [if_pos h]

/-- A guarded meaning always answers a next state. -/
theorem whileUp_answers (s : State) (f : State → State) : ∃ t, whileUp s f = .next t := by
  unfold whileUp; split <;> exact ⟨_, rfl⟩

/-- The modes in which the node takes frames, requests and tag reads (R6, R28, R43). -/
theorem onLayout_iff (s : State) : onLayout s = true ↔
    s.node.mode = .listening ∨ s.node.mode = .running ∨ s.node.mode = .parked := by
  unfold onLayout; split <;> simp_all

end Sys2Proof.Laws
end

