-- ==== Sys2Proof/Tests/Slice0.lean ====
section
/-! SUPPORT. The model's own tests: the checks on operands, the worked cases of the manual one step at a
time, and for each statement with hypotheses a state and operands that meet them, clause by clause. -/

namespace Sys2Proof.Tests

-- One theorem after the other: each waits for the kernel, and together they would take too many threads.
set_option Elab.async false

open Sys2Proof.Machine Sys2Proof.Safety

/-! ## Small states -/

/-- The state a command leads to. -/
def after (c : Instr) (s : State) : State :=
  match exec c s with
  | .next t => t
  | _ => State.reset

/-- The maps of chapters 1 and 4: sections 5 to 7 and 12 to 15. -/
def map : List SectionEntry :=
  List.replicate 5 SectionEntry.absent ++
  [⟨.road, 3000, 200, 500, some 6, some 4⟩, ⟨.single, 1200, 100, 300, some 7, some 5⟩,
    ⟨.road, 2600, 200, 500, some 8, some 6⟩] ++
  List.replicate 4 SectionEntry.absent ++
  [⟨.road, 3200, 200, 500, some 13, some 11⟩, ⟨.road, 2400, 200, 500, some 14, some 12⟩,
    ⟨.road, 1800, 200, 400, some 15, some 13⟩, ⟨.single, 900, 100, 300, some 14, some 16⟩] ++
  List.replicate 16 SectionEntry.absent

/-- The tag windows of chapter 1. -/
def windows : List TagWindow :=
  [⟨true, 0x000, 0xE00, 0, 5⟩, ⟨false, 0x100, 0xF00, 16, 4⟩, ⟨true, 0x300, 0xF00, 8, 4⟩]

/-- A running node 9 in section 5, FWD, distance 1200, VALID, at local time 20140 (chapter 4.9). -/
def base : State :=
  { State.reset with
    time := 20140
    node := { State.reset.node with mode := .running, store := .idle }
    pos := { Pos.reset with
      sections := map
      windows := windows
      record := ⟨5, .fwd, 1200, .valid, 0, none, 0⟩ }
    air := { Air.reset with
      layoutCode := some 42
      station := some 9
      generator := some 4357
      beacon := some 100
      lastBeacon := some 20080 }
    peer := ⟨List.replicate 12 none, some 100⟩
    cvy := { Cvy.reset with sweep := some 100 }
    clm := ⟨[ClaimEntry.built 6, ClaimEntry.built 15], [], some 100⟩
    gov := { Gov.reset with timer := some 20 }
    drv := { Drv.reset with output := .governed, frameTimer := none, failsafe := false, throttleWidth := 1720 }
    trl := { Trl.reset with timer := some 200 } }

/-- The base state in another mode. -/
def inMode (m : Mode) : State := { base with node := { base.node with mode := m } }

/-- The base state with another claim entry for section 6. -/
def claimed (e : ClaimEntry) : State := { base with clm := { base.clm with entries := [e, ClaimEntry.built 15] } }

/-- The base state with other messages. -/
def mailed (m : Mail) : State := { base with mail := m }

/-- The base state at another place. -/
def placed (p : Position) : State := { base with pos := { base.pos with record := p } }

/-- The base state with another trailer port and line. -/
def towing (t : Trl) (line : List Tag) : State := { base with trl := t, line := line }

/-! ## Operands that name no event -/

theorem test_refuses_short_image : (Instr.storeReadComplete [0, 1]).wellFormed = false := by decide
theorem test_refuses_section_32 : (Instr.claimWindow 32).wellFormed = false := by decide
theorem test_refuses_ack_16 : (Instr.ack 16).wellFormed = false := by decide
theorem test_refuses_short_trailer : (Instr.tagGainsLine (.hitched ⟨1, 99, false, false⟩)).wellFormed = false := by
  decide
theorem test_refuses_long_trailer : (Instr.tagGainsLine (.hitched ⟨1, 1501, false, false⟩)).wellFormed = false := by
  decide
theorem test_takes_bounds : (Instr.claimWindow 31).wellFormed ∧ (Instr.ack 15).wellFormed ∧
    (Instr.tagGainsLine (.hitched ⟨1, 100, false, false⟩)).wellFormed ∧
    (Instr.tagGainsLine (.hitched ⟨1, 1500, false, false⟩)).wellFormed := by decide

/-- The table gives no row any bits, so no word spells a command. -/
theorem test_no_word_spells_a_command : decodeTableWord 8 0 = none ∧ decodeTableWord 8 255 = none := by decide

/-! ## Worked cases of the manual -/

/-- Chapter 1, "translating a tag": 0x35A is section 13, mark distance 2000; 0x3FA is UNMAPPED, 0x35F BAD_MARK. -/
theorem test_translation :
    translateTag windows map 0x35A = .place 13 2000 ∧ translateTag windows map 0x350 = .place 13 0 ∧
    translateTag windows map 0x3FA = .unmapped ∧ translateTag windows map 0x35F = .badMark := by decide +kernel

/-- The rig of chapter 1, "a run into section 13", with mm per pulse 51. -/
def onRun (p : Position) : State :=
  { placed p with node := { base.node with settings := { Settings.defaults with mmPerPulse := 51 } } }

/-- Chapter 1: the first pulse of the run moves 3 mm and leaves residue 3. -/
theorem test_wheelPulse_moves : (after .wheelPulse (onRun ⟨12, .fwd, 3000, .valid, 0, some 0x34F, 0⟩)).pos.record =
    ⟨12, .fwd, 3003, .valid, 3, some 0x34F, 3⟩ := by decide +kernel

/-- R15: the distance is clamped at the section's end, and travel since mark is not. -/
theorem test_wheelPulse_clamps : (after .wheelPulse (onRun ⟨12, .fwd, 3199, .valid, 0, some 0x34F, 0⟩)).pos.record =
    ⟨12, .fwd, 3200, .valid, 3, some 0x34F, 3⟩ := by decide +kernel

/-- Chapter 1: tag 0x350 brings the rig from section 12 into section 13, FWD. -/
theorem test_tagRead_enters : (after (.tagRead 0x350) (onRun ⟨12, .fwd, 3200, .valid, 210, some 0x34F, 6⟩)).pos.record =
    ⟨13, .fwd, 0, .valid, 0, some 0x350, 0⟩ := by decide +kernel

/-- Chapter 1: tag 0x357 lies 600 mm behind and is STALE. -/
theorem test_tagRead_stale :
    let t := after (.tagRead 0x357) (onRun ⟨13, .fwd, 2000, .valid, 0, some 0x35A, 0⟩)
    t.pos.record = ⟨13, .fwd, 2000, .valid, 0, some 0x35A, 0⟩ ∧ t.svc.counters.stale = 1 := by decide +kernel

/-- Chapter 1: 13 pulses in the bins at 51 give 414 mm/s. -/
theorem test_binTimer_speed :
    (after .binTimer { onRun base.pos.record with pos := { base.pos with bins := [3, 3, 3, 2, 2] } }).pos.speed = 414 := by
  decide +kernel

/-- Chapter 1: the look-ahead chain at section 13, distance 2000. -/
theorem test_chain : (chain (placed ⟨13, .fwd, 2000, .valid, 0, none, 0⟩)).map
    (fun x => (x.sec, x.facing, x.offset, x.span)) =
    [(13, .fwd, 0, 400), (14, .fwd, 400, 1800), (15, .rev, 2200, 900)] := by decide +kernel

/-- A peer entry of chapter 4.9. -/
def peer49 (st sec : Nat) (f : Facing) (d v l : Nat) (valid parked : Bool) (t : Time) : Option PeerEntry :=
  some ⟨st, 0, 0, 0, sec, f, d, v, l, valid, parked, false, false, false, false, t⟩

/-- The peer table of chapter 4.9. -/
def table49 : List (Option PeerEntry) :=
  [peer49 4 5 .fwd 2300 414 560 true false 20000, peer49 21 6 .rev 400 300 450 true false 20090,
    peer49 12 7 .fwd 500 0 900 true true 18900, peer49 30 5 .fwd 800 350 300 true false 20120,
    peer49 15 5 .fwd 1900 200 400 false false 20100, peer49 33 5 .fwd 1600 0 300 true false 19200] ++
  List.replicate 6 none

/-- The node of chapter 4.9. -/
def node49 : State := { base with peer := ⟨table49, some 100⟩ }

/-- Chapter 4.9: station 4 is the rig ahead with gap 597, and station 12 stands at gap 2600. -/
theorem test_rigAhead : (rigAhead node49).map (fun a => (a.entry.station, a.offset, a.gap)) = some (4, 1157, 597) ∧
    gapTo node49 12 = some 2600 := by decide +kernel

/-- Chapter 4.9: at 20801 station 4 has lapsed, and station 12 is the rig ahead. -/
theorem test_rigAhead_lapses :
    (rigAhead { node49 with time := 20801 }).map (fun a => (a.entry.station, a.gap)) = some (12, 2600) := by
  decide +kernel

/-- R75: with no rig ahead the answer is the gap 16383, and with one that rig and its gap. -/
theorem test_rigAheadAnswer : rigAheadAnswer base = ⟨none, 16383⟩ ∧ (rigAheadAnswer node49).gap = 597 := by
  decide +kernel

/-- R68: the sweep frees the entries that are not fresh, station 33's alone. -/
theorem test_peerSweep : (after .peerSweep node49).peer.entries = table49.set 5 none := by decide +kernel

/-- The node of chapter 7.10: a follower of station 4, CLAIMING section 6, at a commanded speed of 480. -/
def node710 : State :=
  { node49 with
    cvy := { base.cvy with role := .follower, convoy := 4, rank := 2, pred := 4 }
    drv := { base.drv with position := .convoy }
    clm := { base.clm with entries := [
      { ClaimEntry.built 6 with
        state := .claiming
        size := 2
        window := some ⟨19940, 20190⟩ }, ClaimEntry.built 15] }
    node := { base.node with settings := { Settings.defaults with approachDistance := 1900 } }
    gov := { base.gov with speed := 480 } }

/-- Chapter 7.10: the update at 20140 gives 486 toward 500 under SECTION, with width 1783. -/
theorem test_governorUpdate_rises :
    let g := (after .governorUpdate node710).gov
    (g.speed, g.lastTarget, g.limiting, g.lowered, g.crawl, g.width) =
      (486, 500, some .sec, false, false, 1783) := by decide +kernel

/-- Chapter 7.10: the update at 20160 under HALT brakes from 486 by 24, with width 1771. -/
theorem test_governorUpdate_halts :
    let g := (after .governorUpdate { node710 with
      cvy := { node710.cvy with foreign := [(4, .trailerLoss)] }, gov := { base.gov with speed := 486 } }).gov
    (g.speed, g.lastTarget, g.limiting, g.lowered, g.width) = (462, 0, some .halt, true, 1771) := by decide +kernel

/-- Chapter 7.10: the square roots of the worked case. -/
theorem test_isqrt : isqrt 1530000 = 1236 ∧ isqrt 1376000 = 1173 := by decide +kernel

/-- Chapter 7.11: the standoff loser's reverse demand is 44. -/
theorem test_reverse_demand :
    reverseTarget { base with drv := { base.drv with throttleWidth := 1300 } } = ⟨44, .driver⟩ := by decide +kernel

/-- Chapter 8.7: the forward demand of 1720 µs is 246. -/
theorem test_forward_demand : (forwardTarget base) = ⟨246, .driver⟩ := by decide +kernel

/-- Chapter 8.7: a pulse of 2400 µs is invalid, one of 8 µs a glitch. -/
theorem test_throttlePulse :
    (after (.throttlePulse 2400) base).svc.counters.invalidPulses = 1 ∧
    (after (.throttlePulse 2400) base).drv.throttleWidth = 1720 ∧ after (.throttlePulse 8) base = base := by
  decide +kernel

/-- Chapter 8.7: 300 ms of silence begins the failsafe, with a FAILSAFE record of 1720 and RUNNING. -/
theorem test_silenceTimer :
    let t := after .silenceTimer { base with drv := { base.drv with silence := some 1 } }
    t.drv.failsafe = true ∧ t.drv.failsafeCause = .silence ∧
    t.mail.posts = [⟨.drv, .failsafe, .num 1720, .mode .running, .num 0⟩] := by decide +kernel

/-- Trailer A of chapter 9.10. -/
def trailerA : TagRecord := ⟨6688, 600, true, true⟩
/-- Trailer B of chapter 9.10. -/
def trailerB : TagRecord := ⟨6701, 450, false, true⟩

/-- Chapter 9.10: rig lengths 250, 880 and 1360. -/
theorem test_rigLength : rigLength base = 250 ∧ rigLength (towing { base.trl with chain := [⟨trailerA, 0⟩] } []) = 880 ∧
    rigLength (towing { base.trl with chain := [⟨trailerA, 0⟩, ⟨trailerB, 0⟩] } []) = 1360 := by decide +kernel

/-- Chapter 9.10: trailer A answers discovery, and its confirmed ASSIGN pushes record 1. -/
theorem test_assign :
    let s := towing { base.trl with cycle := .discovering } [Tag.fresh trailerA]
    let t := after (.assign .asSent) (after (.discovery .asSent) s)
    t.trl.chain = [⟨trailerA, 0⟩] ∧
    t.mail.posts = [⟨.trl, .trailerCoupled, .num 1, .num 6688, .num 600⟩] ∧
    t.line = [⟨trailerA, some 1, ⟨true, false, false⟩⟩] := by decide +kernel

/-- R174, R175: a record lost on the road leaves the chain with one TRAILER_LOSS, an own cause and a FORGET. -/
theorem test_poll_loses :
    let s := towing { base.trl with chain := [⟨trailerA, 2⟩], cycle := .polling 1 } [⟨trailerA, some 1, Lamps.dark⟩]
    let t := after (.poll .spoiled) s
    t.trl.chain = [] ∧ t.mail.posts = [⟨.trl, .trailerLoss, .num 1, .num 6688, .num 1⟩] ∧
    t.mail.trlCauses = [⟨true, .trailerLoss⟩] ∧ t.svc.counters.lineErrors = 1 ∧
    t.line.map (·.address) = [none] := by decide +kernel

/-- Chapter 9.10 at 20400: address 1 is lost on the road, and record 2 goes with it, the top first. -/
theorem test_pop_of_two :
    let s := towing { base.trl with chain := [⟨trailerA, 3⟩, ⟨trailerB, 0⟩], cycle := .polling 1 }
      [⟨trailerA, some 1, Lamps.dark⟩, ⟨trailerB, some 2, Lamps.dark⟩]
    let between := popTop false s
    let t := popOn 1 false trailerA.id 2 1 between
    between.trl.chain = [⟨trailerA, 3⟩] ∧ between.mail = s.mail ∧
    t.trl.chain = [] ∧ t.mail.posts = [⟨.trl, .trailerLoss, .num 1, .num 6688, .num 2⟩] ∧
    t.mail.trlCauses = [⟨true, .trailerLoss⟩] ∧ t.line.map (·.address) = [none, none] := by decide +kernel

/-- Chapter 10.7: station 17 and reset count 5 seed the generator with 4357. -/
theorem test_seed : seedOf 17 5 = 4357 := by decide

/-- The journal of chapter 11.5 with 16 records held from place 0. -/
def journal115 : Journal := ⟨List.replicate 16 (some JournalRecord.startPowerOn), 0, 0, 16, 2⟩

/-- The base state with this journal. -/
def journalled (j : Journal) : State := { base with svc := { base.svc with journal := j } }

/-- Chapter 11.5: ACK 9 leaves get 10 and fill 6. -/
theorem test_ack : (after (.ack 9) (journalled journal115)).svc.journal =
    { journal115 with getIndex := 10, fill := 6 } := by decide +kernel

/-- Chapter 11.5: with places 10..15 and 0 held, ACK 4 is BAD_INDEX and ACK 0 empties the journal. -/
theorem test_ack_wraps :
    let s := journalled { journal115 with putIndex := 1, getIndex := 10, fill := 7 }
    (after (.ack 4) s).svc.answer = some .badIndex ∧ (after (.ack 4) s).svc.journal = s.svc.journal ∧
    (after (.ack 0) s).svc.journal = { s.svc.journal with getIndex := 1, fill := 0 } := by decide +kernel

/-- R23: a CRC-8 of polynomial 0x07 from 0xFF, by hand: 0xFF xor 0xFF is 0, and 0 stays 0; 0xFF alone
against a byte 0xFE leaves 1, which eight shifts make 0x07. -/
theorem test_crc : crc [0xFF] = 0x00#8 ∧ crc [0xFE] = 0x07#8 := by decide +kernel

/-- 2.3: the body of HALT from 9 to CONVOY 4, cause TRAILER_LOSS, layout 0x2A: destination 10 000100. -/
theorem test_halt_body : bodyOf 0x2A ⟨9, 4, .halt .trailerLoss⟩ = [4, 0x2A, 9, 0x84, 1] := by decide +kernel

/-- 2.3: the body of CLAIM from 21 for section 15, AB, waited clear, size 3, to ALL. -/
theorem test_claim_body : readBody [2, 0x2A, 21, 0, 15, 3] = some ⟨21, 0, .claim 15 .ab false 3⟩ := by decide +kernel

/-- The filter list of the worked sequence of chapter 2. -/
def filter2 : List FilterElement :=
  [⟨true, .pair, 4, 5, .pin⟩, ⟨true, .range, 30, 39, .reject⟩, ⟨true, .masked, 0x38, 0x28, .watch⟩]

/-- Chapter 2's worked sequence: 4 is PIN, 33 REJECT, 42 WATCH, and another station the default action. -/
theorem test_filter :
    let s := { base with air := { base.air with filter := filter2 } }
    filterDecision s 4 = .pin ∧ filterDecision s 33 = .reject ∧ filterDecision s 42 = .watch ∧
    filterDecision s 12 = .accept := by decide +kernel

/-- Chapter 6.13 at 1000: at the approach the node posts a CLAIM and its window runs 250 ms. -/
theorem test_approach :
    let t := positionCheck (some 5) none (placed ⟨5, .fwd, 1500, .valid, 0, none, 0⟩)
    t.mail.claimRequests = [.add (.claim 6 .ab false 1)] ∧
    (claimEntry t 6).map (fun e => (e.state, e.window)) = some (.claiming, some ⟨20140, 20390⟩) ∧
    stopRequirement t = .atMark 1420 := by decide +kernel

/-- Chapter 6.13 at 1250: no lock, and a claimant of worse key heard within the window: HOLDING. -/
theorem test_claimWindow :
    let s := { claimed { ClaimEntry.built 6 with
      state := .claiming
      size := 2
      window := some ⟨1000, 1250⟩
      claimants := [⟨21, .ba, false, 2, 1042⟩] } with time := 1250 }
    let t := after (.claimWindow 6) s
    (claimEntry t 6).map (·.state) = some .holding ∧
    t.mail.posts = [⟨.clm, .claimHeld, .num 6, .dir .ab, .num 2⟩] := by decide +kernel

/-- Chapter 3.9 at 10017: a done signal with a mark is SENT_DESPITE_CANCEL, answering 12 and 13. -/
theorem test_doneSignal :
    let s := { base with air := { base.air with
      access := .transmitting
      claimSlot := ⟨.onAir, some (.claim 15 .ab false 1), [⟨12, none⟩], [13], none, 14⟩ } }
    let t := after .doneSignal s
    t.mail.claimNotices = [⟨.sentDespiteCancel, [12, 13], some (.claim 15 .ab false 1)⟩] ∧
    t.svc.counters.sent = 1 ∧ t.air.claimSlot.state = .empty ∧ t.air.access = .idle := by decide +kernel

/-! ## States and operands that meet the hypotheses of the statements

Each theorem carries the name of the statement it stands for and lists its clauses in order. -/

theorem witness_CommandsAnswerAndKeepTheQueue :
    Instr.wheelPulse.wellFormed = true ∧ ([] : List Byte).length ≠ 421 ∧ ¬(100 ≤ 99 ∧ 99 ≤ 1500) ∧
    ¬(100 ≤ 1501 ∧ 1501 ≤ 1500) ∧ exec .powerOn base = .next (after .powerOn base) :=
  ⟨by decide, by decide, by decide, by decide, rfl⟩

/-- The base state below the dip threshold. -/
def heldBase : State := { base with held := true }

/-- CommandsAnswerAndKeepTheQueue, the step on an empty queue: nothing due, a timer and a message due, and
a held node with each kind of motor pulse. -/
theorem witness_idle_step :
    let pulse : Option MotorPulse → State := fun p => { heldBase with drv := { heldBase.drv with emitting := p } }
    let due := { mailed { Mail.empty with gestures := 1, claimRequests := [.cancel] } with
      gov := { base.gov with timer := some 0 } }
    (base.pending = [] ∧ base.held = false ∧ dueCommands base = [] ∧ ∀ k b i n, base.trl.cycle ≠ .popping k b i n) ∧
    (due.pending = [] ∧ due.gov.timer = some 0 ∧ due.mail.gestures ≠ 0 ∧ requestsOf due.mail .claim = [.cancel] ∧
      dueCommands due = [.governorUpdate, .cancelRequest .claim, .acknowledgeGesture]) ∧
    (heldBase.pending = [] ∧ heldBase.held = true ∧ heldBase.drv.emitting = none ∧
      (pulse (some ⟨1500, 0⟩)).drv.emitting = some ⟨1500, 0⟩ ∧
      (pulse (some ⟨1500, 1⟩)).drv.emitting = some ⟨1500, 0 + 1⟩) := by
  refine ⟨⟨rfl, rfl, by decide, by simp [base, Trl.reset]⟩, by decide +kernel, by decide⟩

theorem witness_HeldNodeTakesNoEvent :
    heldBase.held = true ∧ Instr.wheelPulse.wellFormed = true ∧ Instr.wheelPulse ≠ .powerOn ∧
    Instr.wheelPulse ≠ .supplyBelowDipThreshold ∧ (∀ b, Instr.wheelPulse ≠ .supplyDip b) ∧
    Instr.wheelPulse ≠ .motorPulseEnd ∧ Instr.wheelPulse ≠ .carrierAppears ∧
    Instr.wheelPulse ≠ .carrierAbsent ∧ (∀ g, Instr.wheelPulse ≠ .tagGainsLine g) ∧
    (∀ p, Instr.wheelPulse ≠ .tagLosesLine p) := by
  refine ⟨rfl, rfl, ?_, ?_, ?_, ?_, ?_, ?_, ?_, ?_⟩ <;> simp

theorem witness_PowerOnAndDipRestartTheNode : ∀ a r j, base.trl.cycle ≠ .assigning a r j := by
  simp [base, Trl.reset]

/-- The base state while this answer is being sent. -/
def answering (a : Answer) (s : State) : State := { s with svc := { s.svc with answer := some a } }

theorem witness_ServiceRestartKeepsJournalAndCounters :
    (answering .restarting base).held = false ∧ (answering .restarting base).svc.answer = some .restarting ∧
    (answering .restarting base).svc.journal.fill < 16 ∧
    (answering .restarting (journalled journal115)).held = false ∧
    (answering .restarting (journalled journal115)).svc.answer = some .restarting ∧
    (answering .restarting (journalled journal115)).svc.journal.fill = 16 := by decide

/-- A node in STARTING with its store line in this state after so many attempts. -/
def loading (store : StoreLine) (attempts : Nat) : State :=
  { base with node := { base.node with mode := .starting, store := store, loadAttempts := attempts } }

theorem witness_StoreReadsAreTriedThreeTimes :
    ((loading .retry 1).held = false ∧ (loading .retry 1).node.store = .retry) ∧
    ((loading .reading 2).held = false ∧ (loading .reading 2).node.store = .reading ∧
      (loading .reading 2).node.loadAttempts < 3) ∧
    ((loading .reading 3).held = false ∧ (loading .reading 3).node.store = .reading ∧
      (loading .reading 3).node.loadAttempts = 3) := by decide

/-- 421 bytes, 0 but at these places. -/
def bare (edits : List (Nat × Byte)) : List Byte :=
  edits.foldl (fun l e => l.set e.1 e.2) (List.replicate 421 0)

/-- The same with the sum of bytes 0..418 in its last two. -/
def summed (edits : List (Nat × Byte)) : List Byte :=
  let n := ((bare edits).map BitVec.toNat).sum
  ((bare edits).set 419 (BitVec.ofNat 8 (n / 256))).set 420 (BitVec.ofNat 8 n)

/-- The header of a sound image of station 17. -/
def header : List (Nat × Byte) := [(0, 1), (1, 1), (2, 165), (4, 17)]

/-- SINGLE sections 0 to n - 1 with END links. -/
def singlesAt (n : Nat) : List (Nat × Byte) :=
  (List.range n).flatMap (fun i => [(49 + 9 * i, 2), (49 + 9 * i + 7, 255), (49 + 9 * i + 8, 255)])

/-- Sections 0 and 1 SINGLE, 0 linking forward to 1. -/
def besideEdits : List (Nat × Byte) := header ++ singlesAt 2 ++ [(56, 1)]

/-- The tests of an image as the statement puts them. -/
abbrev SumOk (img : List Byte) : Prop := ((img.take 419).map BitVec.toNat).sum % 65536 =
  256 * (img.getD 419 0).toNat + (img.getD 420 0).toNat
abbrev FormatOk (img : List Byte) : Prop := (img.getD 0 0).toNat = 1 ∧
  256 * (img.getD 1 0).toNat + (img.getD 2 0).toNat = 421
abbrev StationOk (img : List Byte) : Prop := 1 ≤ (img.getD 4 0).toNat ∧ (img.getD 4 0).toNat ≤ 62
abbrev BadSection (img : List Byte) (i : Nat) : Prop := (img.getD (49 + 9 * i) 0).toNat > 3 ∨
  ((img.getD (49 + 9 * i) 0).toNat ≠ 0 ∧
    ∃ l ∈ [(img.getD (49 + 9 * i + 7) 0).toNat, (img.getD (49 + 9 * i + 8) 0).toNat],
      (32 ≤ l ∧ l ≤ 254) ∨ (l < 32 ∧ (img.getD (49 + 9 * l) 0).toNat = 0))
abbrev Singles (img : List Byte) : Nat :=
  ((List.range 32).filter (fun i => (img.getD (49 + 9 * i) 0).toNat == 2)).length
abbrev Beside (img : List Byte) (i : Nat) : Prop := (img.getD (49 + 9 * i) 0).toNat = 2 ∧
  ∃ j ∈ List.range 32, (img.getD (49 + 9 * j) 0).toNat = 2 ∧
    (j ∈ [(img.getD (49 + 9 * i + 7) 0).toNat, (img.getD (49 + 9 * i + 8) 0).toNat] ∨
      i ∈ [(img.getD (49 + 9 * j + 7) 0).toNat, (img.getD (49 + 9 * j + 8) 0).toNat])

theorem witness_images : (loading .reading 1).held = false ∧ (loading .reading 1).node.store = .reading ∧
    (∀ e ∈ [header, header ++ singlesAt 8, besideEdits], (summed e).length = 421) := by decide +kernel

theorem witness_image_sum : ¬SumOk (bare header) ∧
    (SumOk (summed []) ∧ ¬FormatOk (summed [])) ∧
    (SumOk (summed (header.set 3 (4, 63))) ∧ FormatOk (summed (header.set 3 (4, 63))) ∧
      ¬StationOk (summed (header.set 3 (4, 63)))) := by decide +kernel

theorem witness_image_sections :
    let x := summed (header ++ [(49 + 9 * 31, 4)])
    let y := summed (header ++ singlesAt 9)
    (SumOk x ∧ FormatOk x ∧ StationOk x ∧ BadSection x 31 ∧ ∀ j < 31, ¬BadSection x j) ∧
    (SumOk y ∧ FormatOk y ∧ StationOk y ∧ (∀ i < 32, ¬BadSection y i) ∧ Singles y > 8) := by decide +kernel

theorem witness_image_singles :
    let x := summed besideEdits
    let y := summed (header ++ singlesAt 8)
    (SumOk x ∧ FormatOk x ∧ StationOk x ∧ (∀ i < 32, ¬BadSection x i) ∧ Singles x ≤ 8 ∧ Beside x 0) ∧
    (SumOk y ∧ FormatOk y ∧ StationOk y ∧ (∀ i < 32, ¬BadSection y i) ∧ Singles y ≤ 8 ∧
      ∀ i < 32, ¬Beside y i) := by
  refine ⟨⟨?_, ?_, ?_, ?_, ?_, ?_⟩, ?_, ?_, ?_, ?_, ?_, ?_⟩ <;> decide +kernel

/-- SoundLoadHandsOutTheSettings and RateStepsComeFromTheSettings. -/
theorem witness_sound_load : structuralFault (summed (header ++ singlesAt 8)) = none := by decide +kernel

/-- SoundLoadHandsOutTheSettings, the tables of an image: each kind of section, known and unknown codes of a
filter element, and a setting whose value used differs from the value read. -/
theorem witness_image_tables :
    let b : List (Nat × Byte) → Nat → Nat := fun e i => ((bare e).getD i 0).toNat
    let e : List (Nat × Byte) := [(49, 1), (58, 2), (328, 3), (380, 2), (383, 3), (415, 3), (418, 4)]
    (b e 49 = 1 ∧ b e (49 + 9 * 1) = 2 ∧ b e (49 + 9 * 31) = 3 ∧ b e (49 + 9 * 2) = 0) ∧
    (b e (379 + 1) = 2 ∧ b e (379 + 4) = 3) ∧ (b e (379 + 5 * 7 + 1) > 2 ∨ b e (379 + 5 * 7 + 4) > 3) ∧
    (⟨5, 0, 150⟩ ∈ clamped (bare e)) ∧ (∀ x ∈ clamped (bare e), x.index ≠ 7) := by decide +kernel

theorem witness_RateStepsComeFromTheSettings :
    (∀ c ∈ [Instr.powerOn, .supplyBelowDipThreshold, .supplyDip true],
      ∃ t, exec c base = .next t) ∧
    (∃ t, exec .serviceRestart (answering .restarting base) = .next t) ∧
    (∃ t, exec .wheelPulse base = .next t) ∧ (inMode .starting).node.mode = .starting := by
  refine ⟨fun c h => ?_, ⟨_, rfl⟩, ⟨_, rfl⟩, rfl⟩
  rcases List.mem_cons.1 h with rfl | h
  · exact ⟨_, rfl⟩
  rcases List.mem_cons.1 h with rfl | h
  · exact ⟨_, rfl⟩
  · rw [List.mem_singleton.1 h]; exact ⟨_, rfl⟩

/-- A node in this mode that has a function change to take, its driver's stick centred. -/
def switching (m : Mode) (new : FnPosition) : State :=
  { inMode m with
    mail := { Mail.empty with nodeChanges := [⟨.convoy, new⟩] }
    drv := { base.drv with throttleWidth := 1500 } }

/-- What stands in the way of a park, as the statement puts it. -/
abbrev Moving (s : State) : Prop := s.gov.speed ≠ 0 ∨ s.pos.speed ≠ 0
abbrev Halted (s : State) : Prop :=
  (s.cvy.own.trailerLoss ∨ s.cvy.own.standoff ∨ s.cvy.own.intrusion) ∨ s.cvy.foreign ≠ []
abbrev Centred (s : State) : Prop :=
  s.node.settings.centreTrim - s.node.settings.deadband ≤ s.drv.throttleWidth ∧
    s.drv.throttleWidth ≤ s.node.settings.centreTrim + s.node.settings.deadband
abbrev Claimed (s : State) : Prop := ∃ e ∈ s.clm.entries, e.state ≠ .none

/-- ListenAndParkChangeTheMode: on entering RUNNING, from LISTENING and from PARKED, the approach to section 6
is made at once; section 5 has no claim entry, as ApproachClaimsOrRides asks. -/
theorem witness_entering_running_claims :
    let near := placed ⟨5, .fwd, 1500, .valid, 0, none, 0⟩
    let l := { near with node := { (inMode .listening).node with listenTimer := some 1 } }
    let p := { near with
      node := (inMode .parked).node
      mail := (switching .parked .convoy).mail
      air := { near.air with generator := some 4357 } }
    (l.held = false ∧ l.node.mode = .listening ∧ l.pos.record.validity ≠ .none ∧ claimEntry l 5 = none) ∧
    (p.held = false ∧ p.node.mode = .parked ∧ p.pos.record.validity ≠ .none ∧ p.air.generator = some 4357) ∧
    (∃ t, exec .listenTimer l = .next t ∧ (claimEntry t 6).map (·.state) = some .claiming) ∧
    (∃ t, exec .nodeFunctionChange p = .next t ∧ (claimEntry t 6).map (·.state) = some .claiming ∧
      t.mail.nodeChanges = []) := by
  refine ⟨by decide +kernel, by decide +kernel, ⟨_, rfl, ?_⟩, ⟨_, rfl, ?_, ?_⟩⟩ <;> decide +kernel

theorem witness_ListenAndParkChangeTheMode :
    let l := { inMode .listening with node := { (inMode .listening).node with listenTimer := some 1 } }
    let p := switching .running .park
    (l.held = false ∧ l.node.mode = .listening ∧ l.node.listenTimer.isSome) ∧
    (Moving { p with gov := { p.gov with speed := 1 } }) ∧
    (let s := { p with cvy := { p.cvy with own := ⟨true, false, false⟩, foreign := [(4, .standoff)] } };
      ¬Moving s ∧ Halted s) ∧
    (let s := { p with drv := { p.drv with failsafe := true } };
      ¬Moving s ∧ ¬Halted s ∧ s.drv.failsafe = true) ∧
    (let s := { p with drv := { p.drv with throttleWidth := 1526 } };
      ¬Moving s ∧ ¬Halted s ∧ s.drv.failsafe = false ∧ ¬Centred s) ∧
    (let s := { p with clm := { p.clm with entries := [{ ClaimEntry.built 6 with state := .waiting }] } };
      ¬Moving s ∧ ¬Halted s ∧ s.drv.failsafe = false ∧ Centred s ∧ Claimed s) ∧
    (p.held = false ∧ p.mail.nodeChanges = [⟨.convoy, .park⟩] ∧ p.node.mode = .running ∧
      ¬Moving p ∧ ¬Halted p ∧ p.drv.failsafe = false ∧ Centred p ∧ ¬Claimed p) ∧
    ((switching .parked .convoy).node.mode = .parked ∧ FnPosition.convoy ≠ .park) ∧
    ((switching .running .convoy).node.mode = .running) := by
  refine ⟨?_, ?_, ?_, ?_, ?_, ?_, ?_, ?_, ?_⟩ <;> decide +kernel

/-- A window that numbers sections from 31, one tag each. -/
def high : TagWindow := ⟨true, 0x400, 0xFFE, 31, 0⟩

theorem witness_FirstMatchingTagWindowDecides :
    let hits : TagWindow → TagNumber → Bool := fun w tag => w.enable && (tag &&& w.mask == w.base &&& w.mask)
    (∀ w ∈ windows, ¬hits w 0xFFF) ∧
    (windows = windows.take 2 ++ ⟨true, 0x300, 0xF00, 8, 4⟩ :: [] ∧
      (∀ v ∈ windows.take 2, ¬hits v 0x35A) ∧ hits ⟨true, 0x300, 0xF00, 8, 4⟩ 0x35A) ∧
    (hits high 0x401 ∧ (0x401#12 &&& ~~~high.mask).toNat = 1 ∧ high.sectionBase + 1 > 31) ∧
    (hits high 0x400 ∧ (0x400#12 &&& ~~~high.mask).toNat = 0 ∧ high.sectionBase ≤ 31 ∧
      (sectionAt map 31).kind = .absent ∧ high.markBits = 0) ∧
    ((0x35F#12 &&& ~~~0xF00#12).toNat = 95 ∧ 8 + 95 / 2 ^ 4 = 13 ∧ (sectionAt map 13).kind ≠ .absent ∧
      95 % 2 ^ 4 * (sectionAt map 13).spacing > (sectionAt map 13).length) ∧
    ((0x35C#12 &&& ~~~0xF00#12).toNat = 92 ∧ 8 + 92 / 2 ^ 4 = 13 ∧
      92 % 2 ^ 4 * (sectionAt map 13).spacing = (sectionAt map 13).length) := by decide +kernel

theorem witness_TagReadsAreRefusedOrAccepted :
    let at13 : Facing → Validity → State := fun f v => placed ⟨13, f, 2000, v, 0, some 0x35A, 0⟩
    let s := at13 .fwd .valid
    let place : TagNumber → Translation := translateTag s.pos.windows s.pos.sections
    (s.held = false ∧ (inMode .starting).node.mode = .starting) ∧ place 0x3FA = .unmapped ∧ place 0x35F = .badMark ∧
    (place 0x35A = .place 13 2000 ∧ s.pos.record.lastTag = some 0x35A ∧ s.pos.record.travel < 500) ∧
    (place 0x359 = .place 13 1800 ∧ s.pos.record.lastTag ≠ some 0x359 ∧ 1800 + 100 < s.pos.record.distance) ∧
    (place 0x35B = .place 13 2200 ∧ s.pos.record.validity ≠ .none ∧ s.pos.record.sec = 13 ∧
      ¬(2200 + 100 < s.pos.record.distance)) ∧
    (place 0x360 = .place 14 0 ∧ (sectionAt map 14).nextRev = some s.pos.record.sec) ∧
    (place 0x34F = .place 12 3000 ∧ (sectionAt map 12).nextRev ≠ some 13 ∧
      (sectionAt map 12).nextFwd = some s.pos.record.sec) ∧
    (translateTag [⟨true, 0, 0, 5, 0⟩] map 0 = .place 5 0 ∧ (sectionAt map 5).nextRev ≠ some 13 ∧
      (sectionAt map 5).nextFwd ≠ some 13) ∧
    ((at13 .fwd .none).pos.record.validity = .none) := by decide +kernel

theorem witness_PulsesAndBinsMeasureTravel :
    let s := placed ⟨5, .fwd, 1200, .valid, 0, none, 0⟩
    let l := placed ⟨5, .fwd, 1200, .valid, 3000, none, 15⟩
    (s.held = false ∧ s.pos.bins = 0 :: [0, 0, 0, 0]) ∧
    ((placed ⟨5, .fwd, 1200, .none, 0, none, 0⟩).pos.record.validity = .none) ∧
    (s.pos.record.validity ≠ .none ∧
      ¬(s.pos.record.validity = .valid ∧ min 65535 (0 + (0 + 48) / 16) > s.node.settings.lostDistance)) ∧
    (l.pos.record.validity = .valid ∧ min 65535 (3000 + (15 + 48) / 16) > l.node.settings.lostDistance) ∧
    (s.pos.binTimer.isSome ∧ s.pos.bins = [0, 0, 0, 0, 0]) := by decide +kernel

theorem witness_PositionCheckLeavesOwnSectionHeld :
    let s := placed ⟨6, .fwd, 0, .valid, 0, none, 0⟩
    (inMode .parked).node.mode ≠ .running ∧
    (s.node.mode = .running ∧ s.pos.record.validity ≠ .none ∧ some 5 ≠ some s.pos.record.sec ∧
      (claimEntry (positionCheck (some 5) none s) 6).isSome) := by decide +kernel

/-- The base node come into section 6, FWD, with these claim entries. -/
def entered (es : List ClaimEntry) : State :=
  { base with
    pos := { base.pos with record := ⟨6, .fwd, 0, .valid, 0, none, 0⟩ }
    clm := { base.clm with entries := es } }

/-- An entry of a section the node is clearing, its tail still in it. -/
def clearing (sec tail : Nat) : ClaimEntry :=
  { ClaimEntry.built sec with state := .holding, tail := tail, tailLimit := 250 }

/-- PositionCheckLeavesOwnSectionHeld, the entry table and the full table. -/
theorem witness_entry_table :
    let w : Window := ⟨20000, 20250⟩
    let e : ClaimEntry := { ClaimEntry.built 6 with state := .claiming, size := 1, window := some w }
    let beaten := { e with claimants := [⟨21, .ba, true, 1, 20100⟩] }
    let s := entered [e, ClaimEntry.built 15]
    let waits : ClaimEntry := { ClaimEntry.built 15 with state := .waiting }
    (s.node.mode = .running ∧ s.pos.record.validity ≠ .none ∧ some 5 ≠ some s.pos.record.sec ∧
      claimEntry s 5 = none ∧ claimEntry s s.pos.record.sec = some e ∧
      (nextElement s).map (·.sec) = some 7 ∧ claimEntry s 7 = none ∧
      (s.clm.entries.map (·.sec)).Pairwise (· < ·) ∧ e.holders = [] ∧ e.noted = none ∧
      (∀ g ∈ s.clm.entries, g.sec ≠ 6 → g.state = .none ∧ g.tail = 0 ∧ g.noted = none)) ∧
    (evaluate s e w = none ∧ evaluate s beaten w ≠ none) ∧
    ((ClaimEntry.built 6).dir = .ab ∧ s.pos.record.facing = .fwd) ∧
    (∀ x ∈ [(5, 3), (3, 5), (4, 4)], let u := entered [ClaimEntry.built 6, clearing 15 x.1, clearing 20 x.2];
      claimEntry u 15 = some (clearing 15 x.1) ∧ claimEntry u 20 = some (clearing 20 x.2) ∧ 15 < 20 ∧
      (u.clm.entries.map (·.sec)).Pairwise (· < ·) ∧ 0 < x.1 ∧ 0 < x.2) ∧
    (let u := entered [ClaimEntry.built 6, waits, clearing 20 3];
      claimEntry u 15 = some waits ∧ waits.tail = 0 ∧ waits.noted = none ∧ claimEntry u 20 = some (clearing 20 3)) := by
  decide +kernel

/-- A POSITION of station 4, solo in section 5 at 2300. -/
def beacon4 : Beacon := ⟨true, false, false, false, false, 0, 0, 0, 1, 5, .fwd, 2300, 414, 560, []⟩

theorem beacon4_inRange : BeaconInRange beacon4 := by
  constructor <;> simp [beacon4]

/-- TelegramsReadBackAsSent, one telegram of each kind at the ends of its ranges. -/
theorem witness_TelegramsReadBackAsSent :
    TelegramInRange ⟨4, 63, .position beacon4⟩ ∧ TelegramInRange ⟨62, 0, .claim 31 .ba true 8⟩ ∧
    TelegramInRange ⟨1, 63, .release [0, 31]⟩ ∧ TelegramInRange ⟨9, 4, .halt .intrusion⟩ ∧
    TelegramInRange ⟨9, 4, .resume⟩ := by
  refine ⟨⟨by decide, by decide, beacon4_inRange⟩, ⟨by decide, by decide, ?_⟩, ⟨by decide, by decide, ?_⟩,
    ⟨by decide, by decide, trivial⟩, ⟨by decide, by decide, trivial⟩⟩ <;> simp [MatterInRange]

theorem witness_AcceptedBodiesAreInRange :
    (∀ b ∈ [[2, 42, 21, 0, 15, 3], [3, 42, 21, 0, 1, 31], [4, 42, 21, 129, 3], [5, 42, 21, 129],
      bodyOf 42 ⟨4, 63, .position beacon4⟩], (readBody b).isSome) := by decide +kernel

theorem witness_CheckFindsOddAndBurstErrors :
    let frame := frameOf 42 ⟨9, 4, .halt .trailerLoss⟩
    PassesCheck frame ∧ [0, 0, 0x10, 0, 0, 0, 0].length = frame.length ∧
    bitsSet [0, 0, 0x10, 0, 0, 0, 0] % 2 = 1 ∧
    frame = frame.take 2 ++ [frame[2]!, frame[3]!] ++ frame.drop 4 ∧ (0x81#8 : Byte) ≠ 0 := by
  refine ⟨?_, ?_, ?_, ?_, ?_⟩ <;> first | decide +kernel | (unfold PassesCheck; decide +kernel)

/-- The base state while a frame is being collected. -/
def collecting (n : Nat) (body : List Byte) (r : Byte) : State :=
  { base with air := { base.air with assembler := .collecting n body r 20100, byteGap := some 5 } }

theorem witness_AssemblerTakesBytes :
    (base.held = false ∧ base.node.mode = .running ∧ base.air.assembler = .idle ∧
      (4 ≤ (4#8).toNat ∧ (24#8).toNat ≤ 24) ∧ ¬(4 ≤ (3#8).toNat) ∧ ¬((25#8).toNat ≤ 24)) ∧
    ((inMode .starting).node.mode = .starting) ∧
    ((collecting 4 [5] 0).air.assembler = .collecting 4 [5] 0 20100 ∧ [(5 : Byte)].length < 4) := by decide

/-- The body of CLAIM from 21 for section 15, AB, size 3, in layout 42. -/
def claimBody : List Byte := [2, 42, 21, 0, 15, 3]

theorem witness_CompletionChecksDecideInOrder :
    let ok : List Byte → Bool := fun b => decide (byteOf b 1 = 42 ∧ 1 ≤ byteOf b 0 ∧ byteOf b 0 ≤ 5)
    let clash := { collecting 6 claimBody 0 with air := { (collecting 6 claimBody 0).air with clashPosted := true } }
    ((collecting 6 claimBody 0).held = false ∧ claimBody.length = 6 ∧
      (collecting 6 claimBody 0).air.layoutCode = some (byteOf claimBody 1)) ∧
    (1#8 ≠ 0#8) ∧ (some 42 ≠ some (byteOf [2, 43, 21, 0, 15, 3] 1)) ∧
    (byteOf [6, 42, 21, 0] 1 = 42 ∧ ¬(byteOf [6, 42, 21, 0] 0 ≤ 5)) ∧
    (ok [2, 42, 21, 0, 15, 9] ∧ readBody [2, 42, 21, 0, 15, 9] = none) ∧
    (ok [2, 42, 9, 0, 15, 3] ∧ (readBody [2, 42, 9, 0, 15, 3]).map (·.source) = base.air.station ∧
      clash.air.clashPosted = true ∧ base.air.clashPosted = false) ∧
    (ok [5, 42, 21, 132] ∧ readBody [5, 42, 21, 132] = some ⟨21, 4, .resume⟩ ∧ 4 ≠ base.cvy.convoy) ∧
    (ok claimBody ∧ readBody claimBody = some ⟨21, 0, .claim 15 .ab false 3⟩ ∧ base.air.station ≠ some 21) := by
  decide +kernel

theorem witness_FirstMatchingFilterElementDecides :
    let s := { base with air := { base.air with filter := filter2 } }
    (33 ≤ 63 ∧ s.air.filter = filter2.take 1 ++ ⟨true, .range, 30, 39, .reject⟩ :: filter2.drop 2 ∧
      ¬(33 = (4#6).toNat ∨ 33 = (5#6).toNat) ∧ ((30#6).toNat ≤ 33 ∧ 33 ≤ (39#6).toNat)) ∧
    (¬(12 = (4#6).toNat ∨ 12 = (5#6).toNat) ∧ ¬((30#6).toNat ≤ 12 ∧ 12 ≤ (39#6).toNat) ∧
      ¬(∀ i < 6, (0x38#6).getLsbD i = true → Nat.testBit 12 i = (0x28#6).getLsbD i)) := by decide +kernel

theorem witness_SentFramesReachTheirOwners :
    TelegramInRange ⟨4, 63, .position beacon4⟩ ∧ base.held = false ∧ base.node.mode = .running ∧
    base.air.assembler = .idle ∧ base.air.layoutCode = some 42 ∧ base.air.station ≠ some 4 ∧
    ((Matter.position beacon4).isHalt || (Matter.position beacon4).isResume) = false ∧
    (let s := { base with cvy := { base.cvy with role := .follower, convoy := 4, rank := 2, pred := 4 } };
      (Matter.resume.isHalt || Matter.resume.isResume) = true ∧ 4 ≠ 0 ∧ 4 = s.cvy.convoy) :=
  ⟨witness_TelegramsReadBackAsSent.1, by decide⟩

/-- The base state with this POSITION of station 4 waiting for PEER. -/
def peerQueued (table : List (Option PeerEntry)) (b : Beacon) : State :=
  { base with peer := ⟨table, some 100⟩, air := { base.air with peerQueue := [(⟨⟨4, 63, .position b⟩, 20100⟩, .accept)] } }

/-- Twelve entries of stations 40 to 51 far from the node. -/
def full : List (Option PeerEntry) :=
  (List.range 12).map (fun i => peer49 (40 + i) 14 .fwd 0 0 300 true false (20000 + BitVec.ofNat 16 i))

theorem witness_PeerTableTakesAPosition :
    let s := peerQueued full beacon4
    let far := { beacon4 with sec := 14 }
    (s.held = false ∧ s.air.peerQueue = (⟨⟨4, 63, .position beacon4⟩, 20100⟩, .accept) :: []) ∧
    ((peerQueued table49 beacon4).peer.entries[0]? = some (peer49 4 5 .fwd 2300 414 560 true false 20000)) ∧
    (∀ o ∈ (peerQueued (none :: table49.drop 1) beacon4).peer.entries, ∀ e, o = some e → e.station ≠ 4) ∧
    ((∀ o ∈ s.peer.entries, ∀ e, o = some e → e.station ≠ 4) ∧ none ∉ s.peer.entries ∧ relevant s beacon4 = true ∧
      (∀ o ∈ s.peer.entries, ∀ v, o = some v → v.pinned = false) ∧ rigAhead s = none ∧
      (∀ o ∈ s.peer.entries, ∀ v, o = some v → age s.time v.received ≤ age s.time 20000)) ∧
    relevant s far = false := by decide +kernel

theorem witness_RigAheadIsTheNearest :
    let e21 : PeerEntry := ⟨21, 0, 0, 0, 6, .rev, 400, 300, 450, true, false, false, false, false, false, 20090⟩
    (∀ x ∈ chain node49, x.sec = e21.sec → x.facing ≠ e21.facing) ∧ (rigAhead base = none) ∧
    (rigAhead node49).isSome := by decide +kernel

/-- RigAheadIsTheNearest: the elements of the chain, raw offsets in the own and a further section, and gaps. -/
theorem witness_chain_and_gaps :
    let e4 : PeerEntry := ⟨4, 0, 0, 0, 5, .fwd, 2300, 414, 560, true, false, false, false, false, false, 20000⟩
    let e12 : PeerEntry := ⟨12, 0, 0, 0, 7, .fwd, 500, 0, 900, true, true, false, false, false, false, 18900⟩
    ((placed ⟨5, .fwd, 0, .none, 0, none, 0⟩).pos.record.validity = .none ∧ node49.pos.record.validity ≠ .none) ∧
    ((chain node49).map (·.sec) = [5, 6, 7] ∧ linkFrom (sectionAt map 5) .fwd = some 6 ∧
      (chain node49)[2]?.isSome ∧ (chain (placed ⟨4, .fwd, 0, .valid, 0, none, 0⟩)).length = 1) ∧
    (e4.valid = true ∧ peerFresh node49 e4 = true ∧ (chain node49)[0]?.map (·.sec) = some e4.sec ∧
      (chain node49)[0]?.map (·.facing) = some e4.facing) ∧
    (e12.valid = true ∧ peerFresh node49 e12 = true ∧ (chain node49)[2]?.map (·.sec) = some e12.sec ∧
      (chain node49)[2]?.map (·.facing) = some e12.facing) ∧
    (node49.peer.entries[0]? = some (some e4) ∧ node49.peer.entries[2]? = some (some e12) ∧
      rawOffset node49 e4 = some 1157 ∧ rawOffset node49 e12 = some 3500) ∧
    (∀ o ∈ node49.peer.entries, ∀ e, o = some e → e.station ≠ 50) ∧
    (∃ o ∈ node49.peer.entries, ∃ e, o = some e ∧ rawOffset node49 e = none) := by
  refine ⟨by decide, by decide +kernel, by decide +kernel, by decide +kernel, by decide +kernel, by decide, ?_⟩
  exact ⟨_, List.mem_cons_of_mem _ (List.mem_cons_self ..), _, rfl, by decide +kernel⟩

/-- A member of convoy 9 that follows station 9, last heard at this time. -/
def member17 (t : Time) : Member := ⟨17, 2, 9, 5, .fwd, 600, false, t⟩

/-- The base node as the leader of convoy 9. -/
def leading (ms : List Member) : State :=
  { base with cvy := { base.cvy with role := .leader, convoy := 9, rank := 1, members := ms } }

/-- The base node as a follower of station 4 in convoy 4. -/
def following (ms : List Member) : State :=
  { base with cvy := { base.cvy with role := .follower, convoy := 4, rank := 2, pred := 4, members := ms } }

theorem witness_SweepsRemoveWhatHasLapsed :
    (base.held = false ∧ base.peer.sweep.isSome ∧ base.cvy.sweep.isSome ∧ base.cvy.role ≠ .leader) ∧
    ((leading [member17 20000]).cvy.role = .leader ∧ (member17 20000).pred = ownStation base ∧
      age base.time (member17 20000).lastHeard ≤ base.node.settings.peerLapse) ∧
    ((leading [member17 10000]).cvy.role = .leader ∧
      ¬(age base.time (member17 10000).lastHeard ≤ base.node.settings.peerLapse)) ∧
    (base.clm.sweep.isSome ∧ (base.clm.entries.map (·.sec)).Nodup) := by decide

/-- This state with a POSITION waiting for CVY. -/
def cvyQueued (s : State) (st : Nat) (b : Beacon) (t : Time) : State :=
  { s with air := { s.air with cvyQueue := [⟨⟨st, 63, .position b⟩, t⟩] } }

theorem witness_BeaconsMakeLeadersAndMoveFollowers :
    let fresh : Time → Bool := fun t => decide (age base.time t ≤ base.node.settings.peerLapse ∧ age base.time t ≤ 32767)
    ((cvyQueued base 17 beacon4 20100).air.cvyQueue = ⟨⟨17, 63, .position beacon4⟩, 20100⟩ :: []) ∧
    (fresh 20100 ∧ ¬fresh 19000) ∧ (base.cvy.role = .solo ∧ ownStation base = 9) ∧
    ((following []).cvy.role = .follower ∧ (following []).cvy.pred = 4 ∧ 8 + 1 > 8 ∧ 7 + 1 ≤ 8 ∧
      5 ≠ (following []).cvy.convoy ∧ 4 = (following []).cvy.convoy) := by decide

/-- Seven members of convoy 4, the last of rank 8. -/
def seven : List Member :=
  (List.range 7).map (fun i => ⟨20 + i, 2 + i, 4, 5, .fwd, 600, false, 20000⟩)

theorem witness_MembershipFollowsTheConvoy :
    let s := leading [member17 20000]
    let f := following seven
    (isFresh s.time 20100 s.node.settings.peerLapse = true ∧ s.cvy.role = .leader) ∧
    (f.cvy.role = .follower ∧ 30 ≠ f.cvy.pred) ∧
    (s.cvy.convoy ≠ 0 ∧ ∀ m ∈ s.cvy.members, m.station ≠ 30) ∧
    (∀ m ∈ s.cvy.members, m.station ≠ 30) ∧ s.cvy.members.length < 7 ∧
    (f.cvy.members.length ≥ 7 ∧ (∀ m ∈ f.cvy.members, m.station ≠ 30) ∧
      f.cvy.members = seven.take 6 ++ [⟨26, 8, 4, 5, .fwd, 600, false, 20000⟩] ∧ 8 ≤ 8 ∧ 7 < 8) ∧
    (∃ m ∈ s.cvy.members, m.station = 17 ∧ m.pred = ownStation s) ∧
    (let g := leading [{ member17 20000 with pred := 4 }];
      ∃ m ∈ g.cvy.members, m.station = 17 ∧ m.pred ≠ ownStation g) := by decide +kernel

/-- BeaconsMakeLeadersAndMoveFollowers and MembershipFollowsTheConvoy, the roster behind a pred and the
replacement in a full one. -/
theorem witness_roster :
    let f := following seven
    let last : Member := ⟨26, 8, 4, 5, .fwd, 600, false, 20000⟩
    let lead := { leading seven with cvy := { (leading seven).cvy with convoy := 9 } }
    (¬(∃ m ∈ f.cvy.members, m.station = f.cvy.pred) ∧ f.cvy.members.length ≥ 7 ∧
      f.cvy.members = seven.take 6 ++ [last] ∧ 1 < last.rank ∧ ¬(8 < last.rank)) ∧
    ((following []).cvy.members.length < 7 ∧ ∃ m ∈ (following [{ last with station := 4 }]).cvy.members, m.station = 4) ∧
    (lead.cvy.role = .leader ∧ lead.cvy.members = seven.take 6 ++ [last] ∧ (∀ m ∈ seven, m.station ≠ 30) ∧ 7 < last.rank ∧
      ∀ m ∈ insertMember lead.pos.sections ⟨30, 7, 4, 5, .fwd, 600, false, 20100⟩ (seven.take 6),
        m.pred ≠ ownStation lead) ∧
    (let g := leading [{ member17 20000 with pred := 4 }];
      ∀ m ∈ g.cvy.members, m.station = 17 → m.pred = 4) := by decide +kernel

theorem witness_RoleCheckJoinsAndLeaves :
    let f := { node49 with
      cvy := (following []).cvy
      drv := { base.drv with position := .convoy } }
    let solo := { node49 with drv := { base.drv with position := .convoy } }
    (leading []).cvy.role = .leader ∧ (base.cvy.role = .solo ∧ rigAhead base = none) ∧
    (solo.cvy.role = .solo ∧ (rigAhead solo).any (fun a => a.gap ≤ solo.node.settings.joinGap ∧
      a.entry.parked = false ∧ a.entry.halted = false ∧ a.entry.rank < 8 ∧ a.entry.convoy ≠ 9 ∧
      a.entry.pred ≠ 9) ∧ solo.pos.record.validity = .valid ∧ haltSetEmpty solo.cvy = true) ∧
    ((following []).drv.position ≠ .convoy) ∧
    (peerOf { f with peer := base.peer } 4 = none) ∧
    ((peerOf f 4).any (peerFresh f) ∧
      (gapTo { f with node := { f.node with settings := { Settings.defaults with breakGap := 500 } } } 4) = some 597) ∧
    (let g := { f with cvy := { f.cvy with pred := 12 } };
      (peerOf g 12).any (peerFresh g) ∧ gapTo g 12 = some 2600 ∧ 2600 ≤ g.node.settings.breakGap ∧
      (rigAhead g).any (fun a => a.entry.station ≠ 12)) ∧
    ((rigAhead f).all (fun a => a.entry.station == 4) ∧ 597 ≤ f.node.settings.breakGap) := by decide +kernel

theorem witness_HaltsAreHeardAndReposted :
    let q : Matter → State := fun m =>
      { following [] with air := { base.air with cvyQueue := [⟨⟨4, 4, m⟩, 20100⟩] } }
    let halted : List (Nat × HaltCause) → State := fun l => { q .resume with cvy := { (following []).cvy with foreign := l } }
    (q (.halt .standoff)).air.cvyQueue = [⟨⟨4, 4, .halt .standoff⟩, 20100⟩] ∧
    (q .resume).air.cvyQueue = [⟨⟨4, 4, .resume⟩, 20100⟩] ∧ 5 ≠ (q .resume).cvy.convoy ∧ 4 = (q .resume).cvy.convoy ∧
    (∃ x ∈ (halted [(4, .trailerLoss)]).cvy.foreign, x.1 = 4) ∧ (halted []).cvy.foreign.length < 7 ∧
    (halted ((List.range 7).map (fun i => (10 + i, .trailerLoss)))).cvy.foreign.length ≥ 7 ∧
    (let n : Notice := ⟨.aborted, [3], some (.halt .standoff)⟩;
      let s := { following [] with mail := { Mail.empty with haltNotices := [n] } }
      s.held = false ∧ s.mail.haltNotices = n :: [] ∧ s.cvy.retryUsed = false ∧ s.cvy.role ≠ .solo ∧
        base.cvy.role = .solo) := by decide

theorem witness_OwnCausesRaiseAndLiftHalts :
    let m : Bool → HaltCause → Mail := fun b c => { Mail.empty with trlCauses := [⟨b, c⟩], gestures := 1 }
    (m true .standoff).trlCauses = ⟨true, .standoff⟩ :: [] ∧ (m false .standoff).trlCauses = ⟨false, .standoff⟩ :: [] ∧
    (m true .standoff).gestures = 0 + 1 ∧
    (⟨false, false, false⟩ : OwnCauses) ≠ ⟨false, true, false⟩ ∧ base.cvy.role = .solo ∧
    (following []).cvy.role ≠ .solo ∧ base.cvy.own = ⟨false, false, false⟩ := by decide

theorem witness_ApproachClaimsOrRides :
    let far := placed ⟨5, .fwd, 1200, .valid, 0, none, 0⟩
    let near := placed ⟨5, .fwd, 1500, .valid, 0, none, 0⟩
    let rides := { near with
      cvy := (following []).cvy
      clm := { near.clm with entries := [{ ClaimEntry.built 6 with
        holders := [⟨4, .ab, false, 2, false, 20100⟩] }, ClaimEntry.built 15] } }
    (near.node.mode = .running ∧ near.pos.record.validity ≠ .none ∧ (near.clm.entries.map (·.sec)).Nodup ∧
      (∀ e ∈ near.clm.entries, e.state = .none ∧ e.tail = 0 ∧ e.noted = none)) ∧
    (boundary far = some 1800 ∧ ¬(1800 ≤ far.node.settings.approachDistance)) ∧
    ((nextElement (placed ⟨13, .fwd, 2000, .valid, 0, none, 0⟩)).all (fun x => x.kind ≠ .single)) ∧
    (boundary near = some 1500 ∧ 1500 ≤ near.node.settings.approachDistance ∧
      (nextElement near).map (fun x => (x.sec, x.kind)) = some (6, .single) ∧
      claimEntry near 6 = some (ClaimEntry.built 6) ∧ near.clm.posts.length ≤ 1) ∧
    (rides.cvy.role = .follower ∧ (claimEntry rides 6).any (fun e => e.holders.any (fun h =>
      h.station = rides.cvy.pred ∧ h.dir = .ab ∧ age rides.time h.lastHeard ≤ rides.node.settings.peerLapse))) := by
  decide +kernel

/-- ApproachClaimsOrRides: the deferred approach, one entry clearing, and an entry that leaves the approach or
stands within the 100 mm beyond it. -/
theorem witness_deferred_and_left :
    let at_ : Nat → List ClaimEntry → State := fun d es => { placed ⟨5, .fwd, d, .valid, 0, none, 0⟩ with
      clm := { base.clm with entries := es } }
    let two := at_ 1500 [ClaimEntry.built 6, clearing 14 3, clearing 15 5]
    let one := at_ 1500 [ClaimEntry.built 6, clearing 15 5]
    let claim : ClaimEntry := { ClaimEntry.built 6 with state := .claiming, window := some ⟨20000, 20250⟩ }
    (∀ s ∈ [two, one], s.node.mode = .running ∧ (s.clm.entries.map (·.sec)).Nodup ∧ claimEntry s 6 = some (ClaimEntry.built 6) ∧
      (nextElement s).map (fun x => (x.sec, x.kind)) = some (6, .single) ∧
      ∀ e ∈ s.clm.entries, e.noted = none ∧ (e.state = .none ∨ (e.state = .holding ∧ 0 < e.tail ∧ e.holders = []))) ∧
    ((two.clm.entries.filter (fun e => e.state == .holding)).length = 2 ∧
      (one.clm.entries.filter (fun e => e.state == .holding)).length = 1) ∧
    (let s := at_ 1399 [claim, ClaimEntry.built 15];
      boundary s = some 1601 ∧ s.node.settings.approachDistance + 100 < 1601 ∧ claimEntry s 6 = some claim ∧
      6 ≠ s.pos.record.sec ∧ claim.tail = 0 ∧ claim.noted = none ∧
      ∀ g ∈ s.clm.entries, g.sec ≠ 6 → g.state = .none ∧ g.tail = 0 ∧ g.noted = none) ∧
    (let s := placed ⟨13, .fwd, 2000, .valid, 0, none, 0⟩;
      (nextElement s).map (·.sec) = some 14 ∧ claimEntry s 14 = none) ∧
    (let s := at_ 1400 [claim, ClaimEntry.built 15];
      boundary s = some 1600 ∧ ¬(s.node.settings.approachDistance + 100 < 1600) ∧
      (nextElement s).map (·.sec) = some 6) ∧
    (∀ st ∈ [ClaimState.waiting, .riding, .holding], ({ ClaimEntry.built 6 with state := st } : ClaimEntry).tail = 0 ∧ ({ ClaimEntry.built 6 with state := st } : ClaimEntry).noted = none) := by decide +kernel

theorem witness_ExitSetsTheTailAndTheTailReleases :
    let back := { base with gov := { base.gov with direction := .reverse } }
    let stood : ClaimEntry := { ClaimEntry.built 6 with state := .standoff, cause := some .standoff, tail := 3 }
    (base.gov.direction = .forward ∧ back.gov.direction = .reverse) ∧
    (({ ClaimEntry.built 6 with state := .holding } : ClaimEntry).state = .holding) ∧
    (stood.state = .standoff ∧ stood.cause = some .standoff ∧
      ∀ g ∈ base.clm.entries, g.sec ≠ stood.sec → g.state ≠ .standoff) ∧
    ((ClaimEntry.built 6).tail = 0 ∧ 2 < stood.tail ∧ 0 < stood.tail ∧ stood.tail ≤ 3) := by decide

/-- ExitSetsTheTailAndTheTailReleases: a tag of section 7 read in a held section 6, and a pulse with a tail
behind, in LOST, in VALID within the lost distance, and in VALID at the pulse that goes beyond it, which
posts POSITION_LOST and runs the tail down by its 15 mm. -/
theorem witness_exit_and_tail :
    let held : ClaimEntry := { ClaimEntry.built 6 with state := .holding }
    let s := { claimed held with pos := { base.pos with record := ⟨6, .fwd, 1200, .valid, 600, some 0x0C8, 0⟩ } }
    let q := acceptTag s.pos.sections s.pos.record s.gov.direction 0x0E0 7 0
    let at7 : Validity → Nat → State := fun v travel => { claimed (clearing 6 40) with
      pos := { base.pos with record := ⟨7, .fwd, 100, v, travel, some 0x0E0, 0⟩ } }
    let mm := (0 + base.node.settings.mmPerPulse) / 16
    let limit := base.node.settings.lostDistance
    (s.held = false ∧ s.node.mode = .running ∧ (s.clm.entries.map (·.sec)).Nodup ∧ claimEntry s 6 = some held ∧
      held.holders = [] ∧ held.noted = none ∧
      ∀ g ∈ s.clm.entries, g.sec ≠ 6 → g.state = .none ∧ g.tail = 0 ∧ g.noted = none) ∧
    (translateTag s.pos.windows s.pos.sections 0x0E0 = .place 7 0 ∧ s.pos.record.lastTag ≠ some 0x0E0 ∧
      s.pos.record.sec = 6 ∧ claimEntry s 7 = none ∧ held.tail = 0 ∧ 0 < rigLength s ∧
      (nextElement (placed q)).map (·.sec) = some 8 ∧ claimEntry s 8 = none) ∧
    (∀ u ∈ [at7 .lost (limit + 1), at7 .valid 100, at7 .valid limit], u.pos.record.validity ≠ .none ∧
      u.pos.record.sec ≠ 6 ∧ claimEntry u 7 = none ∧ claimEntry u 6 = some (clearing 6 40) ∧
      0 < (clearing 6 40).tail ∧ (clearing 6 40).tail ≤ (clearing 6 40).tailLimit ∧ (clearing 6 40).state = .holding ∧
      (nextElement u).map (·.sec) = some 8 ∧ claimEntry u 8 = none) ∧
    (0 < mm ∧ min 65535 (100 + mm) ≤ limit ∧ limit < min 65535 (limit + mm)) ∧
    (∃ t, exec .wheelPulse (at7 .valid limit) = .next t ∧ (claimEntry t 6).map (·.tail) = some (40 - mm) ∧
      t.mail.posts = [⟨.pos, .positionLost, .num 7, .num (100 + mm), .num (limit + mm)⟩]) := by
  refine ⟨by decide +kernel, by decide +kernel, by decide +kernel, by decide +kernel, _, rfl, ?_, ?_⟩ <;> decide +kernel

/-- A fresh opposite holder of section 6, inside or not, of this convoy size. -/
def rival (inside : Bool) (size : Nat) : Holder := ⟨21, .ba, false, size, inside, 20100⟩

/-- An entry of section 6 in this state with these holders. -/
def entry6 (st : ClaimState) (hs : List Holder) : ClaimEntry := { ClaimEntry.built 6 with state := st, holders := hs }

theorem witness_ReviewSettlesAnEntry :
    let within : ClaimEntry → State := fun e => { claimed e with pos := { base.pos with record := ⟨6, .fwd, 0, .valid, 0, none, 0⟩ } }
    (claimEntry (claimed (entry6 .holding [rival false 3])) 6 = some (entry6 .holding [rival false 3])) ∧
    (base.pos.record.sec ≠ 6 ∧ (rival false 3).size > convoySize base ∧ (rival false 3).dir ≠ .ab ∧
      age base.time (rival false 3).lastHeard ≤ base.node.settings.peerLapse) ∧
    ((rival false 1).inside = false ∧ ¬((rival false 1).size > convoySize base) ∧
      ¬((rival false 1).station < ownStation base)) ∧
    ((within (entry6 .holding [rival true 3])).pos.record.sec = 6 ∧ (rival true 3).inside = true) ∧
    ((within (entry6 .holding [rival true 1])).pos.record.sec = 6 ∧
      ¬((rival true 1).size > convoySize base) ∧ ¬((rival true 1).station < ownStation base)) ∧
    (base.cvy.role ≠ .follower ∧ claimEntry (claimed (entry6 .riding [])) 6 = some (entry6 .riding [])) ∧
    (let s := { claimed (entry6 .waiting [⟨4, .ab, false, 2, false, 20100⟩]) with cvy := (following []).cvy };
      s.cvy.role = .follower ∧ s.cvy.pred = 4) ∧
    (claimEntry (claimed (entry6 .waiting [rival false 1])) 6 = some (entry6 .waiting [rival false 1])) := by
  decide +kernel

/-- ReviewSettlesAnEntry: WAITING locked out by last-hold-heard alone, beaten, held back by courtesy, and free
to claim; a winner's loser noted and not yet noted. -/
theorem witness_review_claims_again :
    let waits := entry6 .waiting []
    let heard := { waits with heardBA := some 20100 }
    let beaten := { waits with claimants := [⟨21, .ba, true, 2, 20000⟩] }
    let polite := { waits with claimants := [⟨21, .ba, false, 1, 20000⟩], holders := [⟨4, .ab, false, 2, false, 20100⟩] }
    let fresh : Time → Bool := fun t => decide (age base.time t ≤ base.node.settings.peerLapse ∧ age base.time t ≤ 32767)
    (∀ e ∈ [waits, heard, beaten, polite], claimEntry (claimed e) 6 = some e ∧ e.state = .waiting) ∧
    (base.cvy.role = .solo ∧ convoySize base = 1 ∧ fresh 20100 = true ∧ fresh 20000 = true) ∧
    (heard.holders = [] ∧ heard.heardBA = some 20100) ∧
    (beaten.holders = [] ∧ beaten.heardBA = none ∧ ∃ c ∈ beaten.claimants, c.waited = true ∧ c.size > convoySize base) ∧
    (polite.heardBA = none ∧ (∀ h ∈ polite.holders, h.dir = .ab) ∧ ∀ c ∈ polite.claimants, c.waited = false) ∧
    (waits.holders = [] ∧ waits.claimants = [] ∧ waits.heardBA = none ∧ waits.heardAB = none) ∧
    (∀ n ∈ [none, some 21], let e := { entry6 .holding [rival true 1] with noted := n };
      claimEntry (entered [e, ClaimEntry.built 15]) 6 = some e ∧ (rival true 1).inside = true) := by decide +kernel

theorem witness_ClaimWindowIsEvaluatedInOrder :
    let w : Window := ⟨19890, 20140⟩
    let e : ClaimEntry := { ClaimEntry.built 6 with state := .claiming, size := 1, window := some w }
    let locked := { e with holders := [rival false 1] }
    let beaten := { e with claimants := [⟨21, .ba, true, 1, 20000⟩] }
    let polite := { e with
      claimants := [⟨21, .ba, false, 1, 20000⟩]
      holders := [⟨4, .ab, false, 2, false, 20100⟩] }
    (∀ x ∈ [e, locked, beaten, polite], claimEntry (claimed x) 6 = some x ∧ x.state = .claiming ∧ x.window = some w) ∧
    (∃ h ∈ locked.holders, h.dir = .ba) ∧
    (beaten.holders = [] ∧ ∃ c ∈ beaten.claimants, c.dir = .ba ∧ c.waited = true ∧
      age base.time c.received ≤ age base.time w.start) ∧
    (base.cvy.role = .solo ∧ (∃ h ∈ polite.holders, h.dir = .ab) ∧ ∀ c ∈ polite.claimants,
      c.waited = false ∧ c.size = polite.size ∧ ¬(c.station < ownStation base)) ∧
    (e.holders = [] ∧ e.claimants = [] ∧ e.heardAB = none ∧ e.heardBA = none) ∧
    ((ClaimEntry.built 6).state ≠ .claiming) := by decide +kernel

/-- ClaimWindowIsEvaluatedInOrder, the review that follows: WAITING stays WAITING after LOCK and after COURTESY,
claims again after a KEY that its wait has made good, and rides behind a pred that holds. -/
theorem witness_waiting_is_reviewed :
    let w : Window := ⟨19890, 20140⟩
    let e : ClaimEntry := { ClaimEntry.built 6 with state := .claiming, size := 1, window := some w }
    let locked := { e with holders := [rival false 1] }
    let beaten := { e with claimants := [⟨21, .ba, false, 2, 20000⟩] }
    let polite := { e with
      claimants := [⟨21, .ba, false, 1, 20000⟩]
      holders := [⟨4, .ab, false, 2, false, 20100⟩] }
    let ends : State → WaitCause → ClaimState → Prop := fun s c st => ∃ t, exec (.claimWindow 6) s = .next t ∧
      (claimEntry t 6).map (·.state) = some st ∧
      t.mail.posts = [⟨.clm, .claimWaited, .num 6, .dir .ab, .wait c⟩]
    ends (claimed locked) .lock .waiting ∧ ends (claimed beaten) .key .claiming ∧
    ends (claimed polite) .courtesy .waiting ∧
    ends { claimed { locked with holders := [⟨4, .ab, false, 2, false, 20100⟩, rival false 1] } with
      cvy := (following []).cvy } .lock .riding := by
  refine ⟨⟨_, rfl, ?_, ?_⟩, ⟨_, rfl, ?_, ?_⟩, ⟨_, rfl, ?_, ?_⟩, ⟨_, rfl, ?_, ?_⟩⟩ <;> decide +kernel

/-- This state with a telegram waiting for CLM. -/
def clmQueued (s : State) (m : Matter) : State :=
  { s with air := { s.air with clmQueue := [⟨⟨21, 63, m⟩, 20100⟩] } }

/-- Six claimants of section 6, stations 50 to 55. -/
def six : List Claimant := (List.range 6).map (fun i => ⟨50 + i, .ba, false, 1, 20000⟩)

theorem witness_ClaimsAndReleasesAreLearned :
    let c : Claimant := ⟨21, .ba, false, 2, 20100⟩
    ((clmQueued base (.claim 6 .ba false 2)).held = false ∧ (base.clm.entries.map (·.sec)).Nodup ∧
      (clmQueued base (.claim 6 .ba false 2)).air.clmQueue = ⟨⟨21, 63, .claim 6 .ba false 2⟩, 20100⟩ :: [] ∧
      (clmQueued base (.release [6, 15])).air.clmQueue = ⟨⟨21, 63, .release [6, 15]⟩, 20100⟩ :: []) ∧
    (claimEntry base 6 = some (ClaimEntry.built 6) ∧ claimEntry base 15 = some (ClaimEntry.built 15)) ∧
    (∃ h ∈ (entry6 .none [rival false 1]).holders, h.station = 21) ∧
    (∃ x ∈ [c], x.station = 21) ∧ ((∀ x ∈ six, x.station ≠ 21) ∧ 6 ≤ six.length) ∧
    (∃ x ∈ six, (∀ z ∈ six, z.station ≠ x.station → z.key.better x.key = true) ∧ c.key.better x.key = true) ∧
    (∀ x ∈ six, (⟨62, .ba, false, 1, 20100⟩ : Claimant).key.better x.key = false) := by decide +kernel

theorem witness_HoldListsAreLearned :
    let b : Beacon := { beacon4 with holds := [⟨6, .ba, .holding⟩, ⟨15, .ab, .waiting⟩] }
    let eight := (List.range 8).map (fun i => ({ rival false 1 with station := 40 + i } : Holder))
    ((clmQueued base (.position b)).air.clmQueue = ⟨⟨21, 63, .position b⟩, 20100⟩ :: [] ∧
      (b.holds.map (·.sec)).Nodup ∧ (base.clm.entries.map (·.sec)).Nodup) ∧
    (∀ h ∈ beacon4.holds, h.sec ≠ 6) ∧ (∃ h ∈ b.holds, h.sec = 6 ∧ h.mode ≠ .waiting) ∧
    (∃ h ∈ b.holds, h.sec = 15 ∧ h.mode = .waiting) ∧
    (∃ x ∈ [rival false 1], x.station = 21) ∧ ((∀ x ∈ eight, x.station ≠ 21) ∧ 8 ≤ eight.length) ∧
    base.svc.counters.holderOverflow < 65535 := by decide

/-- HoldListsAreLearned: an overflow counted, and a source coming WAITING in each kind of claimant list. -/
theorem witness_overflow_and_waiting :
    let b : Beacon := { beacon4 with holds := [⟨6, .ba, .holding⟩] }
    let eight := (List.range 8).map (fun i => ({ rival false 1 with station := 40 + i } : Holder))
    let s := claimed (entry6 .none eight)
    let c : Claimant := ⟨21, .ba, true, 1, 20100⟩
    (b.holds.filter (fun h => h.mode != .waiting && s.clm.entries.any (fun e => e.sec == h.sec &&
      decide (8 ≤ e.holders.length) && e.holders.all (fun x => x.station != 21))) = b.holds ∧
      b.holds.filter (fun h => h.mode != .waiting && base.clm.entries.any (fun e => e.sec == h.sec &&
        decide (8 ≤ e.holders.length) && e.holders.all (fun x => x.station != 21))) = []) ∧
    (∃ x ∈ [c], x.station = 21) ∧ ((∀ x ∈ six, x.station ≠ 21) ∧ 6 ≤ six.length ∧ (six.take 5).length < 6) ∧
    (∃ x ∈ six, (∀ z ∈ six, z.station ≠ x.station → z.key.better x.key = true) ∧ c.key.better x.key = true) ∧
    (∀ x ∈ six.map (fun x => { x with waited := true, size := 2 }), c.key.better x.key = false) := by decide +kernel

theorem witness_ClaimNoticesAreActedOn :
    let n : SlotOutcome → Notice := fun o => ⟨o, [12], some (.claim 6 .ab false 1)⟩
    let s : ClaimEntry → Bool → State := fun e c =>
      { claimed e with
        clm := { (claimed e).clm with posts := [⟨12, 6, c⟩] }
        mail := { Mail.empty with claimNotices := [n .aborted], releaseNotices := [n .sent] } }
    (∀ c ∈ [false, true], (s (entry6 .claiming []) c).clm.posts.filter (fun p => (n .sent).numbers.contains p.number) =
      [⟨12, 6, c⟩]) ∧
    (∀ e ∈ [entry6 .claiming [], entry6 .waiting [], ClaimEntry.built 6], claimEntry (s e false) 6 = some e) ∧
    ((entry6 .claiming []).repostUsed = false ∧
      ((s (entry6 .claiming []) false).clm.posts.filter (fun p => !(n .sent).numbers.contains p.number)).length ≤ 1) ∧
    (∀ p ∈ (claimed (ClaimEntry.built 6)).clm.posts, p.number ∉ (n .sent).numbers) := by decide

/-- The base state with these slots and access. -/
def onAirState (a : Access) (h r c p : Slot) : State :=
  { base with air := { base.air with access := a, haltSlot := h, releaseSlot := r, claimSlot := c, positionSlot := p } }

/-- A slot with this content and state. -/
def filled (st : SlotState) (c : Content) (r : Option Reload) : Slot := ⟨st, some c, [⟨4, some 6⟩], [], r, 5⟩

theorem witness_AddRequestsSupersedeOrMerge :
    let m : Mail := { Mail.empty with
      claimRequests := [.add (.claim 6 .ab false 1)]
      releaseRequests := [.add (.release [6])] }
    let r : List Nat → Option Reload := fun l => some ⟨.release l, [⟨3, some 1⟩]⟩
    (requestsOf m .claim = .add (.claim 6 .ab false 1) :: [] ∧ m.releaseRequests = .add (.release [6]) :: []) ∧
    ((inMode .starting).node.mode = .starting ∧ base.air.claimSlot.state = .empty ∧ base.air.access = .idle) ∧
    ((filled .pending (.claim 6 .ab true 1) none).state = .pending ∧
      (filled .onAir (.claim 6 .ab true 1) none).reload = none ∧
      (filled .onAir (.claim 6 .ab true 1) (some ⟨.claim 6 .ab true 1, []⟩)).reload.isSome) ∧
    (6 ∈ [6] ∧ 6 ∉ [1] ∧ [1].length ≤ 1 ∧ 6 ∉ [1, 2] ∧ 2 ≤ [1, 2].length) ∧
    ((filled .onAir (.release [1, 2]) (r [1, 2])).reload = some ⟨.release [1, 2], [⟨3, some 1⟩]⟩ ∧
      ([⟨3, some 1⟩] : List Numbered).filter (fun q => q.sec == some 1) ≠ [] ∧
      ([⟨3, some 2⟩] : List Numbered).filter (fun q => q.sec == some 1) = []) := by decide

theorem witness_BeaconsArePostedAndMerged :
    let n : Notice := ⟨.sent, [88], some .position⟩
    let m : Mail := { Mail.empty with positionRequests := [.add .position], positionNotices := [n] }
    (base.held = false ∧ base.air.beacon.isSome ∧ base.air.generator = some 4357) ∧
    m.positionRequests = .add .position :: [] ∧ m.positionNotices = n :: [] ∧
    (filled .pending .position none).state ≠ .empty ∧ base.air.positionSlot.state = .empty ∧
    base.air.access = .idle ∧ (onAirState .counting Slot.reset Slot.reset Slot.reset Slot.reset).air.access ≠ .idle ∧
    (inMode .unconfigured).node.mode = .unconfigured ∧ base.node.mode = .running := by decide

theorem witness_CancelWithdrawsTheSlot :
    let m : Mail := { Mail.empty with claimRequests := [.cancel] }
    requestsOf m .claim = .cancel :: [] ∧ base.air.claimSlot.state = .empty ∧
    (onAirState .sensing Slot.reset Slot.reset (filled .pending (.claim 6 .ab true 1) none) Slot.reset).air.claimSlot.state
      = .pending ∧
    (onAirState .transmitting Slot.reset Slot.reset (filled .onAir (.claim 6 .ab true 1)
      (some ⟨.claim 6 .ab true 1, [⟨5, none⟩]⟩)) Slot.reset).air.claimSlot.state = .onAir := by decide

theorem witness_ChannelAccessCountsDown :
    let s : Access → State := fun a => { base with air := { base.air with
      access := a
      quiet := some 1
      countdown := some 1
      count := 2 } }
    (s .sensing).air.access = .sensing ∧ (s .counting).air.access = .counting ∧ base.air.access = .idle ∧
    (s .sensing).held = false ∧ (s .sensing).air.quiet.isSome ∧ (s .sensing).air.drawn = false ∧
    (s .sensing).air.generator = some 4357 ∧ (s .counting).air.countdown.isSome ∧ 1 < (s .counting).air.count ∧
    base.air.count ≤ 1 ∧ (1 ≤ 62 ∧ 62 ≤ 62 ∧ 255 ≤ 255) := by decide

theorem witness_HandOverTakesTheFirstSlot :
    let p := filled .pending
    let all := onAirState .counting (p (.halt .standoff) none) (p (.release [6]) none) (p (.claim 6 .ab false 1) none)
      (p .position none)
    (∀ id ∈ [SlotId.halt, .release, .claim, .position],
      (all.air.slot id).state = .pending ∧ (all.air.slot id).content.isSome) ∧
    all.air.haltSlot.reload = none ∧ all.cvy.convoy = 0 ∧ (following []).cvy.convoy ≠ 0 ∧
    (∀ id ∈ [SlotId.halt, .release, .claim, .position], (base.air.slot id).state ≠ .pending) := by decide

theorem witness_BeaconsTellTheStateOfNow :
    let s := { base with clm := { base.clm with entries := [clearing 6 5, ClaimEntry.built 14,
      { ClaimEntry.built 15 with state := .waiting }] } }
    base.pos.record.validity ≠ .none ∧ (placed ⟨5, .fwd, 1200, .none, 0, none, 0⟩).pos.record.validity = .none ∧
    (s.clm.entries.map (·.sec)).Pairwise (· < ·) ∧ holdList s = [⟨6, .ab, .clearing⟩, ⟨15, .ab, .waiting⟩] ∧
    ClaimInv State.reset.clm :=
  ⟨by decide, by decide, by decide, by decide, by constructor <;> simp [State.reset, Clm.reset]⟩

theorem witness_TransmissionsAreCompleted :
    let s := onAirState .transmitting Slot.reset Slot.reset (filled .onAir (.claim 6 .ab true 1) none)
      (filled .pending .position none)
    s.held = false ∧ (s.air.slot .claim).state = .onAir ∧
    (∀ j ∈ [SlotId.halt, .release, .position], (s.air.slot j).state ≠ .onAir) ∧
    (s.air.slot .position).state = .pending ∧
    (∀ j ∈ [SlotId.halt, .release, .claim, .position], (base.air.slot j).state ≠ .onAir) := by decide

theorem witness_GovernorUpdateIsRateLimited :
    base.held = false ∧ base.node.mode = .running ∧ base.gov.timer.isSome ∧
    (node710.gov.speed ≠ 0 ∧ node710.gov.speed < (forwardTarget (roleCheck node710)).value) ∧
    (let s := { node710 with cvy := { node710.cvy with foreign := [(4, .trailerLoss)] } };
      (forwardTarget (roleCheck s)).value < s.gov.speed ∧ (forwardTarget (roleCheck s)).name = .halt) ∧
    (let s := { base with gov := { base.gov with speed := 300 } };
      (forwardTarget (roleCheck s)).value < 300 ∧ (forwardTarget (roleCheck s)).name = .driver) := by decide +kernel

/-- GovernorUpdateIsRateLimited: each crawl cause in front of the ones after it, and none (R140). -/
theorem witness_crawl_causes :
    let s : Validity → Option Time → Bool → State := fun v b o => { base with
      pos := { base.pos with record := ⟨5, .fwd, 1200, v, 0, none, 0⟩ }
      air := { base.air with lastBeacon := b }
      trl := { base.trl with overlength := o } }
    age base.time (base.time - 400) = 400 ∧ age base.time (base.time - 401) = 401 ∧
    crawlCause (s .lost none true) = some .position ∧ crawlCause (s .valid none true) = some .beacon ∧
    crawlCause (s .valid (some (base.time - 401)) true) = some .beacon ∧
    crawlCause (s .valid (some (base.time - 400)) true) = some .overlength ∧
    crawlCause (s .valid (some (base.time - 400)) false) = none := by decide +kernel

theorem witness_ForwardTargetIsTheSmallestTerm :
    haltSetEmpty base.cvy = true ∧ SettingsInRange base.node.settings ∧
    (placed ⟨5, .fwd, 1200, .lost, 0, none, 0⟩).pos.record.validity ≠ .valid := by
  refine ⟨rfl, ?_, by decide⟩
  constructor <;> decide

theorem witness_HaltStopsAndReverseNeedsPermission :
    let halted := { base with cvy := { base.cvy with foreign := [(4, .standoff)] } }
    let back : Nat → State := fun w => { base with drv := { base.drv with throttleWidth := w } }
    let e : ClaimState → ClaimEntry := fun st => entry6 st []
    haltSetEmpty halted.cvy = false ∧ (following []).cvy.role ≠ .solo ∧
    (haltSetEmpty (following []).cvy = true ∧ ∀ x ∈ (following []).clm.entries, x.state ≠ .standoff) ∧
    ((claimed (e .standoff)).node.settings.crawlCap < (1500 - 25 - 1000) * 120 / 475 ∧
      ∃ x ∈ (claimed (e .standoff)).clm.entries, x.state = .standoff) ∧
    ((back 1300).cvy.role = .solo ∧ (1500 - 25 - 1300) * 120 / 475 ≤ (back 1300).node.settings.crawlCap) ∧
    (let s := { claimed (entry6 .holding [rival true 1]) with
        pos := { base.pos with record := ⟨6, .fwd, 0, .valid, 0, none, 0⟩ } };
      ∃ x ∈ s.clm.entries, x.state = .holding ∧ s.pos.record.sec = x.sec ∧ x.holders.any (·.inside)) ∧
    ((chain (claimed (e .claiming))).map (·.sec) = [5, 6, 7] ∧ claimEntry (claimed (e .claiming)) 6 = some (e .claiming)) ∧
    (claimEntry (claimed (e .holding)) 6 = some (e .holding)) ∧
    ((chain (placed ⟨5, .fwd, 0, .none, 0, none, 0⟩)).length ≤ 1) := by decide +kernel

theorem witness_DriverChannelsFollowTheirPulses :
    let failing : Nat → FailsafeCause → State := fun n c =>
      { base with drv := { base.drv with
        failsafe := true
        validRun := n
        failsafeCause := c
        silence := some 1
        fnSilence := some 1
        candidate := some .convoy
        candidateSince := 19840 } }
    (base.held = false ∧ base.drv.failsafe = false) ∧
    ((failing 1 .reset).drv.failsafe = true ∧ (failing 1 .reset).drv.validRun ≤ 1 ∧ 2 ≤ (failing 2 .reset).drv.validRun ∧
      (failing 2 .silence).drv.failsafeCause = .silence ∧ (failing 2 .reset).drv.failsafeCause = .reset) ∧
    ((failing 0 .reset).drv.silence.isSome ∧ (failing 0 .reset).drv.fnSilence.isSome) ∧
    (base.drv.position = .solo ∧ base.drv.candidate ≠ some .convoy ∧ (failing 0 .reset).drv.candidate = some .convoy ∧
      300 ≤ age base.time 19840 ∧ age base.time 19841 < 300) ∧
    ((inMode .listening).held = false ∧ State.reset.drv.output = .neutral ∧ State.reset.drv.frameTimer.isSome ∧
      base.drv.output = .governed) := by decide

theorem witness_TrailerLineReachesAndLosesTags :
    let a : Tag := ⟨trailerA, some 1, Lamps.dark⟩
    (∀ x ∈ [a], x.address.isSome) ∧ (∀ x ∈ [a], x.address ≠ some 2) ∧ 2 ≠ 0 ∧
    (100 ≤ trailerA.length ∧ trailerA.length ≤ 1500) ∧ (∀ i, some trailerA.id = some i → i = trailerA.id) ∧
    ¬(3 = 2 ∧ 100 ≤ trailerA.length) ∧ (towing base.trl [a]).line = [] ++ a :: [] := by
  refine ⟨by decide, by decide, by decide, by decide, fun i h => by injection h with h; exact h.symm, by decide, rfl⟩

theorem witness_PollsCountMissesAndPop :
    let s : Nat → Nat → State := fun m st =>
      { towing { base.trl with chain := [⟨trailerA, 0⟩, ⟨trailerB, m⟩], cycle := .polling 2 }
        [⟨trailerA, some 1, Lamps.dark⟩, ⟨trailerB, some 2, Lamps.dark⟩] with
        pos := { base.pos with still := st } }
    let out : State → Reception → LineOutcome := fun s r => pollOutcome 2 (some trailerB.id) (hear (pollAnswer s.line 2) r)
    ((s 0 0).held = false ∧ (s 0 0).trl.timer.isSome) ∧
    ((s 0 0).trl.cycle = .polling 2 ∧ (s 0 0).trl.chain[2 - 1]? = some ⟨trailerB, 0⟩) ∧
    (out (s 0 0) .asSent = .answered trailerB ∧ out (s 0 0) .silence = .silent ∧ out (s 0 0) .spoiled = .error) ∧
    ((s 2 25).pos.still = 25 ∧ (s 2 0).pos.still ≠ 25 ∧ 2 ≤ 2) ∧ base.trl.cycle = .idle := by decide +kernel

/-- PollsCountMissesAndPop: a pop left part-way, with nothing waiting and nothing due, at each end of its range. -/
theorem witness_pop_left_part_way :
    let s : List TrailerRecord → Cycle → State := fun c k => towing { base.trl with chain := c, cycle := k } []
    (∀ still ∈ [false, true],
      let u := s [⟨trailerA, 3⟩] (.popping 1 still trailerA.id 2);
      u.held = false ∧ u.pending = [] ∧ dueCommands u = [] ∧ u.trl.cycle = .popping 1 still trailerA.id 2 ∧ 1 ≤ 1 ∧
        1 ≤ u.trl.chain.length) ∧
    (let u := s [⟨trailerA, 0⟩, ⟨trailerB, 3⟩, ⟨trailerA, 0⟩] (.popping 2 false trailerB.id 3);
      dueCommands u = [] ∧ 2 ≤ u.trl.chain.length) := by decide +kernel

theorem witness_DiscoveryAssignsAndLampsFollow :
    let t : List TrailerRecord → Cycle → Trl := fun c k => { base.trl with chain := c, cycle := k }
    let line : List Tag := [Tag.fresh trailerA]
    let four : List TrailerRecord := (List.range 4).map (fun i => ⟨⟨BitVec.ofNat 16 i, 300, false, false⟩, 0⟩)
    let out : Reception → LineOutcome := fun r => pollOutcome 0 none (hear (pollAnswer line 0) r)
    let conf : Reception → LineOutcome := fun r => assignOutcome 1 trailerA (hear (assignAnswer line 1) r)
    (out .asSent = .answered trailerA ∧ out .silence = .silent ∧ out .spoiled = .error) ∧
    (conf .asSent = .answered trailerA ∧ conf .silence = .silent ∧ conf .spoiled = .error) ∧
    ((t [⟨trailerA, 2⟩] .discovering).chain[0]? = some ⟨trailerA, 2⟩) ∧
    ((t [] .discovering).chain.length < 4 ∧ 4 ≤ (t four .discovering).chain.length ∧
      ∀ x ∈ four, x.record.id ≠ trailerA.id) ∧
    ((t [] (.assigning 1 trailerA false)).cycle = .assigning 1 trailerA false ∧
      (t [⟨trailerA, 2⟩] (.assigning 1 trailerA true)).cycle = .assigning 1 trailerA true) ∧
    (let o : Nat → Trl := fun n => { t [] .discovering with overlength := true, silent := n };
      (o 1).overlength = true ∧ (o 1).silent < 2 ∧ 2 ≤ (o 2).silent ∧ base.trl.overlength = false) ∧
    ((t [⟨trailerA, 0⟩] .idle).lastLamps ≠ some ⟨true, false, false⟩ ∧ trailerA.braked = true) := by decide +kernel

theorem witness_JournalKeepsRecordsInOrder :
    let p : Post := ⟨.gov, .crawlOn, .crawl .beacon, .num 0, .num 0⟩
    let s := mailed { Mail.empty with posts := [p] }
    (s.held = false ∧ s.mail.posts = [] ++ p :: [] ∧ p.block = .gov ∧ s.svc.journal.fill < 16) ∧
    (16 ≤ (journalled journal115).svc.journal.fill) ∧ JournalInv base.svc.journal ∧ JournalInv journal115 ∧
    (base.svc.answer = none ∧ base.svc.journal.records = [] ++ (0, some JournalRecord.startPowerOn) :: [] ∧
      (∀ x ∈ base.svc.journal.records, x.1 ≠ 1)) := by
  refine ⟨by decide, by decide, ?_, ?_, by decide⟩ <;> constructor <;> decide

theorem witness_ReadRequestsAnswerFromTheStateOfNow :
    base.held = false ∧ base.svc.answer = none ∧ (answering .unknown base).svc.answer ≠ none ∧
    base.cvy.role = .solo ∧ (following seven).cvy.role ≠ .solo ∧
    (following seven).cvy.members.Pairwise (fun a b => b.before (following seven).pos.sections a = false) := by
  decide +kernel

theorem witness_CountersClearAndRestartIsAsked :
    let s := { answering .unknown base with svc := { (answering .unknown base).svc with waiting := 1 } }
    (base.held = false ∧ base.svc.answer = none ∧ ¬Moving base ∧
      Moving { base with pos := { base.pos with speed := 1 } }) ∧
    (s.svc.answer = some .unknown ∧ Answer.unknown ≠ .restarting ∧ s.svc.waiting = 0 + 1 ∧
      (answering .unknown base).svc.waiting = 0) ∧ CounterId.sent ≠ .aborted := by decide

theorem witness_SpeedRisesOnlyAtUpdates : exec .governorUpdate base = .next (after .governorUpdate base) ∧
    base.gov.speed < (after .governorUpdate base).gov.speed := ⟨rfl, by decide +kernel⟩

/-- The base node's tables and queues meet their invariants. -/
theorem base_tables : JournalInv base.svc.journal ∧ CountersInv base.svc.counters ∧ ClaimInv base.clm ∧
    ConvoyInv base.cvy ∧ TrailerInv base.trl := by
  refine ⟨?_, ?_, ?_, ?_, ?_⟩
  · constructor <;> decide
  · intro id; cases id <;> decide
  · refine ⟨by decide, by decide, ?_, by decide, by decide⟩
    intro e he
    rcases List.mem_cons.1 he with rfl | he
    · constructor <;> decide
    · rw [List.mem_singleton.1 he]; constructor <;> decide
  · constructor <;> decide
  · refine ⟨by decide, fun i r h => absurd h (by simp [base, Trl.reset]), by decide, by decide, trivial⟩

/-- The base node's air port meets its invariant. -/
theorem base_air : AirInv base.air := by
  refine ⟨fun id => ?_, fun id => ?_, fun _ id => ?_, ?_, fun i j => ?_, by decide, by decide, by decide⟩
  · cases id <;> constructor <;> decide
  · cases id <;> decide
  · cases id <;> decide
  · constructor
    · intro h; exact absurd h (by decide)
    · rintro ⟨id, h⟩; cases id <;> exact absurd h (by decide)
  · cases i <;> cases j <;> decide

/-- The base node's modes and place meet their invariant. -/
theorem base_modes : ModeInv base := by
  refine ⟨witness_ForwardTargetIsTheSmallestTerm.2.1, by decide, by decide, ?_, by decide, by decide, by decide,
    by decide, by decide, fun h => absurd rfl h, fun _ _ e he => ?_⟩
  · constructor <;> decide
  · exact absurd he (by decide +revert)

/-- StepsKeepJournalCountersAndTrailers, StepsKeepConvoyAndClaims, StepsKeepTheAirPort, StepsKeepTheModes:
a step of the base node, whose state meets each invariant. -/
theorem witness_StepsKeep : step base = .next (idle base) ∧ JournalInv base.svc.journal ∧
    CountersInv base.svc.counters ∧ TrailerInv base.trl ∧ ConvoyInv base.cvy ∧ ClaimInv base.clm ∧
    AirInv base.air ∧ ModeInv base :=
  ⟨rfl, base_tables.1, base_tables.2.1, base_tables.2.2.2.2, base_tables.2.2.2.1, base_tables.2.2.1, base_air,
    base_modes⟩

end Sys2Proof.Tests
end

section
/-! PROOFS. The state right after a POWER-ON (R7, R41, R60, R78, R99, R130, R154, R163, R170, R183). -/

namespace Sys2Proof.Proofs

open Sys2Proof.Machine

/-- A section table with no entry in use reads ABSENT at every index. -/
theorem sectionAt_replicate_absent (n i : Nat) :
    sectionAt (List.replicate n SectionEntry.absent) i = SectionEntry.absent := by
  rw [sectionAt, List.getD_eq_getElem?_getD, List.getElem?_replicate]
  split <;> rfl

/-- Every slot is EMPTY after a reset, its request numbers from 0 (R41, R42). -/
theorem slot_reset (id : SlotId) : Air.reset.slot id = Slot.reset := by
  cases id <;> rfl

theorem window_reset {w : TagWindow} (h : w ∈ Pos.reset.windows) : w.enable = false := by
  rw [List.eq_of_mem_replicate h]
  rfl

theorem filterElement_reset {e : FilterElement} (h : e ∈ Air.reset.filter) : e.enable = false := by
  rw [List.eq_of_mem_replicate h]
  rfl

/-- START is the one record that the journal holds after a POWER-ON (R185). -/
theorem journalKinds_reset :
    State.reset.svc.journal.records.map (fun x => x.2.map (fun r => (r.kind, r.first, r.second))) =
      [some (.start, .reset .powerOn, .num 0)] := by
  rfl

/-- DRV starts in failsafe, which lights the fault lamp (R154, R200). -/
theorem faultLamp_reset : faultLamp State.reset = true := by
  decide

/-- Settles O4, block by block: fixed values by computation, the tables by what every entry is. -/
theorem resetLeavesTheStatedValues : Obligations.ResetLeavesTheStatedValues := by
  refine ⟨?node, ?pos, ?air, ?peer, ?cvy, ?clm, ?gov, ?drv, ?trl, ?svc⟩
  case node => exact ⟨rfl, rfl, rfl, rfl, rfl, rfl, rfl⟩
  case pos =>
    exact ⟨rfl, rfl, rfl, rfl, fun i => congrArg SectionEntry.kind (sectionAt_replicate_absent 32 i),
      fun _ => window_reset, rfl⟩
  case air => exact ⟨slot_reset, rfl, rfl, rfl, rfl, rfl, rfl, rfl, rfl, rfl, fun _ => filterElement_reset⟩
  case peer => exact ⟨rfl, rfl⟩
  case cvy => exact ⟨rfl, rfl, rfl, rfl, rfl, rfl, rfl, rfl⟩
  case clm => exact ⟨rfl, rfl, rfl⟩
  case gov => exact ⟨rfl, rfl, rfl, rfl, rfl, rfl, rfl, rfl⟩
  case drv => exact ⟨rfl, rfl, rfl, rfl, rfl, rfl, rfl, rfl, rfl, rfl, rfl, rfl, rfl⟩
  case trl => exact ⟨rfl, rfl, rfl, rfl, rfl, rfl, rfl⟩
  case svc => exact ⟨rfl, rfl, rfl, rfl, journalKinds_reset, rfl, rfl, faultLamp_reset⟩

end Sys2Proof.Proofs
end

section
/-! PROOFS. Chapter 1: tag translation, tag reads, wheel pulses and the bin timer (R4 to R18). -/

namespace Sys2Proof.Proofs

open Sys2Proof.Machine Sys2Proof.Laws

/-! ## Tag translation -/

/-- A window matches by its enable bit and the masked bits of the tag (R4). -/
theorem isMatch_iff (w : TagWindow) (tag : TagNumber) :
    w.isMatch tag = true ↔ w.enable = true ∧ tag &&& w.mask = w.base &&& w.mask := by
  simp [TagWindow.isMatch]

/-- With no matching window a tag is UNMAPPED (R5). -/
theorem translateTag_of_noMatch {windows : List TagWindow} {tag : TagNumber}
    (h : ∀ w ∈ windows, ¬w.isMatch tag = true) (sections : List SectionEntry) :
    translateTag windows sections tag = .unmapped := by
  have hfind : windows.find? (·.isMatch tag) = none := List.find?_eq_none.mpr h
  simp only [translateTag, hfind]

/-- The first matching window decides a translation, by the ordered tests of R5. -/
theorem translateTag_of_firstMatch {before : List TagWindow} {w : TagWindow} {tag : TagNumber}
    (hbefore : ∀ v ∈ before, ¬v.isMatch tag = true) (hw : w.isMatch tag = true)
    (after : List TagWindow) (sections : List SectionEntry) :
    translateTag (before ++ w :: after) sections tag =
      if (w.locate tag).1 > 31 then .unmapped
      else if (sectionAt sections (w.locate tag).1).kind = .absent then .unmapped
      else if (w.locate tag).2 * (sectionAt sections (w.locate tag).1).spacing >
        (sectionAt sections (w.locate tag).1).length then .badMark
      else .place (w.locate tag).1 ((w.locate tag).2 * (sectionAt sections (w.locate tag).1).spacing) := by
  have hfind : (before ++ w :: after).find? (·.isMatch tag) = some w :=
    List.find?_eq_some_iff_append.mpr ⟨hw, before, after, rfl, fun v hv => by simp [hbefore v hv]⟩
  simp only [translateTag, hfind]

/-- At most six mark bits count at most 63 marks, a spacing of at most 1000 mm apart (R1, R3). -/
theorem mark_le_63 {bits spacing : Nat} (offset : Nat) (hbits : bits ≤ 6) (hspacing : spacing ≤ 1000) :
    offset % 2 ^ bits ≤ 63 ∧ offset % 2 ^ bits * spacing ≤ 63000 := by
  have hpow : 2 ^ bits ≤ 2 ^ 6 := Nat.pow_le_pow_right (by decide) hbits
  have hmark : offset % 2 ^ bits ≤ 63 := by
    have := Nat.mod_lt offset (Nat.two_pow_pos bits)
    omega
  exact ⟨hmark, Nat.mul_le_mul hmark hspacing⟩

/-- Settles O12: `find?` gives the first match, and each outcome is one branch of its ordered tests. -/
theorem firstMatchingTagWindowDecides : Obligations.FirstMatchingTagWindowDecides := by
  intro windows sections tag hits
  have hits_iff (w : TagWindow) : w.isMatch tag = true ↔ hits w := isMatch_iff w tag
  refine ⟨fun h => translateTag_of_noMatch (fun w hw => mt (hits_iff w).mp (h w hw)) sections, ?_⟩
  rintro before w after rfl hbefore hw offset sec e distance
  have outcome := translateTag_of_firstMatch (fun v hv => mt (hits_iff v).mp (hbefore v hv))
    ((hits_iff w).mpr hw) after sections
  refine ⟨fun hhigh => ?_, fun hlow habsent => ?_, fun hlow hkind hfar => ?_, fun hlow hkind hnear => ?_,
    fun hbits => ?_, fun hbits hspacing => mark_le_63 offset hbits hspacing⟩
  · exact outcome.trans (if_pos hhigh)
  · exact outcome.trans ((if_neg (Nat.not_lt.mpr hlow)).trans (if_pos habsent))
  · exact outcome.trans ((if_neg (Nat.not_lt.mpr hlow)).trans ((if_neg hkind).trans (if_pos hfar)))
  · exact outcome.trans ((if_neg (Nat.not_lt.mpr hlow)).trans
      ((if_neg hkind).trans (if_neg (Nat.not_lt.mpr hnear))))
  · simp [sec, distance, hbits, Nat.mod_one]

/-! ## Tag reads -/

/-- TAG_READ with the supply up: a read on the layout is translated, any other discarded (R6). -/
theorem exec_tagRead {s : State} (hup : s.held = false) (tag : TagNumber) :
    exec (.tagRead tag) s = .next (if onLayout s then tagArrives tag s else s) :=
  whileUp_up hup _

theorem exec_tagRead_offLayout {s : State} (hup : s.held = false) (hoff : ¬onLayout s = true)
    (tag : TagNumber) : exec (.tagRead tag) s = .next s := by
  rw [exec_tagRead hup, if_neg hoff]

theorem exec_tagRead_onLayout {s : State} (hup : s.held = false) (hon : onLayout s = true)
    (tag : TagNumber) : exec (.tagRead tag) s = .next (tagArrives tag s) := by
  rw [exec_tagRead hup, if_pos hon]

theorem tagArrives_unmapped {s : State} {tag : TagNumber}
    (h : translateTag s.pos.windows s.pos.sections tag = .unmapped) :
    tagArrives tag s = raise .unmapped s := by
  simp only [tagArrives, h]

theorem tagArrives_badMark {s : State} {tag : TagNumber}
    (h : translateTag s.pos.windows s.pos.sections tag = .badMark) :
    tagArrives tag s = raise .badMark s := by
  simp only [tagArrives, h]

theorem tagArrives_place {s : State} {tag : TagNumber} {sec d : Nat}
    (h : translateTag s.pos.windows s.pos.sections tag = .place sec d) :
    tagArrives tag s = tagPlaced tag sec d s := by
  simp only [tagArrives, h]

theorem isRepeat_iff (p : Position) (tag : TagNumber) :
    isRepeat p tag = true ↔ p.lastTag = some tag ∧ p.travel < 500 := by
  simp [isRepeat]

/-- Distances rise for FWD driving forward and for REV driving in reverse (R9, R14). -/
theorem rising_iff (f : Facing) (d : Travel) :
    rising f d = true ↔ (f = .fwd ∧ d = .forward) ∨ (f = .rev ∧ d = .reverse) := by
  cases f <;> cases d <;> decide

/-- The stale test (R9): a tag of the own section more than 100 mm behind a VALID record. -/
theorem isStale_iff (p : Position) (dir : Travel) (sec d : Nat) :
    isStale p dir sec d = true ↔ p.validity = .valid ∧ p.sec = sec ∧
      if (p.facing = .fwd ∧ dir = .forward) ∨ (p.facing = .rev ∧ dir = .reverse)
      then d + 100 < p.distance else d > p.distance + 100 := by
  by_cases hrise : rising p.facing dir = true
  · simp [isStale, hrise, (rising_iff _ _).mp hrise, and_assoc]
  · simp [isStale, hrise, mt (rising_iff _ _).mpr hrise, and_assoc]

theorem tagPlaced_repeat {s : State} {tag : TagNumber} (hrepeat : isRepeat s.pos.record tag = true)
    (sec d : Nat) : tagPlaced tag sec d s = s := by
  rw [tagPlaced, if_pos hrepeat]

theorem tagPlaced_stale {s : State} {tag : TagNumber} {sec d : Nat}
    (hnew : ¬isRepeat s.pos.record tag = true)
    (hstale : isStale s.pos.record s.gov.direction sec d = true) :
    tagPlaced tag sec d s = raise .stale s := by
  rw [tagPlaced, if_neg hnew, if_pos hstale]

/-- An accepted tag sets the record, and CLM makes its position check on it (R10, R109). -/
theorem tagPlaced_accepted {s : State} {tag : TagNumber} {sec d : Nat}
    (hnew : ¬isRepeat s.pos.record tag = true)
    (hahead : ¬isStale s.pos.record s.gov.direction sec d = true) :
    tagPlaced tag sec d s = positionCheck (ownSection s) none (s.setPos { s.pos with
      record := acceptTag s.pos.sections s.pos.record s.gov.direction tag sec d }) := by
  rw [tagPlaced, if_neg hnew, if_neg hahead]

/-- The facing turned round while the node drives in reverse (R13). -/
def turnedIn (dir : Travel) (f : Facing) : Facing :=
  if dir = .forward then f else if f = .fwd then .rev else .fwd

/-- The facing rule with the cases of R12 in order, turned round in reverse (R13). -/
theorem facingOnEntry_eq (sections : List SectionEntry) (p : Position) (dir : Travel) (t d : Nat) :
    facingOnEntry sections p dir t d = turnedIn dir
      (if p.validity = .none then facingByMark (sectionAt sections t) d
       else if (sectionAt sections t).nextRev = some p.sec then .fwd
       else if (sectionAt sections t).nextFwd = some p.sec then .rev
       else facingByMark (sectionAt sections t) d) := by
  cases dir with
  | forward => rfl
  | reverse =>
    simp only [facingOnEntry, turnedIn]
    generalize (if p.validity = .none then _ else _ : Facing) = f
    cases f <;> rfl

section AcceptedFacing

variable (sections : List SectionEntry) {p : Position} (dir : Travel) (tag : TagNumber) {sec : Nat} (d : Nat)

/-- Within a section an accepted tag keeps the facing (R12). -/
theorem acceptTag_facing_sameSection (hfix : p.validity ≠ .none) (hsec : p.sec = sec) :
    (acceptTag sections p dir tag sec d).facing = p.facing :=
  if_pos ⟨hfix, hsec⟩

/-- On a change of section, and on the first tag, the facing rule decides (R12, R13). -/
theorem acceptTag_facing_newSection (h : ¬(p.validity ≠ .none ∧ p.sec = sec)) :
    (acceptTag sections p dir tag sec d).facing = facingOnEntry sections p dir sec d :=
  if_neg h

end AcceptedFacing

/-- Settles O13: each refusal is one branch of `tagArrives` and `tagPlaced`, and the facing of an
accepted tag one case of the facing rule. -/
theorem tagReadsAreRefusedOrAccepted : Obligations.TagReadsAreRefusedOrAccepted := by
  constructor
  · intro tag s hup p place taken again behind
    have arrives (h : taken) : exec (.tagRead tag) s = .next (tagArrives tag s) :=
      exec_tagRead_onLayout hup ((onLayout_iff s).mpr h) tag
    refine ⟨fun h => exec_tagRead_offLayout hup (mt (onLayout_iff s).mp h) tag, fun h hplace => ?_,
      fun h hplace => ?_, fun sec d h hplace hagain => ?_, fun sec d h hplace hnew hvalid hsec hbehind => ?_⟩
    · rw [arrives h, tagArrives_unmapped hplace]
    · rw [arrives h, tagArrives_badMark hplace]
    · rw [arrives h, tagArrives_place hplace, tagPlaced_repeat ((isRepeat_iff _ _).mpr hagain)]
    · rw [arrives h, tagArrives_place hplace, tagPlaced_stale (mt (isRepeat_iff _ _).mp hnew)
        ((isStale_iff _ _ _ _).mpr ⟨hvalid, hsec, hbehind⟩)]
  · intro tag sec d s hup hmode hplace p e hnew hahead
    refine ⟨(acceptTag s.pos.sections p s.gov.direction tag sec d).facing, ?_, ?_⟩
    · rw [exec_tagRead_onLayout hup ((onLayout_iff s).mpr hmode), tagArrives_place hplace,
        tagPlaced_accepted (mt (isRepeat_iff _ _).mp hnew) (mt (isStale_iff _ _ _ _).mp hahead)]
      rfl
    · intro turned
      have moved (h : ¬(p.validity ≠ .none ∧ p.sec = sec)) :=
        (acceptTag_facing_newSection s.pos.sections s.gov.direction tag d h).trans
          (facingOnEntry_eq s.pos.sections p s.gov.direction sec d)
      refine ⟨fun hfix hsec => acceptTag_facing_sameSection _ _ _ _ hfix hsec,
        fun hfix hsec hrev => ?_, fun hfix hsec hrev hfwd => ?_, fun hfix hsec hrev hfwd => ?_,
        fun hfirst => ?_⟩
      · rw [moved fun h => hsec h.2, if_neg hfix, if_pos hrev]
        rfl
      · rw [moved fun h => hsec h.2, if_neg hfix, if_neg hrev, if_pos hfwd]
        rfl
      · rw [moved fun h => hsec h.2, if_neg hfix, if_neg hrev, if_neg hfwd]
        rfl
      · rw [moved fun h => h.1 hfirst, if_pos hfirst]
        rfl

/-! ## Wheel pulses and the bin timer -/

/-- WHEEL_PULSE with the supply up. -/
theorem exec_wheelPulse {s : State} (hup : s.held = false) : exec .wheelPulse s = .next (pulseArrives s) :=
  whileUp_up hup _

/-- Without a position a pulse only counts in the current bin (R14, R17). -/
theorem pulseArrives_noFix {s : State} (h : s.pos.record.validity = .none) :
    pulseArrives s = s.setPos { s.pos with bins := countPulse s.pos.bins } :=
  if_pos h

/-- With a position a pulse counts and moves the record (R14, R17). -/
theorem pulseArrives_fix {s : State} (h : s.pos.record.validity ≠ .none) :
    pulseArrives s = movePosition (s.setPos { s.pos with bins := countPulse s.pos.bins }) :=
  if_neg h

/-- The record of R14 and R15 with a validity: what a pulse makes of the position record. -/
def pulsedRecord (s : State) (v : Validity) : Position :=
  let p := s.pos.record
  let total := p.residue + s.node.settings.mmPerPulse
  { p with
    distance := min (sectionAt s.pos.sections p.sec).length
      (if (p.facing = .fwd ∧ s.gov.direction = .forward) ∨ (p.facing = .rev ∧ s.gov.direction = .reverse)
       then p.distance + total / 16 else p.distance - total / 16)
    validity := v
    travel := min 65535 (p.travel + total / 16)
    residue := total % 16 }

theorem odometerMove_eq (s : State) :
    odometerMove s.pos.sections s.pos.record s.gov.direction s.node.settings.mmPerPulse =
      pulsedRecord s s.pos.record.validity := by
  simp only [odometerMove, pulseMove, pulsedRecord, rising_iff]

theorem becomesLost_iff (p : Position) (lostDistance : Nat) :
    becomesLost p lostDistance = true ↔ p.validity = .valid ∧ p.travel > lostDistance := by
  simp [becomesLost]

/-- Within the lost distance a pulse keeps the validity, and nothing is posted (R16). -/
theorem movePosition_kept (s : State)
    (hkept : ¬(s.pos.record.validity = .valid ∧
      (pulsedRecord s s.pos.record.validity).travel > s.node.settings.lostDistance)) :
    movePosition s = positionCheck (some s.pos.record.sec)
      (some (pulseMove s.pos.record s.node.settings.mmPerPulse))
      (s.setPos { s.pos with record := pulsedRecord s s.pos.record.validity }) := by
  have hrecord : movedRecord s = pulsedRecord s s.pos.record.validity := by
    rw [movedRecord, odometerMove_eq]
    exact if_neg (mt (becomesLost_iff _ _).mp hkept)
  have hsilent : ¬(s.pos.record.validity = .valid ∧ s.pos.record.validity = .lost) := by
    rintro ⟨hvalid, hlost⟩
    exact absurd (hvalid.symm.trans hlost) (by decide)
  rw [movePosition, hrecord, noteLost]
  exact congrArg _ (if_neg hsilent)

/-- Beyond the lost distance a pulse makes a VALID record LOST, with a POSITION_LOST record (R16). -/
theorem movePosition_lost (s : State)
    (hlost : s.pos.record.validity = .valid ∧
      (pulsedRecord s s.pos.record.validity).travel > s.node.settings.lostDistance) :
    movePosition s = positionCheck (some s.pos.record.sec)
      (some (pulseMove s.pos.record s.node.settings.mmPerPulse))
      (postLost (pulsedRecord s .lost) (s.setPos { s.pos with record := pulsedRecord s .lost })) := by
  have hrecord : movedRecord s = pulsedRecord s .lost := by
    rw [movedRecord, odometerMove_eq]
    exact if_pos ((becomesLost_iff _ _).mpr hlost)
  rw [movePosition, hrecord, noteLost]
  exact congrArg _ (if_pos ⟨hlost.1, rfl⟩)

/-- BIN_TIMER with the supply up and the timer running. -/
theorem exec_binTimer {s : State} (hup : s.held = false) (hrun : s.pos.binTimer.isSome = true) :
    exec .binTimer s = .next (binExpires s) :=
  (whileUp_up hup _).trans (congrArg _ (if_pos hrun))

theorem speedOfBins_five (a b c d e mmPerPulse : Nat) :
    speedOfBins [a, b, c, d, e] mmPerPulse = min 1023 ((a + b + c + d + e) * mmPerPulse * 10 / 16) := by
  simp [speedOfBins, Nat.add_assoc]

/-- Settles O14: a pulse counts, and then moves the record within or beyond the lost distance. -/
theorem pulsesAndBinsMeasureTravel : Obligations.PulsesAndBinsMeasureTravel := by
  constructor
  · intro bin older s hup hbins p total mm travel rises distance counted lost record
    have hcounted : s.setPos { s.pos with bins := countPulse s.pos.bins } = s.setPos counted := by
      rw [hbins]
      rfl
    refine ⟨fun hnone => ?_, fun hfix hkept => ?_, fun hlost => ?_⟩
    · rw [exec_wheelPulse hup, pulseArrives_noFix hnone, hcounted]
      rfl
    · rw [exec_wheelPulse hup, pulseArrives_fix hfix, hcounted, movePosition_kept (s.setPos counted) hkept]
      rfl
    · have hfix : s.pos.record.validity ≠ .none := fun h => absurd (hlost.1.symm.trans h) (by decide)
      rw [exec_wheelPulse hup, pulseArrives_fix hfix, hcounted, movePosition_lost (s.setPos counted) hlost]
      rfl
  · intro a b c d e s hup hrun hbins speed
    have hspeed : speedOfBins s.pos.bins s.node.settings.mmPerPulse = speed := by
      rw [hbins, speedOfBins_five]
    rw [exec_binTimer hup hrun, binExpires, hspeed, hbins]
    rfl

end Sys2Proof.Proofs
end

section
/-! PROOFS. The look-ahead chain (R19 to R21), and the peers on it: raw offsets, the rig ahead and gaps
(R61, R70 to R76). -/

namespace Sys2Proof.Proofs

open Sys2Proof.Machine

/-! ## The look-ahead chain -/

/-- The further element a section leads into: its whole length, in the facing of R20. -/
def elementAfter (sections : List SectionEntry) (x : ChainElement) (u : Nat) : ChainElement :=
  ⟨u, (sectionAt sections u).kind, (sectionAt sections u).length, (sectionAt sections u).cap,
    entryFacing sections x.sec u, x.offset + x.span, (sectionAt sections u).length⟩

/-- The element that follows one in a chain that holds these sections; none at a YARD, at END and at a
section held already (R19). -/
def nextOnChain (sections : List SectionEntry) (seen : List Nat) (x : ChainElement) : Option ChainElement :=
  if x.kind = .yard then none
  else (linkFrom (sectionAt sections x.sec) x.facing).bind
    (fun u => if u ∈ seen then none else some (elementAfter sections x u))

theorem nextOnChain_eq_some {sections : List SectionEntry} {seen : List Nat} {x y : ChainElement} :
    nextOnChain sections seen x = some y ↔ x.kind ≠ .yard ∧
      ∃ u, linkFrom (sectionAt sections x.sec) x.facing = some u ∧ u ∉ seen ∧
        elementAfter sections x u = y := by
  simp [nextOnChain, Option.bind_eq_some_iff]

theorem nextOnChain_eq_none {sections : List SectionEntry} {seen : List Nat} {x : ChainElement} :
    nextOnChain sections seen x = none ↔ x.kind = .yard ∨
      linkFrom (sectionAt sections x.sec) x.facing = none ∨
        ∃ u ∈ seen, linkFrom (sectionAt sections x.sec) x.facing = some u := by
  by_cases hyard : x.kind = .yard
  · simp [nextOnChain, hyard]
  · cases hlink : linkFrom (sectionAt sections x.sec) x.facing <;> simp [nextOnChain, hyard, hlink]

/-- Only which sections the chain holds matters, not their order. -/
theorem nextOnChain_congr {sections : List SectionEntry} {seen seen' : List Nat}
    (h : ∀ u, u ∈ seen ↔ u ∈ seen') (x : ChainElement) :
    nextOnChain sections seen x = nextOnChain sections seen' x := by
  simp only [nextOnChain, h]

/-- One step of the chain's recursion. -/
theorem chainFrom_succ (sections : List SectionEntry) (k : Nat) (seen : List Nat) (x : ChainElement) :
    chainFrom sections (k + 1) seen x =
      x :: ((nextOnChain sections seen x).map (fun y => chainFrom sections k (y.sec :: seen) y)).getD [] := by
  by_cases hyard : x.kind = .yard
  · simp [chainFrom, nextOnChain, hyard]
  · cases hlink : linkFrom (sectionAt sections x.sec) x.facing with
    | none => simp [chainFrom, nextOnChain, hyard, hlink]
    | some u => by_cases hu : u ∈ seen <;> simp [chainFrom, nextOnChain, hyard, hlink, hu, elementAfter]

theorem chainFrom_head (sections : List SectionEntry) (k : Nat) (seen : List Nat) (x : ChainElement) :
    (chainFrom sections k seen x)[0]? = some x := by
  cases k with
  | zero => rfl
  | succ k => rw [chainFrom_succ]; rfl

theorem chainFrom_length (sections : List SectionEntry) (k : Nat) (seen : List Nat) (x : ChainElement) :
    (chainFrom sections k seen x).length ≤ k + 1 := by
  induction k generalizing seen x with
  | zero => exact Nat.le_refl 1
  | succ k ih =>
    rw [chainFrom_succ]
    cases nextOnChain sections seen x with
    | none => simp
    | some y => exact Nat.succ_le_succ (ih _ y)

/-- What follows an element of the chain, by the sections that stand up to it. -/
theorem chainFrom_step (sections : List SectionEntry) (k : Nat) (held : List Nat) (x : ChainElement)
    {i : Nat} {y : ChainElement} (hy : (chainFrom sections k (x.sec :: held) x)[i]? = some y) :
    (chainFrom sections k (x.sec :: held) x)[i + 1]? = if i < k then
      nextOnChain sections (held ++ ((chainFrom sections k (x.sec :: held) x).take (i + 1)).map (·.sec)) y
      else none := by
  induction k generalizing held x i with
  | zero => simp [chainFrom]
  | succ k ih =>
    have hfirst : nextOnChain sections (held ++ [x.sec]) x = nextOnChain sections (x.sec :: held) x :=
      nextOnChain_congr (by simp [or_comm]) x
    rw [chainFrom_succ] at hy ⊢
    cases hnext : nextOnChain sections (x.sec :: held) x with
    | none =>
      obtain ⟨rfl, rfl⟩ : i = 0 ∧ x = y := by cases i <;> simp_all
      simp [hfirst, hnext]
    | some z =>
      simp only [hnext, Option.map_some, Option.getD_some] at hy ⊢
      cases i with
      | zero =>
        obtain rfl : x = y := by simpa using hy
        rw [List.getElem?_cons_succ, chainFrom_head, if_pos k.succ_pos, ← hnext]
        exact hfirst.symm
      | succ i =>
        rw [List.getElem?_cons_succ] at hy ⊢
        rw [ih (x.sec :: held) z hy, List.take_succ_cons, List.map_cons]
        simp only [Nat.add_lt_add_iff_right]
        congr 1
        exact nextOnChain_congr (by simp [or_left_comm]) y

/-- The first element of the chain: the own section from the own place to the boundary (R19). -/
def ownElement (s : State) : ChainElement :=
  let p := s.pos.record
  let e := sectionAt s.pos.sections p.sec
  ⟨p.sec, e.kind, e.length, e.cap, p.facing, 0,
    if p.facing = .fwd then e.length - p.distance else p.distance⟩

theorem chain_noFix {s : State} (h : s.pos.record.validity = .none) : chain s = [] :=
  if_pos h

theorem chain_fix {s : State} (h : s.pos.record.validity ≠ .none) :
    chain s = chainFrom s.pos.sections 2 [s.pos.record.sec] (ownElement s) := by
  rw [chain, chainOf, if_neg h, ownElement]
  cases s.pos.record.facing <;> rfl

theorem chain_length (s : State) : (chain s).length ≤ 3 := by
  by_cases h : s.pos.record.validity = .none
  · simp [chain_noFix h]
  · exact chain_fix h ▸ chainFrom_length _ 2 _ _

theorem chain_head {s : State} (h : s.pos.record.validity ≠ .none) : (chain s)[0]? = some (ownElement s) :=
  chain_fix h ▸ chainFrom_head _ 2 _ _

/-- The sections of the chain up to a place in it. -/
def sectionsUpTo (s : State) (i : Nat) : List Nat := ((chain s).take (i + 1)).map (·.sec)

/-- An element is followed by what its link leads to, up to three elements (R19). -/
theorem chain_step {s : State} {i : Nat} {x : ChainElement} (hx : (chain s)[i]? = some x) :
    (chain s)[i + 1]? = if i < 2 then nextOnChain s.pos.sections (sectionsUpTo s i) x else none := by
  by_cases h : s.pos.record.validity = .none
  · simp [chain_noFix h] at hx
  · rw [sectionsUpTo]
    rw [chain_fix h] at hx ⊢
    exact chainFrom_step s.pos.sections 2 [] (ownElement s) hx

theorem chain_ends {s : State} {i : Nat} {x : ChainElement} (hx : (chain s)[i]? = some x)
    (hend : (chain s)[i + 1]? = none) : (chain s).length = i + 1 := by
  have hlt : i < (chain s).length := (List.getElem?_eq_some_iff.mp hx).1
  have hle : (chain s).length ≤ i + 1 := List.getElem?_eq_none_iff.mp hend
  omega

/-- A later element of the chain is of a section that no earlier one has. -/
theorem chain_sec_lt {s : State} {i j : Nat} {x y : ChainElement} (hx : (chain s)[i]? = some x)
    (hy : (chain s)[j]? = some y) (hij : i < j) : x.sec ≠ y.sec := by
  obtain ⟨j, rfl⟩ := Nat.exists_eq_succ_of_ne_zero (Nat.ne_zero_of_lt hij)
  have hj : j < (chain s).length := Nat.lt_of_succ_lt (List.getElem?_eq_some_iff.mp hy).1
  have hstep := chain_step (List.getElem?_eq_getElem hj)
  rw [Nat.succ_eq_add_one] at hy
  rw [hy] at hstep
  split at hstep
  · obtain ⟨-, u, -, hu, rfl⟩ := nextOnChain_eq_some.mp hstep.symm
    have hmem : x.sec ∈ sectionsUpTo s j :=
      List.mem_map_of_mem (List.mem_of_getElem? ((List.getElem?_take_of_lt hij).trans hx))
    exact ne_of_mem_of_not_mem hmem hu
  · exact absurd hstep (by simp)

/-- No section stands in the chain twice. -/
theorem chain_sec_inj {s : State} {i j : Nat} {x y : ChainElement} (hx : (chain s)[i]? = some x)
    (hy : (chain s)[j]? = some y) (h : x.sec = y.sec) : i = j := by
  rcases Nat.lt_trichotomy i j with hlt | heq | hgt
  · exact absurd h (chain_sec_lt hx hy hlt)
  · exact heq
  · exact absurd h.symm (chain_sec_lt hy hx hgt)

/-- The chain with its indices. -/
theorem zip_chain_getElem? (s : State) (i : Nat) :
    ((List.range 3).zip (chain s))[i]? = (chain s)[i]?.map (fun x => (i, x)) := by
  cases hx : (chain s)[i]? with
  | none => simp [List.getElem?_zip_eq_some, Option.eq_none_iff_forall_not_mem, hx]
  | some x =>
    have hlt : i < (chain s).length := (List.getElem?_eq_some_iff.mp hx).1
    have hrange : (List.range 3)[i]? = some i := List.getElem?_range (hlt.trans_le (chain_length s))
    exact List.getElem?_zip_eq_some.mpr ⟨hrange, hx⟩

/-- The membership answer is the one element of that section (R21). -/
theorem chainElement_eq_some {s : State} {sec i : Nat} {x : ChainElement} :
    chainElement s sec = some (i, x) ↔ (chain s)[i]? = some x ∧ x.sec = sec := by
  have sound {j : Nat} {y : ChainElement} (h : chainElement s sec = some (j, y)) :
      (chain s)[j]? = some y ∧ y.sec = sec := by
    obtain ⟨k, hk⟩ := List.mem_iff_getElem?.mp (List.mem_of_find?_eq_some h)
    rw [zip_chain_getElem?] at hk
    obtain ⟨z, hz, hzy⟩ := Option.map_eq_some_iff.mp hk
    cases hzy
    exact ⟨hz, by simpa using List.find?_some h⟩
  refine ⟨sound, fun ⟨hx, hsec⟩ => ?_⟩
  cases hfound : chainElement s sec with
  | none =>
    have hmem : (i, x) ∈ (List.range 3).zip (chain s) :=
      List.mem_of_getElem? ((zip_chain_getElem? s i).trans (by rw [hx]; rfl))
    exact absurd hsec (by simpa using List.find?_eq_none.mp hfound _ hmem)
  | some found =>
    obtain ⟨j, y⟩ := found
    obtain ⟨hy, hysec⟩ := sound hfound
    obtain rfl := chain_sec_inj hx hy (hsec.trans hysec.symm)
    rw [Option.some.inj (hx.symm.trans hy)]

theorem chainElement_eq_none {s : State} {sec : Nat} :
    chainElement s sec = none ↔ ∀ x ∈ chain s, x.sec ≠ sec := by
  refine ⟨fun h x hx hsec => ?_, fun h => Option.eq_none_iff_forall_not_mem.mpr fun ⟨i, x⟩ hx => ?_⟩
  · obtain ⟨i, hi⟩ := List.mem_iff_getElem?.mp hx
    exact absurd (h.symm.trans (chainElement_eq_some.mpr ⟨hi, hsec⟩)) (by simp)
  · obtain ⟨hi, hsec⟩ := chainElement_eq_some.mp hx
    exact h x (List.mem_of_getElem? hi) hsec

theorem linkFrom_eq (e : SectionEntry) (f : Facing) :
    linkFrom e f = if f = .fwd then e.nextFwd else e.nextRev := by
  cases f <;> rfl

/-! ## Raw offsets -/

/-- A peer that is not fresh, or not VALID, is not on the own road (R71). -/
theorem rawOffset_notHeard {s : State} {e : PeerEntry} (h : ¬(peerFresh s e && e.valid) = true) :
    rawOffset s e = none := by
  rw [rawOffset, if_neg h]

/-- A peer off the chain is not on the own road (R72). -/
theorem rawOffset_offChain {s : State} {e : PeerEntry} (h : chainElement s e.sec = none) :
    rawOffset s e = none := by
  simp only [rawOffset, h, ite_self]

/-- A peer that faces against the chain is not on the own road (R72). -/
theorem rawOffset_against {s : State} {e : PeerEntry} {i : Nat} {x : ChainElement}
    (h : chainElement s e.sec = some (i, x)) (hface : x.facing ≠ e.facing) : rawOffset s e = none := by
  simp only [rawOffset, h, if_pos hface.symm, ite_self]

/-- The raw offset of a peer on the own road (R73). -/
theorem rawOffset_onChain {s : State} {e : PeerEntry} {i : Nat} {x : ChainElement}
    (hheard : (peerFresh s e && e.valid) = true) (h : chainElement s e.sec = some (i, x))
    (hface : x.facing = e.facing) :
    rawOffset s e = some (if i = 0 then
      (if x.facing = .fwd then (projected s e : Int) - s.pos.record.distance
       else (s.pos.record.distance : Int) - projected s e)
      else Int.ofNat (x.offset + if x.facing = .fwd then projected s e else x.length - projected s e)) := by
  rw [rawOffset, if_pos hheard, h]
  simp only [hface, ne_eq, not_true_eq_false, if_false]
  cases e.facing <;> split <;> rfl

theorem peerFresh_iff (s : State) (e : PeerEntry) : peerFresh s e = true ↔
    age s.time e.received ≤ 32767 ∧
      age s.time e.received ≤ (if e.parked then 3000 else s.node.settings.peerLapse) := by
  rw [peerFresh, isFresh, lapseTime, decide_eq_true_iff, and_comm]

/-- The projected distance moves on with the reported sense of travel (R70). -/
theorem projected_eq (s : State) (e : PeerEntry) : projected s e =
    min (sectionAt s.pos.sections e.sec).length
      (if (e.facing = .fwd ∧ e.reversing = false) ∨ (e.facing = .rev ∧ e.reversing = true)
       then e.distance + e.speed * age s.time e.received / 1000
       else e.distance - e.speed * age s.time e.received / 1000) := by
  have hsense : rising e.facing (if e.reversing then .reverse else .forward) = true ↔
      (e.facing = .fwd ∧ e.reversing = false) ∨ (e.facing = .rev ∧ e.reversing = true) := by
    cases e.facing <;> cases e.reversing <;> decide
  simp only [projected, hsense]

/-! ## The rig ahead -/

theorem candidate_eq_some {s : State} {e : PeerEntry} {a : Ahead} :
    candidate s e = some a ↔ a.entry = e ∧ rawOffset s e = some (Int.ofNat a.offset) := by
  obtain ⟨r, f⟩ := a
  rw [candidate]
  split
  · next r' h => simp [h, and_comm, eq_comm]
  · next h => simpa using fun _ => h r

theorem candidate_eq_none {s : State} {e : PeerEntry} :
    candidate s e = none ↔ ∀ r, rawOffset s e ≠ some (Int.ofNat r) := by
  simp only [Option.eq_none_iff_forall_ne_some, ne_eq, candidate_eq_some]
  exact ⟨fun h r hr => h ⟨r, e⟩ ⟨rfl, hr⟩, fun h a ha => h a.offset ha.2⟩

/-- The order of R75: the smaller raw offset, the lower station of equal ones. -/
def NotBehind (a b : Ahead) : Prop :=
  a.offset < b.offset ∨ (a.offset = b.offset ∧ a.entry.station ≤ b.entry.station)

theorem NotBehind.refl (a : Ahead) : NotBehind a a := .inr ⟨rfl, Nat.le_refl _⟩

theorem NotBehind.trans {a b c : Ahead} (hab : NotBehind a b) (hbc : NotBehind b c) : NotBehind a c := by
  unfold NotBehind at *
  omega

theorem before_iff (a b : Ahead) : a.before b = true ↔ ¬NotBehind b a := by
  simp only [Ahead.before, NotBehind, decide_eq_true_eq]
  omega

/-- The nearer of two candidates is one of them, and behind neither. -/
theorem nearer_some (b a : Ahead) : ∃ c, nearer (some b) a = some c ∧ (c = b ∨ c = a) ∧
    NotBehind c b ∧ NotBehind c a := by
  by_cases h : a.before b = true
  · have hab : NotBehind a b := by
      have := (before_iff a b).mp h
      unfold NotBehind at *
      omega
    exact ⟨a, if_pos h, .inr rfl, hab, .refl a⟩
  · exact ⟨b, if_neg h, .inl rfl, .refl b, not_not.mp (mt (before_iff a b).mpr h)⟩

/-- Folding `nearer` over candidates from a first one keeps the nearest of all. -/
theorem foldl_nearer_some (candidates : List Ahead) (b : Ahead) :
    ∃ c, candidates.foldl nearer (some b) = some c ∧ c ∈ b :: candidates ∧
      ∀ a ∈ b :: candidates, NotBehind c a := by
  induction candidates generalizing b with
  | nil => exact ⟨b, rfl, List.mem_cons_self, by simpa using NotBehind.refl b⟩
  | cons a rest ih =>
    obtain ⟨m, hm, hmem, hmb, hma⟩ := nearer_some b a
    obtain ⟨c, hc, hcmem, hleast⟩ := ih m
    have hcm : NotBehind c m := hleast m List.mem_cons_self
    refine ⟨c, by rw [List.foldl_cons, hm, hc], ?_, ?_⟩
    · rcases List.mem_cons.mp hcmem with rfl | hrest
      · rcases hmem with rfl | rfl <;> simp
      · simp [hrest]
    · simp only [List.forall_mem_cons]
      exact ⟨hcm.trans hmb, hcm.trans hma, fun x hx => hleast x (List.mem_cons_of_mem m hx)⟩

/-- The peers of the table that can be the rig ahead. -/
def candidates (s : State) : List Ahead := s.peer.entries.filterMap (fun o => o.bind (candidate s))

theorem mem_candidates {s : State} {a : Ahead} : a ∈ candidates s ↔
    some a.entry ∈ s.peer.entries ∧ rawOffset s a.entry = some (Int.ofNat a.offset) := by
  simp only [candidates, List.mem_filterMap, Option.bind_eq_some_iff, candidate_eq_some]
  constructor
  · rintro ⟨_, hmem, _, rfl, rfl, hraw⟩
    exact ⟨hmem, hraw⟩
  · rintro ⟨hmem, hraw⟩
    exact ⟨_, hmem, _, rfl, rfl, hraw⟩

theorem rigAhead_eq_none {s : State} : rigAhead s = none ↔ candidates s = [] := by
  rw [rigAhead, ← candidates]
  cases candidates s with
  | nil => simp
  | cons b rest =>
    obtain ⟨c, hc, -, -⟩ := foldl_nearer_some rest b
    simp [nearer, hc]

/-- The rig ahead is a candidate, and no candidate is nearer (R75). -/
theorem rigAhead_nearest {s : State} {a : Ahead} (h : rigAhead s = some a) :
    a ∈ candidates s ∧ ∀ b ∈ candidates s, NotBehind a b := by
  rw [rigAhead, ← candidates] at h
  cases hall : candidates s with
  | nil => simp [hall] at h
  | cons b rest =>
    obtain ⟨c, hc, hmem, hleast⟩ := foldl_nearer_some rest b
    have hca : some c = some a := hc.symm.trans (by rwa [hall] at h)
    cases hca
    exact ⟨hmem, hleast⟩

theorem rigAheadAnswer_none {s : State} (h : rigAhead s = none) : rigAheadAnswer s = ⟨none, 16383⟩ := by
  simp only [rigAheadAnswer, h]

theorem rigAheadAnswer_some {s : State} {a : Ahead} (h : rigAhead s = some a) :
    rigAheadAnswer s = ⟨some a, a.gap⟩ := by
  simp only [rigAheadAnswer, h]

/-! ## The gap to a station -/

theorem peerOf_absent {s : State} {station : Nat}
    (h : ∀ e, some e ∈ s.peer.entries → e.station ≠ station) : peerOf s station = none := by
  refine List.findSome?_eq_none_iff.mpr fun o ho => ?_
  cases o with
  | none => rfl
  | some e => exact if_neg (h e ho)

/-- The entry of a station is the first that names it. -/
theorem peerOf_first {s : State} {i : Nat} {e : PeerEntry} (he : s.peer.entries[i]? = some (some e))
    (hfirst : ∀ j < i, ∀ x : PeerEntry, s.peer.entries[j]? = some (some x) → x.station ≠ e.station) :
    peerOf s e.station = some e := by
  obtain ⟨hlt, hget⟩ := List.getElem?_eq_some_iff.mp he
  refine List.findSome?_eq_some_iff.mpr ⟨s.peer.entries.take i, some e, s.peer.entries.drop (i + 1), ?_,
    by simp, fun o ho => ?_⟩
  · rw [← hget, ← List.drop_eq_getElem_cons hlt, List.take_append_drop]
  · cases o with
    | none => rfl
    | some x =>
      obtain ⟨j, hj⟩ := List.mem_iff_getElem?.mp ho
      have hji : j < i := by
        have := (List.getElem?_eq_some_iff.mp hj).1
        simp only [List.length_take] at this
        omega
      exact if_neg (hfirst j hji x ((List.getElem?_take_of_lt hji).symm.trans hj))

theorem gapTo_absent {s : State} {station : Nat} (h : peerOf s station = none) : gapTo s station = none := by
  rw [gapTo, h]
  rfl

theorem gapTo_ahead {s : State} {e : PeerEntry} {r : Nat} (hpeer : peerOf s e.station = some e)
    (hraw : rawOffset s e = some (Int.ofNat r)) : gapTo s e.station = some (min 16383 (r - e.length)) := by
  have hcandidate : candidate s e = some ⟨r, e⟩ := candidate_eq_some.mpr ⟨rfl, hraw⟩
  rw [gapTo, hpeer, Option.bind_some, hcandidate]
  rfl

theorem gapTo_notAhead {s : State} {e : PeerEntry} (hpeer : peerOf s e.station = some e)
    (hraw : ∀ r, rawOffset s e ≠ some (Int.ofNat r)) : gapTo s e.station = none := by
  rw [gapTo, hpeer, Option.bind_some, candidate_eq_none.mpr hraw]
  rfl

/-- Settles O24: the chain by its step, the rig ahead as the least candidate in the order of R75. -/
theorem rigAheadIsTheNearest : Obligations.RigAheadIsTheNearest := by
  constructor
  · intro s p tab linkOf span
    refine ⟨fun hnone => ?_, fun hfix => ?_, rfl, fun i x hx => ?_, fun sec i x => chainElement_eq_some⟩
    · have hempty := chain_noFix hnone
      exact ⟨hempty, by rw [boundary, hempty]; rfl, by rw [nextElement, hempty]; rfl⟩
    · have hhead := chain_head hfix
      exact ⟨hhead, by rw [boundary, List.head?_eq_getElem?, hhead]; rfl⟩
    · intro seen
      have hlink : linkFrom (tab x.sec) x.facing = linkOf x := linkFrom_eq _ _
      refine ⟨fun hend => chain_ends hx ?_, fun u hyard hi hu hnew => ?_⟩
      · rw [chain_step hx]
        split
        · next hi =>
          refine nextOnChain_eq_none.mpr (hlink.symm ▸ ?_)
          rcases hend with hyard | htwo | hroadEnd | hheld
          · exact .inl hyard
          · omega
          · exact .inr (.inl hroadEnd)
          · exact .inr (.inr hheld)
        · rfl
      · rw [chain_step hx, if_pos hi]
        exact nextOnChain_eq_some.mpr ⟨hyard, u, hlink.trans hu, hnew, rfl⟩
  · intro s
    refine ⟨fun e hout => ?_, fun e i x hvalid hfresh hx hsec hface => ?_, peerFresh_iff s, ?_, fun a ha => ?_,
      fun h => rigAheadAnswer_none h, fun a h => rigAheadAnswer_some h,
      fun st h => gapTo_absent (peerOf_absent h), fun i e he hfirst => ?_⟩
    · rcases hout with hvalid | hstale | hoff | hagainst
      · exact rawOffset_notHeard (by simp [hvalid])
      · exact rawOffset_notHeard (by simp [hstale])
      · exact rawOffset_offChain (chainElement_eq_none.mpr hoff)
      · cases hfound : chainElement s e.sec with
        | none => exact rawOffset_offChain hfound
        | some found =>
          obtain ⟨hx, hsec⟩ := chainElement_eq_some.mp hfound
          exact rawOffset_against hfound (hagainst _ (List.mem_of_getElem? hx) hsec)
    · intro travel onward place own
      have hraw := rawOffset_onChain (by simp [hvalid, hfresh]) (chainElement_eq_some.mpr ⟨hx, hsec⟩) hface
      have hplace : projected s e = place := projected_eq s e
      rw [hplace] at hraw
      exact ⟨fun hi => hraw.trans (congrArg some (if_pos hi)), fun hi => hraw.trans (congrArg some (if_neg hi))⟩
    · rw [rigAhead_eq_none, List.eq_nil_iff_forall_not_mem]
      simp only [mem_candidates, not_and]
      exact ⟨fun h e r => h ⟨r, e⟩, fun h a => h a.entry a.offset⟩
    · obtain ⟨hmem, hleast⟩ := rigAhead_nearest ha
      obtain ⟨hentry, hraw⟩ := mem_candidates.mp hmem
      exact ⟨hentry, hraw, rfl, fun e r he hr => hleast ⟨r, e⟩ (mem_candidates.mpr ⟨he, hr⟩)⟩
    · have hpeer := peerOf_first he hfirst
      exact ⟨fun r => gapTo_ahead hpeer, gapTo_notAhead hpeer⟩

end Sys2Proof.Proofs
end

section
/-! PROOFS. Every step keeps the transmit slots, channel access and the dispatch queues consistent
(R36, R41, R49, R50, R56, R57). The part of the invariant that does not speak of channel access is
kept apart: it holds between the moves of one step, where access and slots do not yet agree. -/

namespace Sys2Proof.Proofs

open Sys2Proof.Machine Sys2Proof.Laws Sys2Proof.Safety

/-! ## Slots and what replaces them -/

@[simp] theorem slot_setSlot_same (a : Air) (id : SlotId) (x : Slot) : (a.setSlot id x).slot id = x := by
  cases id <;> rfl

theorem slot_setSlot_ne (a : Air) {id j : SlotId} (h : j ≠ id) (x : Slot) :
    (a.setSlot id x).slot j = a.slot j := by
  cases id <;> cases j <;> simp [Air.slot, Air.setSlot] at h ⊢

@[simp] theorem setSlot_access (a : Air) (id : SlotId) (x : Slot) : (a.setSlot id x).access = a.access := by
  cases id <;> rfl

@[simp] theorem setSlot_peerQueue (a : Air) (id : SlotId) (x : Slot) :
    (a.setSlot id x).peerQueue = a.peerQueue := by
  cases id <;> rfl

@[simp] theorem setSlot_cvyQueue (a : Air) (id : SlotId) (x : Slot) :
    (a.setSlot id x).cvyQueue = a.cvyQueue := by
  cases id <;> rfl

@[simp] theorem setSlot_clmQueue (a : Air) (id : SlotId) (x : Slot) :
    (a.setSlot id x).clmQueue = a.clmQueue := by
  cases id <;> rfl

@[simp] theorem air_setSlot (id : SlotId) (x : Slot) (s : State) :
    (setSlot id x s).air = s.air.setSlot id x := rfl

/-- A statement about every slot after one is replaced: the new content, and the others as before. -/
theorem forall_slot_setSlot {p : SlotId → Slot → Prop} {a : Air} {id : SlotId} {x : Slot} (hx : p id x)
    (hother : ∀ j, j ≠ id → p j (a.slot j)) (j : SlotId) : p j ((a.setSlot id x).slot j) := by
  by_cases hj : j = id
  · subst hj
    rwa [slot_setSlot_same]
  · rw [slot_setSlot_ne a hj]
    exact hother j hj

/-- A slot's parts agree with its state, and only the RELEASE slot has a reload while not ON_AIR (R41,
R45). -/
structure SlotFits (id : SlotId) (x : Slot) : Prop where
  parts : SlotInv x
  reload : id ≠ .release → x.reload.isSome → x.state = .onAir

/-- No slot is ON_AIR. -/
def AirFree (a : Air) : Prop := ∀ id, (a.slot id).state ≠ .onAir

/-- What holds of the slots and queues whatever channel access is. -/
structure PortInv (a : Air) : Prop where
  slots : ∀ id, SlotFits id (a.slot id)
  single : ∀ i j, (a.slot i).state = .onAir → (a.slot j).state = .onAir → i = j
  peerQueue : a.peerQueue.length ≤ 4
  cvyQueue : a.cvyQueue.length ≤ 4
  clmQueue : a.clmQueue.length ≤ 4

theorem airInv_iff (a : Air) : AirInv a ↔ PortInv a ∧
    (a.access = .idle → ∀ id, (a.slot id).state ≠ .pending) ∧
    (a.access = .transmitting ↔ ∃ id, (a.slot id).state = .onAir) := by
  constructor
  · intro h
    exact ⟨⟨fun id => ⟨h.slots id, h.reload id⟩, h.single, h.peerQueue, h.cvyQueue, h.clmQueue⟩, h.idle, h.onAir⟩
  · rintro ⟨h, hidle, honAir⟩
    exact ⟨fun id => (h.slots id).parts, fun id => (h.slots id).reload, hidle, honAir, h.single,
      h.peerQueue, h.cvyQueue, h.clmQueue⟩

theorem port_of_airInv {a : Air} (h : AirInv a) : PortInv a := ((airInv_iff a).mp h).1

theorem slotFits_of_airInv {a : Air} (h : AirInv a) (id : SlotId) : SlotFits id (a.slot id) :=
  (port_of_airInv h).slots id

theorem airFree_iff {a : Air} (h : AirInv a) : AirFree a ↔ a.access ≠ .transmitting := by
  rw [Ne, h.onAir, not_exists]
  rfl

/-- A slot that is not ON_AIR carries no mark (R48). -/
theorem slotInv_mark {x : Slot} (h : SlotInv x) (hx : x.state ≠ .onAir) : x.mark = [] :=
  by_contra fun hmark => hx (h.mark hmark)

/-- Replacing one slot keeps the port: the new content fits, and goes ON_AIR only where no other is. -/
theorem portInv_setSlot {a : Air} (h : PortInv a) {id : SlotId} {x : Slot} (hx : SlotFits id x)
    (hon : x.state = .onAir → ∀ j, j ≠ id → (a.slot j).state ≠ .onAir) : PortInv (a.setSlot id x) := by
  have honAir (j : SlotId) (hj : ((a.setSlot id x).slot j).state = .onAir) :
      if x.state = .onAir then j = id else j ≠ id ∧ (a.slot j).state = .onAir := by
    by_cases hjid : j = id
    · subst hjid
      rw [slot_setSlot_same] at hj
      rw [if_pos hj]
    · rw [slot_setSlot_ne a hjid] at hj
      rw [if_neg fun hxon => hon hxon j hjid hj]
      exact ⟨hjid, hj⟩
  refine ⟨forall_slot_setSlot hx fun j _ => h.slots j, fun i j hi hj => ?_, ?_, ?_, ?_⟩
  · have hi := honAir i hi
    have hj := honAir j hj
    by_cases hxon : x.state = .onAir
    · rw [if_pos hxon] at hi hj
      rw [hi, hj]
    · rw [if_neg hxon] at hi hj
      exact h.single i j hi.2 hj.2
  · simpa using h.peerQueue
  · simpa using h.cvyQueue
  · simpa using h.clmQueue

/-- Replacing one slot keeps the invariant when the slot is ON_AIR as before, and PENDING only where it
was so or access is not IDLE. -/
theorem airInv_setSlot {a : Air} (h : AirInv a) {id : SlotId} {x : Slot} (hx : SlotFits id x)
    (hon : x.state = .onAir ↔ (a.slot id).state = .onAir)
    (hpend : x.state = .pending → (a.slot id).state = .pending ∨ a.access ≠ .idle) :
    AirInv (a.setSlot id x) := by
  have hsame (j : SlotId) : ((a.setSlot id x).slot j).state = .onAir ↔ (a.slot j).state = .onAir :=
    forall_slot_setSlot (p := fun j y => y.state = .onAir ↔ (a.slot j).state = .onAir) hon
      (fun _ _ => Iff.rfl) j
  refine (airInv_iff _).mpr ⟨portInv_setSlot (port_of_airInv h) hx fun hxon j hj hjon =>
    hj (h.single j id hjon (hon.mp hxon)), fun hidle => ?_, ?_⟩
  · rw [setSlot_access] at hidle
    refine forall_slot_setSlot (p := fun _ y => y.state ≠ .pending) (fun hxp => ?_) fun j _ => h.idle hidle j
    exact (hpend hxp).elim (h.idle hidle id) fun hne => hne hidle
  · rw [setSlot_access, h.onAir]
    exact exists_congr fun j => (hsame j).symm

/-! ## Channel access -/

/-- An attempt may begin whenever no slot is ON_AIR (R50, R56). -/
theorem beginAttempt_airInv {s : State} (h : PortInv s.air) (hfree : AirFree s.air) :
    AirInv (beginAttempt s).air :=
  (airInv_iff _).mpr ⟨{ h with }, fun hidle => (nomatch hidle),
    fun ht => (nomatch ht), fun ⟨id, hid⟩ => absurd hid (hfree id)⟩

/-- Access may go IDLE when no slot is ON_AIR and none PENDING (R50, R57). -/
theorem endAttempt_airInv {s : State} (h : PortInv s.air) (hfree : AirFree s.air)
    (hnone : ∀ id, (s.air.slot id).state ≠ .pending) : AirInv (endAttempt s).air :=
  (airInv_iff _).mpr ⟨{ h with }, fun _ => hnone, fun ht => (nomatch ht), fun ⟨id, hid⟩ => absurd hid (hfree id)⟩

theorem mem_slotOrder (id : SlotId) : id ∈ slotOrder := by
  cases id <;> decide

theorem anyPending_iff (s : State) : anyPending s = true ↔ ∃ id, (s.air.slot id).state = .pending := by
  simp [anyPending, mem_slotOrder]

theorem afterTransmission_airInv {s : State} (h : PortInv s.air) (hfree : AirFree s.air) :
    AirInv (afterTransmission s).air := by
  unfold afterTransmission
  split
  · exact beginAttempt_airInv h hfree
  · next hnone => exact endAttempt_airInv h hfree fun id hid => hnone ((anyPending_iff s).mpr ⟨id, hid⟩)

/-- A slot that was EMPTY becomes PENDING, and wakes an idle access (R56). -/
theorem wakeAccess_setSlot_airInv {s : State} (h : AirInv s.air) {id : SlotId} {x : Slot}
    (hempty : (s.air.slot id).state = .empty) (hx : SlotFits id x) (hpending : x.state = .pending) :
    AirInv (wakeAccess (setSlot id x s)).air := by
  have hxon : x.state ≠ .onAir := by simp [hpending]
  unfold wakeAccess
  split
  · next hidle =>
    have hfree : AirFree s.air := (airFree_iff h).mpr (by simp_all)
    exact beginAttempt_airInv (portInv_setSlot (port_of_airInv h) hx fun hon => absurd hon hxon)
      (forall_slot_setSlot (p := fun _ y => y.state ≠ .onAir) hxon fun j _ => hfree j)
  · next hidle =>
    exact airInv_setSlot h hx (by simp [hpending, hempty]) fun _ => .inr (by simpa using hidle)

/-! ## Steps on the state -/

/-- An operation keeps the air port. -/
def KeepsAir (f : State → State) : Prop := ∀ s : State, AirInv s.air → AirInv (f s).air

/-- What leaves AIR out of its footprint keeps the air port. -/
theorem airInv_of_frame {F : Foot} {s t : State} (h : AirInv s.air) (hframe : blank F t = blank F s)
    (hF : F.air = false) : AirInv t.air := by
  rwa [blank_air hframe hF]

/-- The meaning of a command keeps the air port. -/
def StepKeepsAir (f : State → StepResult) : Prop :=
  ∀ {s t : State}, AirInv s.air → f s = .next t → AirInv t.air

/-- A command guarded by the hold of the node in reset. -/
theorem whileUp_keepsAir {f : State → State} (hf : KeepsAir f) : StepKeepsAir fun s => whileUp s f := by
  intro s t h e
  dsimp only at e
  unfold whileUp at e
  split at e <;> cases e
  · exact h
  · exact hf s h

@[simp] theorem post_air (block : BlockId) (kind : RecordKind) (first second third : Detail) (s : State) :
    (post block kind first second third s).air = s.air := rfl

@[simp] theorem raise_air (id : CounterId) (s : State) : (raise id s).air = s.air := rfl

@[simp] theorem notify_air (id : SlotId) (n : Notice) (s : State) : (notify id n s).air = s.air := rfl

@[simp] theorem notifyCancelled_air (id : SlotId) (c : Option Content) (ns : List Nat) (s : State) :
    (notifyCancelled id c ns s).air = s.air := by
  unfold notifyCancelled
  split <;> rfl

/-! ## Requests (R42 to R48) -/

theorem addSuperseding_keepsAir (id : SlotId) (c : Content) (n : Nat) : KeepsAir (addSuperseding id c n) := by
  intro s h
  obtain ⟨hparts, hreload⟩ := slotFits_of_airInv h id
  unfold addSuperseding
  dsimp only
  split
  · next hstate =>
    have hmark : (s.air.slot id).mark = [] := slotInv_mark hparts (by simp [hstate])
    have hnone := (hparts.empty hstate).2.2
    exact wakeAccess_setSlot_airInv h hstate ⟨⟨by simp, by simp, by simp [hmark]⟩, by simp [hnone]⟩ rfl
  · next hstate =>
    rw [notifyCancelled_air]
    exact airInv_setSlot h ⟨⟨by simp [hstate], by simp, hparts.mark⟩, hreload⟩ Iff.rfl .inl
  · next hstate =>
    have hkept : AirInv (s.air.setSlot id { s.air.slot id with reload := some ⟨c, [⟨n, none⟩]⟩ }) :=
      airInv_setSlot h ⟨⟨by simp [hstate], hparts.full, hparts.mark⟩, fun _ _ => hstate⟩ Iff.rfl .inl
    split
    · rwa [notifyCancelled_air]
    · exact hkept

/-- Changing the reload alone of a RELEASE slot that is not EMPTY. -/
theorem setReload_airInv {a : Air} (h : AirInv a) (hfull : (a.slot .release).state ≠ .empty) (r : Option Reload) :
    AirInv (a.setSlot .release { a.slot .release with reload := r }) := by
  obtain ⟨hparts, -⟩ := slotFits_of_airInv h .release
  exact airInv_setSlot h ⟨⟨fun he => absurd he hfull, hparts.full, hparts.mark⟩, by simp⟩ Iff.rfl .inl

theorem addToReload_keepsAir (sec n : Nat) {s : State} (h : AirInv s.air)
    (hfull : (s.air.slot .release).state ≠ .empty) :
    AirInv (addToReload (s.air.slot .release) sec n s).air := by
  have keeps := setReload_airInv h hfull
  unfold addToReload
  dsimp only
  split
  · exact keeps _
  · split
    · exact keeps _
    · split
      · exact keeps _
      · rw [notifyCancelled_air]
        exact keeps _

theorem addRelease_keepsAir (sec n : Nat) : KeepsAir (addRelease sec n) := by
  intro s h
  obtain ⟨hparts, -⟩ := slotFits_of_airInv h .release
  have hreload (r : Slot) : SlotId.release ≠ .release → r.reload.isSome → r.state = .onAir := by simp
  change SlotInv s.air.releaseSlot at hparts
  unfold addRelease
  dsimp only
  split
  · next hstate =>
    have hmark : s.air.releaseSlot.mark = [] := slotInv_mark hparts (by simp [hstate])
    exact wakeAccess_setSlot_airInv h hstate ⟨⟨by simp, by simp, by simp [hmark]⟩, hreload _⟩ rfl
  · next hstate =>
    split
    · rw [air_setSlot]
      exact airInv_setSlot h ⟨⟨by simp [hstate], hparts.full, hparts.mark⟩, hreload _⟩ Iff.rfl .inl
    · split
      · rw [air_setSlot]
        exact airInv_setSlot h ⟨⟨by simp [hstate], by simp, hparts.mark⟩, hreload _⟩ Iff.rfl .inl
      · exact addToReload_keepsAir sec n h (by simp [Air.slot, hstate])
  · next hstate => exact addToReload_keepsAir sec n h (by simp [Air.slot, hstate])

theorem addPosition_keepsAir (n : Nat) : KeepsAir (addPosition n) := by
  intro s h
  obtain ⟨hparts, -⟩ := slotFits_of_airInv h .position
  change SlotInv s.air.positionSlot at hparts
  unfold addPosition
  dsimp only
  split
  · next hstate =>
    have hmark : s.air.positionSlot.mark = [] := slotInv_mark hparts (by simp [hstate])
    have hnone := (hparts.empty hstate).2.2
    exact wakeAccess_setSlot_airInv h hstate ⟨⟨by simp, by simp, by simp [hmark]⟩, by simp [hnone]⟩ rfl
  · simpa using h

theorem cancelSlot_keepsAir (id : SlotId) (n : Nat) : KeepsAir (cancelSlot id n) := by
  intro s h
  obtain ⟨hparts, -⟩ := slotFits_of_airInv h id
  unfold cancelSlot
  dsimp only
  split
  · exact h
  · next hstate =>
    have hmark : (s.air.slot id).mark = [] := slotInv_mark hparts (by simp [hstate])
    have hkept : AirInv (s.air.setSlot id
        { s.air.slot id with state := .empty, content := none, answered := [], reload := none }) :=
      airInv_setSlot h ⟨⟨by simp, by simp, by simp [hmark]⟩, by simp⟩ (by simp [hstate]) (by simp)
    split
    · simpa using hkept
    · simpa using hkept
  · next hstate =>
    have hkept : AirInv (s.air.setSlot id
        { s.air.slot id with mark := (s.air.slot id).mark ++ [n], reload := none }) :=
      airInv_setSlot h ⟨⟨by simp [hstate], hparts.full, fun _ => hstate⟩, by simp⟩ Iff.rfl .inl
    split
    · simpa using hkept
    · exact hkept

/-- Giving a request its number touches the slot's counter alone (R42). -/
theorem takeNumber_keepsAir (id : SlotId) : KeepsAir (takeNumber id) := by
  intro s h
  obtain ⟨hparts, hreload⟩ := slotFits_of_airInv h id
  exact airInv_setSlot h ⟨⟨hparts.empty, hparts.full, hparts.mark⟩, hreload⟩ Iff.rfl .inl

theorem takeRequest_keepsAir (id : SlotId) {f : Request → Option (Nat → State → State)}
    (hf : ∀ r g, f r = some g → ∀ n, KeepsAir (g n)) : KeepsAir (takeRequest id f) := by
  intro s h
  unfold takeRequest
  split
  · exact h
  · next r rest _ =>
    split
    · exact h
    · next g hg =>
      have hnumbered : AirInv (takeNumber id (s.setMail (s.mail.setRequests id rest))).air :=
        takeNumber_keepsAir id _ h
      dsimp only
      split
      · exact hf r g hg _ _ hnumbered
      · exact hnumbered

theorem execAddRequest_keepsAir (slot : SupersedingSlot) : StepKeepsAir (execAddRequest slot) := by
  refine whileUp_keepsAir (takeRequest_keepsAir _ fun r g hg n => ?_)
  cases r with
  | add c => cases hg; exact addSuperseding_keepsAir _ c n
  | cancel => exact nomatch hg

theorem execReleaseAddRequest_keepsAir : StepKeepsAir execReleaseAddRequest := by
  refine whileUp_keepsAir (takeRequest_keepsAir _ fun r g hg n => ?_)
  cases r with
  | add c => cases hg; exact addRelease_keepsAir _ n
  | cancel => exact nomatch hg

theorem execPositionAddRequest_keepsAir : StepKeepsAir execPositionAddRequest := by
  refine whileUp_keepsAir (takeRequest_keepsAir _ fun r g hg n => ?_)
  cases r with
  | add c => cases hg; exact addPosition_keepsAir n
  | cancel => exact nomatch hg

theorem execCancelRequest_keepsAir (slot : SlotId) : StepKeepsAir (execCancelRequest slot) := by
  refine whileUp_keepsAir (takeRequest_keepsAir _ fun r g hg n => ?_)
  cases r with
  | add c => exact nomatch hg
  | cancel => cases hg; exact cancelSlot_keepsAir slot n

/-! ## Hand-over (R49, R54, R57) -/

/-- What follows the content of a slot fits it: EMPTY, or its reload PENDING (R50). -/
theorem slotFits_next (id : SlotId) (x : Slot) : SlotFits id x.next := by
  unfold Slot.next
  split
  · exact ⟨⟨by simp, by simp, by simp⟩, by simp⟩
  · next hnone => exact ⟨⟨by simp [hnone], by simp, by simp⟩, by simp [hnone]⟩

theorem next_not_onAir (x : Slot) : x.next.state ≠ .onAir := by
  unfold Slot.next
  split <;> simp

/-- Without a reload a slot is EMPTY once its content is dropped (R50). -/
theorem next_of_noReload {x : Slot} (h : x.reload = none) : x.next.state = .empty := by
  simp [Slot.next, h]

theorem transmit_airInv {s : State} (h : PortInv s.air) (hfree : AirFree s.air) {id : SlotId}
    (hpending : (s.air.slot id).state = .pending) (c : Content) : AirInv (transmit id c s).air := by
  obtain ⟨hparts, -⟩ := h.slots id
  have hx : SlotFits id { s.air.slot id with state := .onAir } :=
    ⟨⟨by simp, fun _ => hparts.full (by simp [hpending]), fun _ => rfl⟩, fun _ _ => rfl⟩
  have hport := portInv_setSlot h hx fun _ j _ => hfree j
  refine (airInv_iff _).mpr ⟨{ hport with }, fun hidle => (nomatch hidle), fun _ => ⟨id, ?_⟩, fun _ => rfl⟩
  exact congrArg Slot.state (slot_setSlot_same s.air id _)

/-- The hand-over leaves the port consistent: it walks the slots in order, and those it has passed are not
PENDING. The HALT slot that it withdraws has no reload, so it is EMPTY then (R54, R57). -/
theorem handOverFrom_airInv (l : List SlotId) {s : State} (h : PortInv s.air) (hfree : AirFree s.air)
    (hpassed : ∀ id, id ∉ l → (s.air.slot id).state ≠ .pending) : AirInv (handOverFrom l s).air := by
  induction l generalizing s with
  | nil => exact endAttempt_airInv h hfree fun id => hpassed id (by simp)
  | cons id rest ih =>
    unfold handOverFrom
    dsimp only
    split
    · next c hstate _ =>
      split
      · next hwithdrawn =>
        have hnoReload : (s.air.slot id).reload = none := by
          refine Option.not_isSome_iff_eq_none.mp fun hsome => hfree id ?_
          exact (h.slots id).reload (by simp [hwithdrawn.1]) hsome
        have hnext := next_of_noReload hnoReload
        refine ih (portInv_setSlot h (slotFits_next id _) fun hon => absurd hon (next_not_onAir _))
          (forall_slot_setSlot (p := fun _ y => y.state ≠ .onAir) (next_not_onAir _) fun j _ => hfree j)
          (forall_slot_setSlot (p := fun j y => j ∉ rest → y.state ≠ .pending) (by simp [hnext]) ?_)
        exact fun j hj hrest => hpassed j (by simp [hj, hrest])
      · exact transmit_airInv h hfree hstate c
    · next hnothing =>
      refine ih h hfree fun j hj hpending => ?_
      by_cases hjid : j = id
      · subst hjid
        have hsome := (h.slots j).parts.full (by simp [hpending])
        obtain ⟨c, hc⟩ := Option.isSome_iff_exists.mp hsome
        exact hnothing c hpending hc
      · exact hpassed j (by simp [hjid, hj]) hpending

theorem handOver_airInv {s : State} (h : PortInv s.air) (hfree : AirFree s.air) : AirInv (handOver s).air :=
  handOverFrom_airInv slotOrder h hfree fun id hid => absurd (mem_slotOrder id) hid

/-! ## Completion (R50, R51) -/

/-- The slot on the air moves on, and no slot is ON_AIR then. -/
theorem clearAir_port {s : State} (h : AirInv s.air) {id : SlotId} (hon : (s.air.slot id).state = .onAir) :
    PortInv (clearAir id s).air ∧ AirFree (clearAir id s).air := by
  have hport := portInv_setSlot (port_of_airInv h) (slotFits_next id (s.air.slot id))
    fun hx => absurd hx (next_not_onAir _)
  refine ⟨{ hport with }, ?_⟩
  exact forall_slot_setSlot (p := fun _ y => y.state ≠ .onAir) (next_not_onAir _)
    fun j hj hjon => hj (h.single j id hjon hon)

theorem noteBeacon_keepsAir (id : SlotId) : KeepsAir (noteBeacon id) := by
  intro s h
  unfold noteBeacon
  split
  · exact { h with }
  · exact h

theorem noteBeacon_slot (id j : SlotId) (s : State) : (noteBeacon id s).air.slot j = s.air.slot j := by
  unfold noteBeacon
  split <;> rfl

theorem finishSent_airInv {s : State} (h : AirInv s.air) {id : SlotId} (hon : (s.air.slot id).state = .onAir) :
    AirInv (finishSent id s).air := by
  obtain ⟨hport, hfree⟩ := clearAir_port (noteBeacon_keepsAir id (raise .sent (notify id
    (completionNotice (s.air.slot id)
      (if (s.air.slot id).mark.isEmpty then .sent else .sentDespiteCancel)) s)) h)
    ((congrArg Slot.state (noteBeacon_slot id id _)).trans hon)
  exact afterTransmission_airInv hport hfree

theorem finishAborted_airInv {s : State} (h : AirInv s.air) {id : SlotId}
    (hon : (s.air.slot id).state = .onAir) : AirInv (finishAborted id s).air := by
  obtain ⟨hport, hfree⟩ := clearAir_port (s := post .air .airAbort (.slot id) noDetail noDetail
    (raise .aborted (notify id (completionNotice (s.air.slot id) .aborted) s))) h hon
  exact afterTransmission_airInv hport hfree

theorem onAirSlot_keepsAir {f : SlotId → State → State}
    (hf : ∀ {s : State}, AirInv s.air → ∀ {id : SlotId}, (s.air.slot id).state = .onAir → AirInv (f id s).air) :
    KeepsAir (onAirSlot f) := by
  intro s h
  unfold onAirSlot
  split
  · next id hfound => exact hf h (by simpa using List.find?_some hfound)
  · exact h

theorem execDoneSignal_keepsAir : StepKeepsAir execDoneSignal :=
  whileUp_keepsAir (onAirSlot_keepsAir finishSent_airInv)

theorem execTransceiverTimeout_keepsAir : StepKeepsAir execTransceiverTimeout :=
  whileUp_keepsAir (onAirSlot_keepsAir finishAborted_airInv)

/-! ## Channel access commands (R56) -/

theorem carrierOn_keepsAir : KeepsAir carrierOn := by
  intro s h
  unfold carrierOn
  dsimp only
  split
  · exact { h with }
  · next haccess =>
    have hfree : AirFree s.air := (airFree_iff h).mpr (by simp [haccess])
    exact (airInv_iff _).mpr ⟨{ port_of_airInv h with }, fun hidle => (nomatch hidle),
      fun ht => (nomatch ht), fun ⟨id, hid⟩ => absurd hid (hfree id)⟩
  · exact { h with }
  · exact { h with }

theorem carrierOff_keepsAir : KeepsAir carrierOff := by
  intro s h
  unfold carrierOff
  dsimp only
  split <;> exact { h with }

theorem startCounting_airInv {s : State} (h : PortInv s.air) (hfree : AirFree s.air) :
    AirInv (startCounting s).air := by
  unfold startCounting
  split
  · exact handOver_airInv { h with } hfree
  · exact (airInv_iff _).mpr ⟨{ h with }, fun hidle => (nomatch hidle),
      fun ht => (nomatch ht), fun ⟨id, hid⟩ => absurd hid (hfree id)⟩

theorem quietPassed_airInv {s : State} (h : PortInv s.air) (hfree : AirFree s.air) :
    AirInv (quietPassed s).air := by
  unfold quietPassed
  split
  · exact startCounting_airInv h hfree
  · exact startCounting_airInv { h with } hfree

theorem execQuietTimer_keepsAir : StepKeepsAir execQuietTimer := by
  refine whileUp_keepsAir fun s h => ?_
  split
  · next hsensing => exact quietPassed_airInv (port_of_airInv h) ((airFree_iff h).mpr (by simp [hsensing.1]))
  · exact h

theorem execCountdownTick_keepsAir : StepKeepsAir execCountdownTick := by
  refine whileUp_keepsAir fun s h => ?_
  split
  · next hcounting =>
    unfold tickCount
    dsimp only
    split
    · exact handOver_airInv { port_of_airInv h with } ((airFree_iff h).mpr (by simp [hcounting.1]))
    · exact { h with }
  · exact h

theorem armBeacon_keepsAir (interval : Nat) : KeepsAir (armBeacon interval) := fun _ h => { h with }

theorem execBeaconTimer_keepsAir : StepKeepsAir execBeaconTimer := by
  refine whileUp_keepsAir fun s h => ?_
  split
  · exact { h with }
  · exact h

/-- The beacon timer's notices touch only the mail (R55). -/
theorem execBeaconNotice_keepsAir : StepKeepsAir execBeaconNotice :=
  whileUp_keepsAir fun s h => airInv_of_frame h (takeNotice_frame (G := footPost) rfl (fun _ _ => rfl) s) rfl

/-! ## The receive path (R28 to R36) -/

theorem setAssembler_keepsAir (a : Assembler) (gap : Timer) : KeepsAir (setAssembler a gap) :=
  fun _ h => { h with }

theorem length_append_le_four {α : Type} {l : List α} (h : l.length < dispatchCapacity) (x : α) :
    (l ++ [x]).length ≤ 4 := by
  simpa [dispatchCapacity] using h

theorem dispatchPeer_keepsAir (r : Received) (d : FilterAction) : KeepsAir (dispatchPeer r d) := by
  intro s h
  unfold dispatchPeer
  split
  · next hroom => exact { h with peerQueue := length_append_le_four hroom (r, d) }
  · exact h

theorem dispatchCvy_keepsAir (r : Received) : KeepsAir (dispatchCvy r) := by
  intro s h
  unfold dispatchCvy
  split
  · next hroom => exact { h with cvyQueue := length_append_le_four hroom r }
  · exact h

theorem dispatchClm_keepsAir (r : Received) : KeepsAir (dispatchClm r) := by
  intro s h
  unfold dispatchClm
  split
  · next hroom => exact { h with clmQueue := length_append_le_four hroom r }
  · exact h

theorem dispatchFiltered_keepsAir (r : Received) : KeepsAir (dispatchFiltered r) := by
  intro s h
  unfold dispatchFiltered
  split
  · exact h
  · exact dispatchPeer_keepsAir r _ s h

theorem dispatch_keepsAir (r : Received) : KeepsAir (dispatch r) := by
  intro s h
  unfold dispatch
  split
  · exact dispatchClm_keepsAir r _ (dispatchCvy_keepsAir r _ (dispatchFiltered_keepsAir r s h))
  · exact dispatchClm_keepsAir r s h
  · exact dispatchClm_keepsAir r s h
  · exact dispatchCvy_keepsAir r s h
  · exact dispatchCvy_keepsAir r s h

theorem noteClash_keepsAir (kind : Nat) : KeepsAir (noteClash kind) := by
  intro s h
  unfold noteClash
  split
  · exact h
  · exact { h with }

theorem complete_keepsAir (body : List Byte) (computed check : Byte) (received : Time) :
    KeepsAir (complete body computed check received) := by
  intro s h
  unfold complete
  split
  · exact dispatch_keepsAir _ _ h
  · exact noteClash_keepsAir _ _ h
  · exact h

theorem openFrame_keepsAir (b : Byte) : KeepsAir (openFrame b) := by
  intro s h
  unfold openFrame
  split <;> exact setAssembler_keepsAir _ _ s h

theorem takeByte_keepsAir (start : Bool) (b : Byte) : KeepsAir (takeByte start b) := by
  intro s h
  have hidle := setAssembler_keepsAir .idle none s h
  unfold takeByte
  split
  · split
    · exact openFrame_keepsAir b s h
    · exact h
  · split
    · exact openFrame_keepsAir b _ hidle
    · split
      · exact setAssembler_keepsAir _ _ s h
      · exact complete_keepsAir _ _ _ _ _ hidle

theorem execReceiveByte_keepsAir (start : Bool) (b : Byte) : StepKeepsAir (execReceiveByte start b) := by
  refine whileUp_keepsAir fun s h => ?_
  split
  · exact takeByte_keepsAir start b s h
  · exact h

theorem dropPartial_keepsAir : KeepsAir dropPartial := by
  intro s h
  unfold dropPartial
  split
  · exact h
  · exact setAssembler_keepsAir .idle none s h

/-! ## The owners take their copies (R36) -/

theorem length_tail_le_four {α : Type} {l rest : List α} {x : α} (h : l.length ≤ 4) (hl : l = x :: rest) :
    rest.length ≤ 4 := by
  rw [hl, List.length_cons] at h
  omega

theorem peerTakesOldest_keepsAir : KeepsAir peerTakesOldest := by
  intro s h
  unfold peerTakesOldest
  split
  · exact h
  · next r d rest hqueue =>
    have hkept : AirInv { s.air with peerQueue := rest } :=
      { h with peerQueue := length_tail_le_four h.peerQueue hqueue }
    dsimp only
    split
    · rwa [blank_air (peerTake_frame (G := footPeer) rfl _ _ _ _ _) rfl]
    · exact hkept

theorem cvyTakes_keepsAir (p : Matter → Bool) {f : Received → State → State} (hf : ∀ r, KeepsAir (f r)) :
    KeepsAir (cvyTakes p f) := by
  intro s h
  unfold cvyTakes
  split
  · exact h
  · next r rest hqueue =>
    split
    · exact hf r _ { h with cvyQueue := length_tail_le_four h.cvyQueue hqueue }
    · exact h

theorem clmTakes_keepsAir {f : Received → Option (State → State)}
    (hf : ∀ r g, f r = some g → KeepsAir g) : KeepsAir (clmTakes f) := by
  intro s h
  unfold clmTakes
  split
  · exact h
  · next r rest hqueue =>
    split
    · next g hg => exact hf r g hg _ { h with clmQueue := length_tail_le_four h.clmQueue hqueue }
    · exact h

theorem execCvyTakesPosition_keepsAir : StepKeepsAir execCvyTakesPosition := by
  refine whileUp_keepsAir (cvyTakes_keepsAir _ fun r s h => ?_)
  split
  · exact airInv_of_frame h (cvyTakePosition_frame (G := footCvy) rfl _ _ _ s) rfl
  · exact h

theorem execCvyTakesHalt_keepsAir : StepKeepsAir execCvyTakesHalt := by
  refine whileUp_keepsAir (cvyTakes_keepsAir _ fun r s h => ?_)
  split
  · split
    · exact airInv_of_frame h (recordHalt_frame (G := footCvy) rfl _ _ s) rfl
    · exact h
  · exact h

theorem execCvyTakesResume_keepsAir : StepKeepsAir execCvyTakesResume := by
  refine whileUp_keepsAir (cvyTakes_keepsAir _ fun r s h => ?_)
  split
  · exact airInv_of_frame h (liftHalt_frame (G := footCvy) rfl _ s) rfl
  · exact h

theorem execClmTakesPosition_keepsAir : StepKeepsAir execClmTakesPosition := by
  refine whileUp_keepsAir (clmTakes_keepsAir fun r g hg s h => ?_)
  split at hg <;> cases hg
  exact airInv_of_frame h (clmTakePosition_frame (G := footLearn) rfl _ _ _ s) rfl

theorem execClmTakesClaim_keepsAir : StepKeepsAir execClmTakesClaim := by
  refine whileUp_keepsAir (clmTakes_keepsAir fun r g hg s h => ?_)
  split at hg <;> cases hg
  exact airInv_of_frame h (clmTakeClaim_frame (G := footClm) rfl _ _ s) rfl

theorem execClmTakesRelease_keepsAir : StepKeepsAir execClmTakesRelease := by
  refine whileUp_keepsAir (clmTakes_keepsAir fun r g hg s h => ?_)
  split at hg <;> cases hg
  exact airInv_of_frame h (clmTakeRelease_frame (G := footClm) rfl _ _ s) rfl

/-! ## Resets and the settings load (R184, R187, R189) -/

theorem slotInv_reset : SlotInv Slot.reset :=
  ⟨fun _ => ⟨rfl, rfl, rfl⟩, fun h => absurd rfl h, fun h => absurd rfl h⟩

/-- AIR meets its invariant after a reset; the carrier line, which a reset leaves as it is, has no part in
it. -/
theorem airInv_reset : AirInv Air.reset := by
  refine ⟨fun id => ?_, fun id _ => ?_, fun _ id => ?_, ⟨fun ht => (nomatch ht), fun ⟨id, hid⟩ => ?_⟩,
    fun i j hi => ?_, Nat.zero_le _, Nat.zero_le _, Nat.zero_le _⟩
  · rw [slot_reset]
    exact slotInv_reset
  · rw [slot_reset]
    exact fun h => nomatch h
  · rw [slot_reset]
    exact fun h => nomatch h
  · rw [slot_reset] at hid
    exact nomatch hid
  · rw [slot_reset] at hi
    exact nomatch hi

theorem serviceRestart_keepsAir : KeepsAir serviceRestart := by
  intro s h
  unfold serviceRestart
  split
  · exact { airInv_reset with }
  · exact h

theorem forgetAll_air (s : State) : (forgetAll s).air = s.air :=
  blank_air (forgetAll_frame (G := footLine) rfl s) rfl

theorem loadFails_keepsAir (cause : FaultCause) (detail : Nat) : KeepsAir (loadFails cause detail) := by
  intro s h
  unfold loadFails
  rw [post_air, forgetAll_air]
  exact h

theorem readFailed_keepsAir : KeepsAir readFailed := by
  intro s h
  unfold readFailed
  split
  · exact h
  · exact loadFails_keepsAir _ _ s h

theorem postClamped_air (img : List Byte) (s : State) : (postClamped img s).air = s.air :=
  blank_air (foldl_frame (G := footPost) (fun s _ => post_frame rfl _ _ _ _ _ s) _ s) rfl

theorem handSettings_keepsAir (img : List Byte) : KeepsAir (handSettings img) := fun _ h => { h with }

theorem enterListening_keepsAir : KeepsAir enterListening := by
  intro s h
  refine armBeacon_keepsAir 0 _ ?_
  exact (forgetAll_air s).symm ▸ h

theorem readCompletes_keepsAir (img : List Byte) : KeepsAir (readCompletes img) := by
  intro s h
  unfold readCompletes
  split
  · exact loadFails_keepsAir _ _ s h
  · exact enterListening_keepsAir _ (handSettings_keepsAir img _ ((postClamped_air img s).symm ▸ h))

/-- What ends a read of the store does so only while one is under way (R186). -/
theorem whileReading_keepsAir {f : State → State} (hf : KeepsAir f) :
    StepKeepsAir fun s => whileUp s fun s => if s.node.store = .reading then f s else s := by
  refine whileUp_keepsAir fun s h => ?_
  split
  · exact hf s h
  · exact h

theorem execLoadRetry_keepsAir : StepKeepsAir execLoadRetry := by
  refine whileUp_keepsAir fun s h => ?_
  dsimp only
  split <;> exact h

theorem execStoreReadComplete_keepsAir (image : List Byte) : StepKeepsAir (execStoreReadComplete image) := by
  intro s t h e
  unfold execStoreReadComplete at e
  split at e
  · exact whileReading_keepsAir (readCompletes_keepsAir image) h e
  · cases e

/-! ## Parking (R193, R195) -/

theorem parkTest_air (s : State) : (parkTest s).air = s.air := by
  unfold parkTest
  repeat' split
  all_goals rfl

theorem enterRunning_air (s : State) : (enterRunning s).air = s.air :=
  blank_air (enterRunning_frame (G := footRun) rfl s) rfl

theorem nodeChange_keepsAir (c : FnChange) : KeepsAir (nodeChange c) := by
  intro s h
  unfold nodeChange
  split
  · split
    · rwa [parkTest_air]
    · exact h
  · split
    · unfold leaveParked
      rw [enterRunning_air]
      exact armBeacon_keepsAir 0 _ h
    · exact h
  · exact h
  · exact h
  · exact h

theorem nodeTakesChange_keepsAir : KeepsAir nodeTakesChange := by
  intro s h
  unfold nodeTakesChange
  split
  · exact h
  · exact nodeChange_keepsAir _ _ h

/-! ## Every command -/

/-- Every command keeps the air port: the owners' and the service commands by their footprints, the others
by what they do to slots, access and queues. -/
theorem exec_keepsAir (c : Instr) {s t : State} (h : AirInv s.air) (e : exec c s = .next t) : AirInv t.air := by
  cases c with
  | powerOn => cases e; exact { airInv_reset with }
  | supplyBelowDipThreshold => cases e; exact { airInv_reset with }
  | supplyDip lineHeld => cases e; exact { airInv_reset with }
  | serviceRestart => exact whileUp_keepsAir serviceRestart_keepsAir h e
  | loadRetry => exact execLoadRetry_keepsAir h e
  | storeNoAck => exact whileReading_keepsAir readFailed_keepsAir h e
  | storeByteTimeout => exact whileReading_keepsAir readFailed_keepsAir h e
  | storeReadComplete image => exact execStoreReadComplete_keepsAir image h e
  | listenTimer => exact airInv_of_frame h (execListenTimer_frame (G := footRun) rfl e) rfl
  | tagRead tag => exact airInv_of_frame h (execTagRead_frame (G := footPos) rfl tag e) rfl
  | wheelPulse => exact airInv_of_frame h (execWheelPulse_frame (G := footPos) rfl e) rfl
  | binTimer => exact airInv_of_frame h (execBinTimer_frame (G := footPos) rfl e) rfl
  | receiveByte start byte => exact execReceiveByte_keepsAir start byte h e
  | byteGapTimeout => exact whileUp_keepsAir dropPartial_keepsAir h e
  | peerTakesPosition => exact whileUp_keepsAir peerTakesOldest_keepsAir h e
  | peerSweep => exact airInv_of_frame h (execPeerSweep_frame (G := footPeer) rfl e) rfl
  | cvyTakesPosition => exact execCvyTakesPosition_keepsAir h e
  | cvyTakesHalt => exact execCvyTakesHalt_keepsAir h e
  | cvyTakesResume => exact execCvyTakesResume_keepsAir h e
  | cvySweep => exact airInv_of_frame h (execCvySweep_frame (G := footCvy) rfl e) rfl
  | cvyFunctionChange => exact airInv_of_frame h (execCvyFunctionChange_frame (G := footCvy) rfl e) rfl
  | ownCauseAdd source => exact airInv_of_frame h (execOwnCauseAdd_frame (G := footCvy) rfl source e) rfl
  | ownCauseRemove source => exact airInv_of_frame h (execOwnCauseRemove_frame (G := footCvy) rfl source e) rfl
  | acknowledgeGesture => exact airInv_of_frame h (execAcknowledgeGesture_frame (G := footCvy) rfl e) rfl
  | cvyHaltNotice => exact airInv_of_frame h (execCvyHaltNotice_frame (G := footCvy) rfl e) rfl
  | clmTakesPosition => exact execClmTakesPosition_keepsAir h e
  | clmTakesClaim => exact execClmTakesClaim_keepsAir h e
  | clmTakesRelease => exact execClmTakesRelease_keepsAir h e
  | clmSweep => exact airInv_of_frame h (execClmSweep_frame (G := footClm) rfl e) rfl
  | claimWindow sec => exact airInv_of_frame h (execClaimWindow_frame (G := footClm) rfl sec e) rfl
  | clmClaimNotice => exact airInv_of_frame h (execClmClaimNotice_frame (G := footClm) rfl e) rfl
  | clmReleaseNotice => exact airInv_of_frame h (execClmReleaseNotice_frame (G := footClm) rfl e) rfl
  | addRequest slot => exact execAddRequest_keepsAir slot h e
  | releaseAddRequest => exact execReleaseAddRequest_keepsAir h e
  | positionAddRequest => exact execPositionAddRequest_keepsAir h e
  | cancelRequest slot => exact execCancelRequest_keepsAir slot h e
  | beaconTimer => exact execBeaconTimer_keepsAir h e
  | beaconNotice => exact execBeaconNotice_keepsAir h e
  | carrierAppears => cases e; exact carrierOn_keepsAir s h
  | carrierAbsent => cases e; exact carrierOff_keepsAir s h
  | quietTimer => exact execQuietTimer_keepsAir h e
  | countdownTick => exact execCountdownTick_keepsAir h e
  | doneSignal => exact execDoneSignal_keepsAir h e
  | transceiverTimeout => exact execTransceiverTimeout_keepsAir h e
  | governorUpdate => exact airInv_of_frame h (execGovernorUpdate_frame (G := footGov) rfl e) rfl
  | frameTimer => exact airInv_of_frame h (execFrameTimer_frame (G := footDrv) rfl e) rfl
  | motorPulseEnd => exact airInv_of_frame h (execMotorPulseEnd_frame (G := footDrv) rfl e) rfl
  | throttlePulse width => exact airInv_of_frame h (execThrottlePulse_frame (G := footDrv) rfl width e) rfl
  | silenceTimer => exact airInv_of_frame h (execSilenceTimer_frame (G := footDrv) rfl e) rfl
  | functionPulse width => exact airInv_of_frame h (execFunctionPulse_frame (G := footDrv) rfl width e) rfl
  | functionSilenceTimer => exact airInv_of_frame h (execFunctionSilenceTimer_frame (G := footDrv) rfl e) rfl
  | nodeFunctionChange => exact whileUp_keepsAir nodeTakesChange_keepsAir h e
  | cycleTimer => exact airInv_of_frame h (execCycleTimer_frame (G := footTrl) rfl e) rfl
  | poll r => exact airInv_of_frame h (execPoll_frame (G := footTrl) rfl r e) rfl
  | discovery r => exact airInv_of_frame h (execDiscovery_frame (G := footTrl) rfl r e) rfl
  | assign r => exact airInv_of_frame h (execAssign_frame (G := footTrl) rfl r e) rfl
  | journalPost block => exact airInv_of_frame h (execJournalPost_frame (G := footPostTake) rfl block e) rfl
  | status => exact airInv_of_frame h (execStatus_frame (G := footService) rfl e) rfl
  | peers => exact airInv_of_frame h (execPeers_frame (G := footService) rfl e) rfl
  | claims => exact airInv_of_frame h (execClaims_frame (G := footService) rfl e) rfl
  | roster => exact airInv_of_frame h (execRoster_frame (G := footService) rfl e) rfl
  | trailers => exact airInv_of_frame h (execTrailers_frame (G := footService) rfl e) rfl
  | journal => exact airInv_of_frame h (execJournal_frame (G := footService) rfl e) rfl
  | counters => exact airInv_of_frame h (execCounters_frame (G := footService) rfl e) rfl
  | ack index => exact airInv_of_frame h (execAck_frame (G := footAck) rfl index e) rfl
  | clearCounters => exact airInv_of_frame h (execClearCounters_frame (G := footClear) rfl e) rfl
  | restart => exact airInv_of_frame h (execRestart_frame (G := footService) rfl e) rfl
  | unknown => exact airInv_of_frame h (execUnknown_frame (G := footService) rfl e) rfl
  | busy => exact airInv_of_frame h (execBusy_frame (G := footService) rfl e) rfl
  | tagGainsLine gain => exact airInv_of_frame h (execTagGainsLine_frame (G := footTrl) rfl gain e) rfl
  | tagLosesLine place => exact airInv_of_frame h (execTagLosesLine_frame (G := footTrl) rfl place e) rfl
  | answerEnded => exact airInv_of_frame h (execAnswerEnded_frame (G := footService) rfl e) rfl

/-! ## The idle node -/

theorem tick_keepsAir : KeepsAir tick := by
  intro s h
  unfold tick
  split
  · exact h
  · exact { h with }

theorem idle_keepsAir : KeepsAir idle := by
  intro s h
  unfold idle
  split
  · split
    · exact airInv_of_frame h (popResumes_frame (G := footTrl) rfl s) rfl
    · exact tick_keepsAir s h
  · exact h

/-- Settles O57: a step is the idle node's or the command's at the front of the queue, and either keeps
the invariant. -/
theorem stepsKeepTheAirPort : Obligations.StepsKeepTheAirPort := by
  intro s t h e
  unfold step at e
  split at e
  · cases e
    exact idle_keepsAir s h
  · next c rest _ => exact exec_keepsAir c (s := s.setPending rest) h e

end Sys2Proof.Proofs
end

section
/-! PROOFS. Chapter 2, the check byte (R23): the check is linear over exclusive-or, so an error pattern is
missed exactly when its own check from 0 is 0. A shift of the register keeps the parity of its bits and
takes nothing but 0 to 0. -/

namespace Sys2Proof.Proofs

open Sys2Proof.Machine Sys2Proof.Safety

/-! ## The register is linear -/

/-- What a shift puts on the register: the polynomial when the top bit drops out (R23). -/
def feedback (top : Bool) : Byte := if top then 0x07#8 else 0#8

theorem feedback_xor (p q : Bool) : feedback (p ^^ q) = feedback p ^^^ feedback q := by
  cases p <;> cases q <;> rfl

theorem crcShift_eq (r : Byte) : crcShift r = r <<< 1 ^^^ feedback r.msb := by
  unfold crcShift
  cases r.msb
  · exact BitVec.xor_zero.symm
  · rfl

theorem crcShift_xor (a b : Byte) : crcShift (a ^^^ b) = crcShift a ^^^ crcShift b := by
  simp only [crcShift_eq, BitVec.msb_xor, BitVec.shiftLeft_xor_distrib, feedback_xor]
  ac_rfl

theorem crcShifts_xor (n : Nat) (a b : Byte) : crcShifts n (a ^^^ b) = crcShifts n a ^^^ crcShifts n b := by
  induction n generalizing a b with
  | zero => rfl
  | succ n ih => rw [crcShifts, crcShift_xor, ih, crcShifts, crcShifts]

theorem crcByte_xor (r r' b b' : Byte) : crcByte (r ^^^ r') (b ^^^ b') = crcByte r b ^^^ crcByte r' b' := by
  rw [crcByte, show r ^^^ r' ^^^ (b ^^^ b') = r ^^^ b ^^^ (r' ^^^ b') by ac_rfl, crcShifts_xor]
  rfl

theorem foldl_crcByte_disturb {frame errors : List Byte} (h : errors.length = frame.length) (r r' : Byte) :
    (disturb frame errors).foldl crcByte (r ^^^ r') =
      frame.foldl crcByte r ^^^ errors.foldl crcByte r' := by
  induction frame generalizing errors r r' with
  | nil => rw [List.eq_nil_of_length_eq_zero h]; rfl
  | cons b frame ih =>
    cases errors with
    | nil => cases h
    | cons e errors =>
      rw [List.length_cons, List.length_cons, Nat.add_right_cancel_iff] at h
      exact (congrArg (List.foldl crcByte · _) (crcByte_xor r r' b e)).trans (ih h _ _)

/-- The check of a disturbed frame is that of the frame with the errors' own check, from 0, on it. -/
theorem crc_disturb {frame errors : List Byte} (h : errors.length = frame.length) :
    crc (disturb frame errors) = crc frame ^^^ errors.foldl crcByte 0 :=
  foldl_crcByte_disturb h 0xFF#8 0

/-! ## Only 0 is shifted to 0 -/

theorem crcShift_eq_zero {r : Byte} : crcShift r = 0 ↔ r = 0 := by
  decide +revert

theorem crcShifts_eq_zero (n : Nat) {r : Byte} : crcShifts n r = 0 ↔ r = 0 := by
  induction n generalizing r with
  | zero => rfl
  | succ n ih => rw [crcShifts, ih, crcShift_eq_zero]

theorem crcByte_eq_zero {r b : Byte} : crcByte r b = 0 ↔ b = r := by
  rw [crcByte, crcShifts_eq_zero]
  exact BitVec.xor_eq_zero_iff.trans eq_comm

/-- A frame passes when the check over the whole of it, its check byte included, is 0. -/
theorem passesCheck_iff {frame : List Byte} : PassesCheck frame ↔ frame ≠ [] ∧ crc frame = 0 := by
  rcases List.eq_nil_or_concat frame with rfl | ⟨covered, check, rfl⟩
  · simp [PassesCheck]
  · simpa [PassesCheck, crc] using crcByte_eq_zero.symm

/-- An error is found when its own check from 0 is not 0. -/
theorem not_passesCheck_disturb {frame errors : List Byte} (hpass : PassesCheck frame)
    (h : errors.length = frame.length) (herror : errors.foldl crcByte 0 ≠ 0) :
    ¬PassesCheck (disturb frame errors) := by
  rw [passesCheck_iff, crc_disturb h, (passesCheck_iff.mp hpass).2]
  exact fun hmissed => herror (BitVec.zero_xor.symm.trans hmissed.2)

/-! ## Parity -/

/-- Whether an odd number of the tests picks hold. -/
def oddly (p : Nat → Bool) (l : List Nat) : Bool := l.foldr (fun i odd => p i ^^ odd) false

theorem oddly_xor (p q : Nat → Bool) (l : List Nat) :
    oddly (fun i => p i ^^ q i) l = (oddly p l ^^ oddly q l) := by
  induction l with
  | nil => rfl
  | cons i l ih =>
    change ((p i ^^ q i) ^^ oddly (fun i => p i ^^ q i) l) = ((p i ^^ oddly p l) ^^ (q i ^^ oddly q l))
    rw [ih, Bool.xor_assoc, Bool.xor_assoc, Bool.xor_left_comm (q i)]

theorem oddly_eq_length_filter (p : Nat → Bool) (l : List Nat) :
    oddly p l = decide ((l.filter p).length % 2 = 1) := by
  induction l with
  | nil => rfl
  | cons i l ih =>
    change (p i ^^ oddly p l) = _
    rw [ih, List.filter_cons]
    cases p i
    · simp
    · simp only [if_true, List.length_cons, Bool.true_xor, ← decide_not, decide_eq_decide]
      omega

/-- A byte has an odd number of bits set. -/
def oddByte (b : Byte) : Bool := oddly b.getLsbD (List.range 8)

theorem oddByte_xor (a b : Byte) : oddByte (a ^^^ b) = (oddByte a ^^ oddByte b) := by
  rw [oddByte, oddByte, oddByte, ← oddly_xor]
  exact congrArg (oddly · _) (funext fun i => BitVec.getLsbD_xor)

/-- What a shift puts on the register has an odd number of bits with the one it drops. -/
theorem oddByte_crcShift (r : Byte) : oddByte (crcShift r) = oddByte r := by
  decide +revert

theorem oddByte_crcByte (r b : Byte) : oddByte (crcByte r b) = (oddByte r ^^ oddByte b) := by
  have shifts (n : Nat) (r : Byte) : oddByte (crcShifts n r) = oddByte r := by
    induction n generalizing r with
    | zero => rfl
    | succ n ih => rw [crcShifts, ih, oddByte_crcShift]
  rw [crcByte, shifts, oddByte_xor]

theorem oddByte_foldl_crcByte (bytes : List Byte) (r : Byte) :
    oddByte (bytes.foldl crcByte r) = (oddByte r ^^ decide (bitsSet bytes % 2 = 1)) := by
  induction bytes generalizing r with
  | nil => simp [bitsSet]
  | cons b bytes ih =>
    rw [List.foldl_cons, ih, oddByte_crcByte, Bool.xor_assoc]
    congr 1
    have hcons : bitsSet (b :: bytes) = ((List.range 8).filter b.getLsbD).length + bitsSet bytes := rfl
    rw [oddByte, oddly_eq_length_filter, hcons, Bool.eq_iff_iff]
    simp only [bne_iff_ne, ne_eq, decide_eq_decide, decide_eq_true_eq]
    omega

/-! ## Bursts -/

theorem crcShifts_crcShift (n : Nat) (r : Byte) : crcShifts n (crcShift r) = crcShift (crcShifts n r) := by
  induction n generalizing r with
  | zero => rfl
  | succ n ih => rw [crcShifts, ih, crcShifts]

/-- The check, from 0, of a 16-bit word sent high byte first. -/
def crcWord (w : BitVec 16) : Byte := crcByte (crcByte 0 ((w >>> 8).setWidth 8)) (w.setWidth 8)

theorem crcWord_eq (w : BitVec 16) :
    crcWord w = crcShifts 8 (crcShifts 8 ((w >>> 8).setWidth 8) ^^^ w.setWidth 8) :=
  congrArg (fun r => crcShifts 8 (crcShifts 8 r ^^^ w.setWidth 8)) BitVec.zero_xor

/-- The bit that crosses from the low byte into the high one. -/
def crossingBit (top : Bool) : Byte := if top then 0x01#8 else 0#8

theorem getLsbD_crossingBit (top : Bool) (i : Nat) : (crossingBit top).getLsbD i = (decide (i = 0) && top) := by
  cases top <;> simp [crossingBit]

theorem msb_setWidth_byte (w : BitVec 16) : (w.setWidth 8).msb = w.getLsbD 7 := by
  simp [BitVec.msb_eq_getLsbD_last]

theorem highByte_shiftLeft {w : BitVec 16} (h : w.msb = false) :
    ((w <<< 1) >>> 8).setWidth 8 = crcShift ((w >>> 8).setWidth 8) ^^^ crossingBit (w.setWidth 8).msb := by
  have htop : ((w >>> 8).setWidth 8).msb = false := by
    simpa [BitVec.msb_eq_getLsbD_last] using h
  rw [crcShift_eq, htop, show feedback false = 0#8 from rfl, BitVec.xor_zero, msb_setWidth_byte]
  refine BitVec.eq_of_getLsbD_eq fun i hi => ?_
  rw [BitVec.getLsbD_xor, getLsbD_crossingBit]
  cases i with
  | zero => simp
  | succ i =>
    have hplace : 8 + (i + 1) - 1 = 8 + i := by omega
    have hword : 8 + (i + 1) < 16 := by omega
    have hbyte : i < 8 := by omega
    simp [hplace, hword, hbyte, BitVec.getLsbD_eq_getElem (show 8 + i < 16 by omega)]

theorem lowByte_shiftLeft (w : BitVec 16) :
    (w <<< 1).setWidth 8 = crcShift (w.setWidth 8) ^^^ feedback (w.setWidth 8).msb := by
  rw [crcShift_eq, BitVec.xor_assoc, BitVec.xor_self, BitVec.xor_zero]
  ext i hi
  simp

/-- A word shifted by one has its check shifted by one: what the bit that crosses into the high byte adds
there, eight shifts later, is what the low byte's own shift adds. -/
theorem crcWord_shiftLeft {w : BitVec 16} (h : w.msb = false) : crcWord (w <<< 1) = crcShift (crcWord w) := by
  have hcrossed (top : Bool) : crcShifts 8 (crossingBit top) = feedback top := by
    cases top <;> rfl
  rw [crcWord_eq, crcWord_eq, highByte_shiftLeft h, lowByte_shiftLeft, crcShifts_xor 8 (crcShift _), hcrossed,
    ← crcShifts_crcShift, crcShift_xor, ← crcShifts_crcShift]
  congr 1
  generalize feedback (w.setWidth 8).msb = top
  generalize crcShifts 8 (crcShift ((w >>> 8).setWidth 8)) = high
  generalize crcShift (w.setWidth 8) = low
  calc high ^^^ top ^^^ (low ^^^ top) = high ^^^ low ^^^ (top ^^^ top) := by ac_rfl
    _ = high ^^^ low := by simp

/-- A burst of up to 8 bits at any place of two bytes has a check that is not 0. -/
theorem crcWord_burst (burst : Byte) {k : Nat} (hk : k ≤ 8) :
    crcWord (burst.setWidth 16 <<< k) = crcShifts (8 + k) burst := by
  induction k with
  | zero =>
    have hhigh : (burst.setWidth 16 >>> 8).setWidth 8 = 0#8 := by
      ext i hi
      simp
    rw [BitVec.shiftLeft_zero, crcWord_eq, hhigh, show crcShifts 8 0#8 = 0#8 from rfl]
    exact congrArg (crcShifts 8) (BitVec.zero_xor.trans (by ext i hi; simp))
  | succ k ih =>
    have hmsb : (burst.setWidth 16 <<< k).msb = false := by
      rw [BitVec.msb_shiftLeft, BitVec.getMsbD_setWidth]
      simp
      omega
    rw [BitVec.shiftLeft_add, crcWord_shiftLeft hmsb, ih (by omega), ← crcShifts_crcShift]
    rfl

/-- No error on `n` bytes. -/
def zeros (n : Nat) : List Byte := List.replicate n 0#8

theorem foldl_crcByte_zeros (n : Nat) {r : Byte} : (zeros n).foldl crcByte r = 0 ↔ r = 0 := by
  induction n generalizing r with
  | zero => rfl
  | succ n ih =>
    change (zeros n).foldl crcByte (crcByte r 0) = 0 ↔ r = 0
    rw [ih, crcByte_eq_zero, eq_comm]

theorem disturb_zeros (bytes : List Byte) : disturb bytes (zeros bytes.length) = bytes := by
  induction bytes with
  | nil => rfl
  | cons b bytes ih => exact congrArg₂ List.cons BitVec.xor_zero ih

theorem disturb_append {a a' : List Byte} (h : a.length = a'.length) (b b' : List Byte) :
    disturb (a ++ b) (a' ++ b') = disturb a a' ++ disturb b b' :=
  List.zipWith_append h

/-- Settles O18: the check of an odd error is odd, and the check of a burst is the burst, shifted. -/
theorem checkFindsOddAndBurstErrors : Obligations.CheckFindsOddAndBurstErrors := by
  constructor
  · intro frame errors hpass hlength hodd
    refine not_passesCheck_disturb hpass hlength fun hzero => ?_
    have hparity := oddByte_foldl_crcByte errors 0
    rw [hzero, hodd] at hparity
    exact absurd hparity (by decide)
  · intro before after x y burst k hpass hburst hk wide
    have hdisturb : disturb (before ++ [x, y] ++ after)
        (zeros before.length ++ [(wide >>> 8).setWidth 8, wide.setWidth 8] ++ zeros after.length) =
        before ++ [x ^^^ (wide >>> 8).setWidth 8, y ^^^ wide.setWidth 8] ++ after := by
      rw [disturb_append (by simp [zeros]), disturb_append (by simp [zeros]), disturb_zeros, disturb_zeros]
      rfl
    rw [← hdisturb]
    refine not_passesCheck_disturb hpass (by simp [zeros]) ?_
    rw [List.foldl_append, List.foldl_append, (foldl_crcByte_zeros before.length).mpr rfl, Ne,
      foldl_crcByte_zeros]
    change ¬crcWord wide = 0
    rwa [crcWord_burst burst hk, crcShifts_eq_zero]

end Sys2Proof.Proofs
end

section
/-! PROOFS. Chapter 2, the layouts (R22 to R27, R31): reading a body undoes the layout, and what reads is in
range. -/

namespace Sys2Proof.Proofs

open Sys2Proof.Machine Sys2Proof.Safety

/-! ## Fields and their bytes -/

theorem toNat_toByte {n : Nat} (h : n < 256) : (toByte n).toNat = n := by
  simpa [toByte] using h

/-- A two-byte field read back from its bytes (R22). -/
theorem word_twoBytes {n : Nat} (h : n < 65536) :
    256 * (toByte (n / 256)).toNat + (toByte (n % 256)).toNat = n := by
  rw [toNat_toByte (by omega), toNat_toByte (by omega)]
  omega

theorem bit_le_one (b : Bool) : bit b ≤ 1 := by
  cases b <;> decide

@[simp] theorem facing_ofCode_code (f : Facing) : Facing.ofCode f.code = f := by
  cases f <;> rfl

@[simp] theorem dir_ofCode_code (d : Dir) : Dir.ofCode d.code = d := by
  cases d <;> rfl

@[simp] theorem holdMode_ofCode_code (m : HoldMode) : HoldMode.ofCode m.code = m := by
  cases m <;> rfl

theorem facing_code_le (f : Facing) : f.code ≤ 1 := by
  cases f <;> decide

theorem dir_code_le (d : Dir) : d.code ≤ 1 := by
  cases d <;> decide

theorem holdMode_code_le (m : HoldMode) : m.code ≤ 3 := by
  cases m <;> decide

/-- A hold entry read back from its byte (2.3). -/
theorem holdEntry_ofByte_toByte {h : HoldEntry} (hr : HoldInRange h) : HoldEntry.ofByte h.toByte = h := by
  have hsec : h.sec ≤ 31 := hr
  have hdir := dir_code_le h.dir
  have hmode := holdMode_code_le h.mode
  have hbyte : h.toByte.toNat = h.sec + 32 * h.dir.code + 64 * h.mode.code := toNat_toByte (by omega)
  have h1 : h.toByte.toNat % 32 = h.sec := by omega
  have h2 : h.toByte.toNat / 32 % 2 = h.dir.code := by omega
  have h3 : h.toByte.toNat / 64 = h.mode.code := by omega
  rw [HoldEntry.ofByte, h1, h2, h3, dir_ofCode_code, holdMode_ofCode_code]

/-- Every flag read back from the flags byte (2.3). -/
theorem bitOf_flags (b : Beacon) : bitOf b.flags 0 = b.valid ∧ bitOf b.flags 1 = b.parked ∧
    bitOf b.flags 2 = b.halted ∧ bitOf b.flags 3 = b.overlength ∧ bitOf b.flags 4 = b.reversing := by
  unfold Beacon.flags
  generalize b.valid = v, b.parked = p, b.halted = h, b.overlength = o, b.reversing = r
  decide +revert

theorem flags_lt (b : Beacon) : b.flags < 32 := by
  have := bit_le_one b.valid
  have := bit_le_one b.parked
  have := bit_le_one b.halted
  have := bit_le_one b.overlength
  have := bit_le_one b.reversing
  unfold Beacon.flags
  omega

/-! ## Reading back what was laid out -/

theorem byteOf_zero (b : Byte) (l : List Byte) : byteOf (b :: l) 0 = b.toNat := rfl

theorem byteOf_succ (b : Byte) (l : List Byte) (i : Nat) : byteOf (b :: l) (i + 1) = byteOf l i := rfl

theorem readPosition_bodyOf (layout source number : Nat) {b : Beacon} (h : BeaconInRange b) :
    readPosition (bodyOf layout ⟨source, number, .position b⟩) = some (.position b) := by
  obtain ⟨hconvoy, hrank, hpred, hsize, hsec, hdistance, hspeed, hlength, hcount, hholds, hnodup⟩ := h
  have hread : ((b.holds.map HoldEntry.toByte).map HoldEntry.ofByte) = b.holds := by
    rw [List.map_map]
    exact (List.map_congr_left fun x hx => holdEntry_ofByte_toByte (hholds x hx)).trans (List.map_id _)
  have hface := facing_code_le b.facing
  have hplace : (toByte (b.sec + 128 * b.facing.code)).toNat = b.sec + 128 * b.facing.code :=
    toNat_toByte (by omega)
  have h1 : (b.sec + 128 * b.facing.code) % 32 = b.sec := by omega
  have h2 : (b.sec + 128 * b.facing.code) / 128 = b.facing.code := by omega
  obtain ⟨f0, f1, f2, f3, f4⟩ := bitOf_flags b
  have hflags := flags_lt b
  unfold readPosition
  simp only [bodyOf, Matter.bytes, twoBytes, List.cons_append, List.nil_append, wordOf, byteOf_zero, byteOf_succ,
    List.drop_succ_cons, List.drop_zero, hread, word_twoBytes (show b.distance < 65536 by omega),
    word_twoBytes (show b.speed < 65536 by omega), word_twoBytes (show b.length < 65536 by omega),
    toNat_toByte (show b.convoy < 256 by omega), toNat_toByte (show b.rank < 256 by omega),
    toNat_toByte (show b.pred < 256 by omega), toNat_toByte (show b.size < 256 by omega),
    toNat_toByte (show b.holds.length < 256 by omega), toNat_toByte (show b.flags < 256 by omega),
    hplace, h1, h2, f0, f1, f2, f3, f4, facing_ofCode_code, List.length_cons, List.length_map]
  rw [if_neg (by omega), if_neg (by omega), if_neg (by omega), if_neg (by omega), if_neg (by omega),
    if_neg (not_not.mpr hnodup)]

theorem readClaim_bodyOf (layout source number : Nat) {sec size : Nat} (dir : Dir) (waited : Bool)
    (hsec : sec ≤ 31) (hsize : 1 ≤ size ∧ size ≤ 8) :
    readClaim (bodyOf layout ⟨source, number, .claim sec dir waited size⟩) = some (.claim sec dir waited size) := by
  have hdir := dir_code_le dir
  have hwaited := bit_le_one waited
  have hbyte : (toByte (sec + 32 * dir.code + 64 * bit waited)).toNat = sec + 32 * dir.code + 64 * bit waited :=
    toNat_toByte (by omega)
  have h1 : (sec + 32 * dir.code + 64 * bit waited) % 32 = sec := by omega
  have h2 : (sec + 32 * dir.code + 64 * bit waited) / 32 % 2 = dir.code := by omega
  have h3 : bitOf (sec + 32 * dir.code + 64 * bit waited) 6 = waited := by
    have : (sec + 32 * dir.code + 64 * bit waited) / 2 ^ 6 % 2 = bit waited := by omega
    rw [bitOf, this]
    cases waited <;> rfl
  unfold readClaim
  simp only [bodyOf, Matter.bytes, List.cons_append, List.nil_append, byteOf_zero, byteOf_succ,
    toNat_toByte (show size < 256 by omega), hbyte, h1, h2, h3, dir_ofCode_code, List.length_cons, List.length_nil]
  rw [if_neg (by omega), if_neg (by omega)]

theorem readRelease_bodyOf (layout source number : Nat) {secs : List Nat}
    (hcount : secs.length = 1 ∨ secs.length = 2) (hsecs : ∀ x ∈ secs, x ≤ 31) (hnodup : secs.Nodup) :
    readRelease (bodyOf layout ⟨source, number, .release secs⟩) = some (.release secs) := by
  have hread : (secs.map toByte).map BitVec.toNat = secs := by
    rw [List.map_map]
    refine (List.map_congr_left fun x hx => toNat_toByte ?_).trans (List.map_id _)
    have := hsecs x hx
    omega
  unfold readRelease
  simp only [bodyOf, Matter.bytes, List.cons_append, List.nil_append, byteOf_zero, byteOf_succ,
    List.drop_succ_cons, List.drop_zero, hread, toNat_toByte (show secs.length < 256 by omega), List.length_cons,
    List.length_map]
  rw [if_neg (by omega), if_neg (by omega), if_neg]
  simpa [hnodup] using hsecs

theorem readHalt_bodyOf (layout source number : Nat) (cause : HaltCause) :
    readHalt (bodyOf layout ⟨source, number, .halt cause⟩) = some (.halt cause) := by
  cases cause <;> rfl

/-- The matter of every kind reads back from its body (R25 to R27). -/
theorem readMatter_bodyOf (layout : Nat) {t : Telegram} (h : MatterInRange t.matter) :
    readMatter (bodyOf layout t) = some t.matter := by
  obtain ⟨source, number, matter⟩ := t
  cases matter with
  | position b => exact readPosition_bodyOf layout source number h
  | claim sec dir waited size => exact readClaim_bodyOf layout source number dir waited h.1 h.2
  | release secs => exact readRelease_bodyOf layout source number h.1 h.2.1 h.2.2
  | halt cause => exact readHalt_bodyOf layout source number cause
  | resume => rfl

theorem formOfKind_le (kind : Nat) : formOfKind kind ≤ 2 := by
  unfold formOfKind
  split <;> omega

theorem kindCode_le (m : Matter) : m.kindCode ≤ 5 := by
  cases m <;> simp [Matter.kindCode]

theorem kindCode_pos (m : Matter) : 1 ≤ m.kindCode := by
  cases m <;> simp [Matter.kindCode]

theorem kindCode_bodyOf (layout : Nat) (t : Telegram) : byteOf (bodyOf layout t) 0 = t.matter.kindCode := by
  have := kindCode_le t.matter
  exact toNat_toByte (by omega)

theorem layout_bodyOf {layout : Nat} (h : layout ≤ 255) (t : Telegram) : byteOf (bodyOf layout t) 1 = layout :=
  toNat_toByte (by omega)

theorem readBody_bodyOf (layout : Nat) {t : Telegram} (h : TelegramInRange t) :
    readBody (bodyOf layout t) = some t := by
  obtain ⟨hsource, hnumber, hmatter⟩ := h
  have hkind := kindCode_bodyOf layout t
  have hstation : byteOf (bodyOf layout t) 2 = t.source := toNat_toByte (by omega)
  have hform := formOfKind_le t.matter.kindCode
  have hdest : byteOf (bodyOf layout t) 3 = 64 * formOfKind t.matter.kindCode + t.number :=
    toNat_toByte (by omega)
  have hnum : (64 * formOfKind t.matter.kindCode + t.number) % 64 = t.number := by omega
  simp only [readBody, hkind, hstation, hdest, readMatter_bodyOf layout hmatter, hnum]
  rw [if_neg (by omega), if_neg (by omega)]
  rfl

theorem length_positionBytes (b : Beacon) : (Matter.position b).bytes.length = 13 + b.holds.length := by
  simp only [Matter.bytes, twoBytes, List.length_append, List.length_cons, List.length_nil, List.length_map]

theorem length_releaseBytes (secs : List Nat) : (Matter.release secs).bytes.length = 1 + secs.length := by
  rw [Matter.bytes, List.length_cons, List.length_map, Nat.add_comm]

theorem length_bodyOf (layout : Nat) (t : Telegram) : (bodyOf layout t).length = 4 + t.matter.bytes.length := by
  simp only [bodyOf, List.cons_append, List.nil_append, List.length_cons]
  omega

/-- A body is 4..24 bytes long (R22, R25 to R27). -/
theorem length_bodyOf_bounds (layout : Nat) {t : Telegram} (h : MatterInRange t.matter) :
    4 ≤ (bodyOf layout t).length ∧ (bodyOf layout t).length ≤ 24 := by
  rw [length_bodyOf]
  obtain ⟨source, number, matter⟩ := t
  cases matter with
  | position b =>
    have hcount := (BeaconInRange.holds h).1
    rw [length_positionBytes]
    omega
  | claim sec dir waited size => simp [Matter.bytes]
  | release secs =>
    have hcount := h.1
    rw [length_releaseBytes]
    omega
  | halt cause => simp [Matter.bytes]
  | resume => simp [Matter.bytes]

/-- A frame is its length byte, its body and the check over both (R22, R23). -/
theorem passesCheck_frameOf (layout : Nat) (t : Telegram) : PassesCheck (frameOf layout t) := by
  rw [PassesCheck, frameOf, List.getLast?_concat, List.dropLast_concat]

/-- Settles O16: each kind's reader undoes its layout field by field. -/
theorem telegramsReadBackAsSent : Obligations.TelegramsReadBackAsSent := by
  intro layout t h
  obtain ⟨hlow, hhigh⟩ := length_bodyOf_bounds layout h.matter
  exact ⟨readBody_bodyOf layout h, hlow, hhigh, by simp [frameOf], passesCheck_frameOf layout t⟩

/-! ## What reads is in range -/

theorem byteOf_lt (body : List Byte) (i : Nat) : byteOf body i < 256 := (body.getD i 0).isLt

theorem holdInRange_ofByte (b : Byte) : HoldInRange (HoldEntry.ofByte b) := by
  have : b.toNat % 32 < 32 := Nat.mod_lt _ (by decide)
  exact Nat.le_of_lt_succ this

theorem readPosition_eq_some {body : List Byte} {m : Matter} (h : readPosition body = some m) :
    ∃ b, m = .position b ∧ BeaconInRange b ∧ body.length = 17 + b.holds.length := by
  simp only [readPosition, Option.ite_none_left_eq_some, Option.some.injEq] at h
  obtain ⟨hshort, hlength, hranks, hstations, hwords, hnodup, rfl⟩ := h
  have hcount : ((body.drop 17).map HoldEntry.ofByte).length = body.length - 17 := by
    rw [List.length_map, List.length_drop]
  have hsec : byteOf body 9 % 32 < 32 := Nat.mod_lt _ (by decide)
  refine ⟨_, rfl, ⟨?_, ?_, ?_, ?_, ?_, ?_, ?_, ?_, ?_, fun x hx => ?_, not_not.mp hnodup⟩, ?_⟩
  any_goals dsimp only
  any_goals omega
  obtain ⟨byte, -, rfl⟩ := List.mem_map.mp hx
  exact holdInRange_ofByte byte

theorem readClaim_eq_some {body : List Byte} {m : Matter} (h : readClaim body = some m) :
    ∃ sec dir waited size, m = .claim sec dir waited size ∧ MatterInRange m ∧ body.length = 6 := by
  simp only [readClaim, Option.ite_none_left_eq_some, Option.some.injEq] at h
  obtain ⟨hlength, hsize, rfl⟩ := h
  have hsec : byteOf body 4 % 32 < 32 := Nat.mod_lt _ (by decide)
  refine ⟨_, _, _, _, rfl, ⟨?_, ?_, ?_⟩, not_not.mp hlength⟩ <;> omega

theorem readRelease_eq_some {body : List Byte} {m : Matter} (h : readRelease body = some m) :
    ∃ secs, m = .release secs ∧ MatterInRange m ∧ body.length = 5 + secs.length := by
  simp only [readRelease, Option.ite_none_left_eq_some, Option.some.injEq, not_or, not_not] at h
  obtain ⟨hshort, ⟨hsome, hmany, hlength⟩, ⟨hsecs, hnodup⟩, rfl⟩ := h
  have hcount : ((body.drop 5).map BitVec.toNat).length = body.length - 5 := by
    rw [List.length_map, List.length_drop]
  refine ⟨_, rfl, ⟨?_, fun x hx => ?_, hnodup⟩, ?_⟩
  · omega
  · simpa using List.all_eq_true.mp hsecs x hx
  · omega

theorem readHalt_eq_some {body : List Byte} {m : Matter} (h : readHalt body = some m) :
    ∃ cause, m = .halt cause ∧ body.length = 5 := by
  simp only [readHalt, Option.ite_none_left_eq_some, not_not] at h
  obtain ⟨hlength, h⟩ := h
  split at h
  · exact ⟨_, (Option.some.inj h).symm, hlength⟩
  · exact ⟨_, (Option.some.inj h).symm, hlength⟩
  · exact ⟨_, (Option.some.inj h).symm, hlength⟩
  · cases h

theorem readResume_eq_some {body : List Byte} {m : Matter} (h : readResume body = some m) :
    m = .resume ∧ body.length = 4 := by
  simp only [readResume, Option.ite_none_right_eq_some, Option.some.injEq] at h
  exact ⟨h.2.symm, h.1⟩

/-- What the body test lets through, by kind (R31). -/
def ReadsAs (body : List Byte) (m : Matter) : Prop :=
  byteOf body 0 = m.kindCode ∧ MatterInRange m ∧ body.length = 4 + m.bytes.length

theorem readMatter_eq_some {body : List Byte} {m : Matter} (h : readMatter body = some m) : ReadsAs body m := by
  unfold readMatter at h
  split at h
  · next hkind =>
    obtain ⟨b, rfl, hrange, hlength⟩ := readPosition_eq_some h
    exact ⟨hkind, hrange, by rw [hlength, length_positionBytes]; omega⟩
  · next hkind =>
    obtain ⟨sec, dir, waited, size, rfl, hrange, hlength⟩ := readClaim_eq_some h
    exact ⟨hkind, hrange, hlength⟩
  · next hkind =>
    obtain ⟨secs, rfl, hrange, hlength⟩ := readRelease_eq_some h
    exact ⟨hkind, hrange, by rw [hlength, length_releaseBytes]; omega⟩
  · next hkind =>
    obtain ⟨cause, rfl, hlength⟩ := readHalt_eq_some h
    exact ⟨hkind, trivial, hlength⟩
  · next hkind =>
    obtain ⟨rfl, hlength⟩ := readResume_eq_some h
    exact ⟨hkind, trivial, hlength⟩
  · cases h

theorem readBody_eq_some {body : List Byte} {t : Telegram} (h : readBody body = some t) :
    TelegramInRange t ∧ ReadsAs body t.matter ∧ byteOf body 2 = t.source ∧ byteOf body 3 % 64 = t.number ∧
      byteOf body 3 / 64 = formOfKind t.matter.kindCode := by
  simp only [readBody, Option.ite_none_left_eq_some, Option.map_eq_some_iff, not_or, not_not] at h
  obtain ⟨hform, ⟨hsome, hstation⟩, m, hread, rfl⟩ := h
  have hm := readMatter_eq_some hread
  have hnumber : byteOf body 3 % 64 < 64 := Nat.mod_lt _ (by decide)
  exact ⟨⟨⟨by dsimp only; omega, by dsimp only; omega⟩, by dsimp only; omega, hm.2.1⟩, hm, rfl, rfl, hm.1 ▸ hform⟩

/-- Settles O17: each kind's reader tests its fields, and its layout fixes length and form. -/
theorem acceptedBodiesAreInRange : Obligations.AcceptedBodiesAreInRange := by
  intro body t h
  obtain ⟨hrange, ⟨hkind, -, hlength⟩, hsource, hnumber, hform⟩ := readBody_eq_some h
  refine ⟨hrange, hsource, hnumber, ?_⟩
  obtain ⟨source, number, matter⟩ := t
  cases matter with
  | position b => exact ⟨hkind, hform, by rw [hlength, length_positionBytes]; omega⟩
  | claim sec dir waited size => exact ⟨hkind, hform, hlength⟩
  | release secs => exact ⟨hkind, hform, by rw [hlength, length_releaseBytes]; omega⟩
  | halt cause => exact ⟨hkind, hform, hlength⟩
  | resume => exact ⟨hkind, hform, hlength⟩

end Sys2Proof.Proofs
end

section
/-! PROOFS. Chapter 2, the receive path: the assembler, the completion checks, the filter list, dispatch and
a frame's way through them (R28 to R39). -/

namespace Sys2Proof.Proofs

open Sys2Proof.Machine Sys2Proof.Laws Sys2Proof.Safety

/-! ## The assembler (R28, R29, R34) -/

/-- RECEIVE_BYTE with the supply up: off the layout a byte is discarded (R34). -/
theorem exec_receiveByte {s : State} (hup : s.held = false) (start : Bool) (b : Byte) :
    exec (.receiveByte start b) s = .next (if onLayout s then takeByte start b s else s) :=
  whileUp_up hup _

theorem exec_receiveByte_onLayout {s : State} (hup : s.held = false) (hon : onLayout s = true) (start : Bool)
    (b : Byte) : exec (.receiveByte start b) s = .next (takeByte start b s) := by
  rw [exec_receiveByte hup, if_pos hon]

theorem exec_byteGapTimeout {s : State} (hup : s.held = false) :
    exec .byteGapTimeout s = .next (dropPartial s) :=
  whileUp_up hup _

theorem takeByte_idle {s : State} (h : s.air.assembler = .idle) (start : Bool) (b : Byte) :
    takeByte start b s = if start then openFrame b s else s := by
  simp only [takeByte, h]

theorem takeByte_collecting {s : State} {n : Nat} {bytes : List Byte} {check : Byte} {received : Time}
    (h : s.air.assembler = .collecting n bytes check received) (start : Bool) (b : Byte) :
    takeByte start b s =
      if start then openFrame b (raise .length (setAssembler .idle none s))
      else if bytes.length < n then
        setAssembler (.collecting n (bytes ++ [b]) (crcByte check b) received) (some 5) s
      else complete bytes check b received (setAssembler .idle none s) := by
  simp only [takeByte, h]

theorem openFrame_good {b : Byte} (h : 4 ≤ b.toNat ∧ b.toNat ≤ 24) (s : State) :
    openFrame b s = setAssembler (.collecting b.toNat [] (crcByte 0xFF#8 b) s.time) (some 5) s :=
  if_pos h

theorem openFrame_bad {b : Byte} (h : ¬(4 ≤ b.toNat ∧ b.toNat ≤ 24)) (s : State) :
    openFrame b s = raise .length (setAssembler .idle none s) :=
  if_neg h

theorem dropPartial_collecting {s : State} {n : Nat} {bytes : List Byte} {check : Byte} {received : Time}
    (h : s.air.assembler = .collecting n bytes check received) :
    dropPartial s = raise .length (setAssembler .idle none s) := by
  simp only [dropPartial, h]

theorem dropPartial_idle {s : State} (h : s.air.assembler = .idle) : dropPartial s = s := by
  simp only [dropPartial, h]

/-- Settles O19, by the assembler's state and the byte that comes. -/
theorem assemblerTakesBytes : Obligations.AssemblerTakesBytes := by
  intro b s hup taken idle opened good
  have takes (h : taken) (start : Bool) : exec (.receiveByte start b) s = .next (takeByte start b s) :=
    exec_receiveByte_onLayout hup ((onLayout_iff s).mpr h) start b
  refine ⟨fun h start => ?_, fun h hidle => ⟨?_, fun hgood => ?_, fun hbad => ?_⟩,
    fun n bytes r t h hcollecting => ⟨fun hroom => ?_, fun hgood => ?_, fun hbad => ?_⟩,
    fun n bytes r t hcollecting => ?_, fun hidle => ?_⟩
  · rw [exec_receiveByte hup, if_neg (mt (onLayout_iff s).mp h)]
  · rw [takes h, takeByte_idle hidle]
    rfl
  · rw [takes h, takeByte_idle hidle, if_pos rfl, openFrame_good hgood]
    rfl
  · rw [takes h, takeByte_idle hidle, if_pos rfl, openFrame_bad hbad]
    rfl
  · rw [takes h, takeByte_collecting hcollecting, if_neg Bool.false_ne_true, if_pos hroom]
    rfl
  · rw [takes h, takeByte_collecting hcollecting, if_pos rfl, openFrame_good hgood]
    rfl
  · rw [takes h, takeByte_collecting hcollecting, if_pos rfl, openFrame_bad hbad]
    rfl
  · rw [exec_byteGapTimeout hup, dropPartial_collecting hcollecting]
    rfl
  · rw [exec_byteGapTimeout hup, dropPartial_idle hidle]

/-! ## The completion checks (R30 to R33) -/

section Judge

variable {s : State} {body : List Byte} {computed check : Byte}

theorem judge_check (h : check ≠ computed) : judge s body computed check = .drop .check :=
  if_pos h.symm

theorem judge_layout (hcheck : check = computed) (h : s.air.layoutCode ≠ some (byteOf body 1)) :
    judge s body computed check = .drop .layout :=
  (if_neg (not_not.mpr hcheck.symm)).trans (if_pos h)

theorem judge_kind (hcheck : check = computed) (hlayout : s.air.layoutCode = some (byteOf body 1))
    (h : ¬(1 ≤ byteOf body 0 ∧ byteOf body 0 ≤ 5)) : judge s body computed check = .drop .kind :=
  (if_neg (not_not.mpr hcheck.symm)).trans ((if_neg (not_not.mpr hlayout)).trans (if_pos (by omega)))

theorem judge_body (hcheck : check = computed) (hlayout : s.air.layoutCode = some (byteOf body 1))
    (hkind : 1 ≤ byteOf body 0 ∧ byteOf body 0 ≤ 5) (hbody : readBody body = none) :
    judge s body computed check = .drop .body := by
  simp only [judge, hbody]
  rw [if_neg (not_not.mpr hcheck.symm), if_neg (not_not.mpr hlayout), if_neg (by omega)]

/-- Past check, layout, kind and body the source decides, then the destination (R30). -/
theorem judge_telegram {t : Telegram} (hcheck : check = computed)
    (hlayout : s.air.layoutCode = some (byteOf body 1)) (hkind : 1 ≤ byteOf body 0 ∧ byteOf body 0 ≤ 5)
    (hbody : readBody body = some t) : judge s body computed check =
      if t.source = ownStation s then .drop .self
      else if addressed s t then .accepted t
      else .drop .passed := by
  simp only [judge, hbody]
  rw [if_neg (not_not.mpr hcheck.symm), if_neg (not_not.mpr hlayout), if_neg (by omega)]

end Judge

/-- A HALT or RESUME is addressed to the own convoy; every other kind is for all (R33). -/
theorem addressed_iff (s : State) (t : Telegram) : addressed s t = true ↔
    (t.matter.isHalt || t.matter.isResume → t.number ≠ 0 ∧ t.number = s.cvy.convoy) := by
  obtain ⟨source, number, matter⟩ := t
  cases matter <;> simp [addressed, Matter.isHalt, Matter.isResume]

/-- Before a sound load the node has no station, and no telegram names station 0 (R24, R40). -/
theorem source_eq_ownStation {t : Telegram} (h : 1 ≤ t.source) (s : State) :
    t.source = ownStation s ↔ s.air.station = some t.source := by
  unfold ownStation
  cases s.air.station with
  | none => exact ⟨fun hzero => absurd hzero (Nat.ne_of_gt h), fun hsome => nomatch hsome⟩
  | some n => exact ⟨fun hn => congrArg some hn.symm, fun hn => (Option.some.inj hn).symm⟩

theorem complete_drop {s : State} {body : List Byte} {computed check : Byte} {c : CounterId}
    (h : judge s body computed check = .drop c) (hself : c ≠ .self) (received : Time) :
    complete body computed check received s = raise c s := by
  unfold complete
  rw [h]
  split
  · next heq => cases heq
  · next heq => cases heq; exact absurd rfl hself
  · next heq => cases heq; rfl

theorem complete_self {s : State} {body : List Byte} {computed check : Byte}
    (h : judge s body computed check = .drop .self) (received : Time) :
    complete body computed check received s = noteClash (byteOf body 0) (raise .self s) := by
  simp only [complete, h]

theorem complete_accepted {s : State} {body : List Byte} {computed check : Byte} {t : Telegram}
    (h : judge s body computed check = .accepted t) (received : Time) :
    complete body computed check received s = dispatch ⟨t, received⟩ (raise .accepted s) := by
  simp only [complete, h]

theorem noteClash_again {s : State} (h : s.air.clashPosted = true) (kind : Nat) : noteClash kind s = s :=
  if_pos h

theorem noteClash_first {s : State} (h : s.air.clashPosted = false) (kind : Nat) : noteClash kind s =
    post .air .stationClash (.num kind) noDetail noDetail (s.setAir { s.air with clashPosted := true }) :=
  if_neg (by simp [h])

/-- The byte after a whole body is its check byte: the frame is complete (R28, R30). -/
theorem exec_checkByte {s : State} (hup : s.held = false) (hon : onLayout s = true) {n : Nat}
    {body : List Byte} {r : Byte} {received : Time} (h : s.air.assembler = .collecting n body r received)
    (hfull : body.length = n) (b : Byte) : exec (.receiveByte false b) s =
      .next (complete body r b received (setAssembler .idle none s)) := by
  rw [exec_receiveByte_onLayout hup hon, takeByte_collecting h, if_neg Bool.false_ne_true,
    if_neg (by omega)]

/-- Settles O20: each check is one branch of `judge`, and what `complete` makes of the verdict follows. -/
theorem completionChecksDecideInOrder : Obligations.CompletionChecksDecideInOrder := by
  intro b n body r received s hup hmode hassembler hfull idle result checkOk layoutOk kindOk
  have outcome : result = .next (complete body r b received idle) :=
    exec_checkByte hup ((onLayout_iff s).mpr hmode) hassembler hfull b
  have drops {c : CounterId} (hself : c ≠ .self) (h : judge idle body r b = .drop c) :
      result = .next (raise c idle) := by
    rw [outcome, complete_drop h hself]
  refine ⟨fun hcheck => drops (by decide) (judge_check hcheck),
    fun hcheck hlayout => drops (by decide) (judge_layout hcheck hlayout),
    fun hcheck hlayout hkind => drops (by decide) (judge_kind hcheck hlayout hkind),
    fun hcheck hlayout hkind hbody => drops (by decide) (judge_body hcheck hlayout hkind hbody),
    fun t hcheck hlayout hkind hbody => ?_⟩
  intro addressedOk
  have verdict := judge_telegram (s := idle) hcheck hlayout hkind hbody
  have hsource := source_eq_ownStation (readBody_eq_some hbody).1.source.1 idle
  have haddressed := addressed_iff idle t
  refine ⟨fun hself => ?_, fun hself hother => drops (by decide) ?_, fun hself hours => ?_⟩
  · have clash : result = .next (noteClash (byteOf body 0) (raise .self idle)) := by
      rw [outcome, complete_self (verdict.trans (if_pos (hsource.mpr hself)))]
    refine ⟨fun hposted => ?_, fun hposted => ?_⟩
    · rw [clash, noteClash_again (s := raise .self idle) hposted]
    · rw [clash, noteClash_first (s := raise .self idle) hposted]
      rfl
  · exact verdict.trans ((if_neg (mt hsource.mp hself)).trans (if_neg (mt haddressed.mp hother)))
  · rw [outcome, complete_accepted (verdict.trans ((if_neg (mt hsource.mp hself)).trans
      (if_pos (haddressed.mpr hours))))]

/-! ## The filter list (R38) -/

/-- The bits of two stations that a mask picks agree (R38). -/
theorem masked_iff {station : Nat} (mask value : BitVec 6) :
    BitVec.ofNat 6 station &&& mask = value &&& mask ↔
      ∀ i < 6, mask.getLsbD i = true → station.testBit i = value.getLsbD i := by
  constructor
  · intro h i hi hmask
    have hbit := congrArg (BitVec.getLsbD · i) h
    simpa only [BitVec.getLsbD_and, BitVec.getLsbD_ofNat, hmask, hi, decide_true, Bool.true_and, Bool.and_true]
      using hbit
  · intro h
    refine BitVec.eq_of_getLsbD_eq fun i hi => ?_
    rw [BitVec.getLsbD_and, BitVec.getLsbD_and, BitVec.getLsbD_ofNat]
    cases hmask : mask.getLsbD i
    · simp only [Bool.and_false]
    · simp only [hi, decide_true, Bool.true_and, h i hi hmask]

theorem filterDecision_noMatch {s : State} {station : Nat}
    (h : ∀ x ∈ s.air.filter, ¬x.isMatch station = true) :
    filterDecision s station = if s.node.settings.defaultReject then .reject else .accept := by
  have hfind : s.air.filter.find? (·.isMatch station) = none := List.find?_eq_none.mpr h
  simp only [filterDecision, hfind]

theorem filterDecision_firstMatch {s : State} {station : Nat} {before after : List FilterElement}
    {e : FilterElement} (hlist : s.air.filter = before ++ e :: after)
    (hbefore : ∀ x ∈ before, ¬x.isMatch station = true) (he : e.isMatch station = true) :
    filterDecision s station = e.action := by
  have hfind : s.air.filter.find? (·.isMatch station) = some e :=
    List.find?_eq_some_iff_append.mpr ⟨he, before, after, hlist, fun x hx => by simp [hbefore x hx]⟩
  simp only [filterDecision, hfind]

/-- Settles O21: `find?` gives the first match. -/
theorem firstMatchingFilterElementDecides : Obligations.FirstMatchingFilterElementDecides := by
  intro station s _ hits
  have hits_iff (e : FilterElement) : e.isMatch station = true ↔ hits e := by
    obtain ⟨enable, matchType, first, second, action⟩ := e
    cases matchType
    · simp [hits, FilterElement.isMatch]
    · simp [hits, FilterElement.isMatch]
    · simp [hits, FilterElement.isMatch, masked_iff]
  refine ⟨fun before e after hlist hbefore he => ?_, fun hnone => ?_⟩
  · exact filterDecision_firstMatch hlist (fun x hx => mt (hits_iff x).mp (hbefore x hx)) ((hits_iff e).mpr he)
  · exact filterDecision_noMatch fun x hx => mt (hits_iff x).mp (hnone x hx)

/-! ## Dispatch (R35, R36, R39) -/

/-- A dispatch queue after a copy that its owner is due, or not (R36). -/
def queued {α : Type} (due : Bool) (queue : List α) (copy : α) : List α :=
  if due ∧ queue.length < 4 then queue ++ [copy] else queue

/-- The overflow counter after a copy for a dispatch queue: a full one drops it (R36). -/
def spilled {α : Type} (due : Bool) (queue : List α) (count : Nat) : Nat :=
  if due ∧ 4 ≤ queue.length then countUp count else count

/-- The state with these dispatch queues and overflow count. -/
def withQueues (peers : List (Received × FilterAction)) (convoy claims : List Received) (overflow : Nat)
    (s : State) : State :=
  { s with
    air := { s.air with peerQueue := peers, cvyQueue := convoy, clmQueue := claims }
    svc := { s.svc with counters := { s.svc.counters with overflow := overflow } } }

/-- What is done only when it is due. -/
def whenDue (due : Bool) (f : State → State) (s : State) : State := if due then f s else s

/-- An operation that puts a copy into a queue with room and counts an overflow otherwise, done when due. -/
theorem whenDue_queue {α : Type} {put : List α → Nat → State} {queue : List α} {copy : α} {n : Nat}
    {f : State → State} (due : Bool)
    (hf : f (put queue n) = if queue.length < 4 then put (queue ++ [copy]) n else put queue (countUp n)) :
    whenDue due f (put queue n) = put (queued due queue copy) (spilled due queue n) := by
  cases due with
  | false => simp [whenDue, queued, spilled]
  | true =>
    rw [whenDue, if_pos rfl, hf]
    by_cases h : queue.length < 4
    · simp [queued, spilled, h, Nat.not_le.mpr h]
    · simp [queued, spilled, h, Nat.not_lt.mp h]

section WithQueues

variable (due : Bool) (r : Received) (d : FilterAction) (peers : List (Received × FilterAction))
  (convoy claims : List Received) (n : Nat) (s : State)

theorem dispatchPeer_withQueues :
    whenDue due (dispatchPeer r d) (withQueues peers convoy claims n s) =
      withQueues (queued due peers (r, d)) convoy claims (spilled due peers n) s :=
  whenDue_queue (put := fun q n => withQueues q convoy claims n s) due rfl

theorem dispatchCvy_withQueues :
    whenDue due (dispatchCvy r) (withQueues peers convoy claims n s) =
      withQueues peers (queued due convoy r) claims (spilled due convoy n) s :=
  whenDue_queue (put := fun q n => withQueues peers q claims n s) due rfl

theorem dispatchClm_withQueues :
    whenDue due (dispatchClm r) (withQueues peers convoy claims n s) =
      withQueues peers convoy (queued due claims r) (spilled due claims n) s :=
  whenDue_queue (put := fun q n => withQueues peers convoy q n s) due rfl

end WithQueues

/-- PEER is due a copy of a POSITION that the filter list does not reject (R35, R39). -/
def duePeer (m : Matter) (d : FilterAction) : Bool := m.isPosition && d != .reject

/-- CVY is due a copy of every POSITION, HALT and RESUME (R35). -/
def dueCvy (m : Matter) : Bool := m.isPosition || m.isHalt || m.isResume

/-- CLM is due a copy of every POSITION, CLAIM and RELEASE (R35). -/
def dueClm (m : Matter) : Bool := !m.isHalt && !m.isResume

/-- A POSITION that the filter list keeps from PEER (R39). -/
def filteredOut (m : Matter) (d : FilterAction) : Bool := m.isPosition && d == .reject

theorem dispatchFiltered_eq (r : Received) (s : State) :
    dispatchFiltered r s = whenDue (filterDecision s r.telegram.source != .reject)
      (dispatchPeer r (filterDecision s r.telegram.source))
      (whenDue (filterDecision s r.telegram.source == .reject) (raise .filteredOut) s) := by
  unfold dispatchFiltered
  cases filterDecision s r.telegram.source <;> rfl

theorem whenDue_filteredOut (out : Bool) (s : State) : whenDue out (raise .filteredOut) s =
    { s with svc := { s.svc with counters := { s.svc.counters with
      filteredOut := if out then countUp s.svc.counters.filteredOut else s.svc.counters.filteredOut } } } := by
  cases out <;> rfl

/-- Dispatch gives each owner the copy it is due (R35). -/
theorem dispatch_eq_whenDue (r : Received) (s : State) :
    dispatch r s = whenDue (dueClm r.telegram.matter) (dispatchClm r)
      (whenDue (dueCvy r.telegram.matter) (dispatchCvy r)
        (whenDue (duePeer r.telegram.matter (filterDecision s r.telegram.source))
          (dispatchPeer r (filterDecision s r.telegram.source))
          (whenDue (filteredOut r.telegram.matter (filterDecision s r.telegram.source)) (raise .filteredOut) s))) := by
  obtain ⟨⟨source, number, matter⟩, time⟩ := r
  cases matter with
  | position b => exact congrArg (fun u => dispatchClm _ (dispatchCvy _ u)) (dispatchFiltered_eq _ s)
  | claim sec dir waited size => rfl
  | release secs => rfl
  | halt cause => rfl
  | resume => rfl

/-- Dispatch as one update of the queues and the two counters (R35, R36, R39). -/
theorem dispatch_eq (t : Telegram) (time : Time) (s : State) : dispatch ⟨t, time⟩ s =
    withQueues
      (queued (duePeer t.matter (filterDecision s t.source)) s.air.peerQueue (⟨t, time⟩, filterDecision s t.source))
      (queued (dueCvy t.matter) s.air.cvyQueue ⟨t, time⟩) (queued (dueClm t.matter) s.air.clmQueue ⟨t, time⟩)
      (spilled (dueClm t.matter) s.air.clmQueue (spilled (dueCvy t.matter) s.air.cvyQueue
        (spilled (duePeer t.matter (filterDecision s t.source)) s.air.peerQueue s.svc.counters.overflow)))
      (whenDue (filteredOut t.matter (filterDecision s t.source)) (raise .filteredOut) s) := by
  have hself (out : Bool) : withQueues s.air.peerQueue s.air.cvyQueue s.air.clmQueue s.svc.counters.overflow
      (whenDue out (raise .filteredOut) s) = whenDue out (raise .filteredOut) s := by
    cases out <;> rfl
  rw [dispatch_eq_whenDue, ← dispatchClm_withQueues, ← dispatchCvy_withQueues, ← dispatchPeer_withQueues, hself]

/-! ## A frame's way to its owners (R22, R28, R30) -/

theorem run_cons {c : Instr} {rest : List Instr} {s t : State} (h : exec c (s.setPending rest) = .next t)
    (k : Nat) : Host.Core.run Sys2Proof.core (k + 1) (s.setPending (c :: rest)) =
      Host.Core.run Sys2Proof.core k t := by
  have hstep : Sys2Proof.core.step (s.setPending (c :: rest)) = .next t := h
  simp only [Host.Core.run, hstep]

/-- Part of a frame has come: its length byte and `bytes`, at the time of the length byte; the bytes of `rest`
are still to come. -/
def receiving (n : Nat) (bytes rest : List Byte) (s : State) : State :=
  { s with
    pending := rest.map (.receiveByte false)
    air := { s.air with
      assembler := .collecting n bytes (crc (toByte n :: bytes)) s.time
      byteGap := some 5 } }

theorem crc_concat (bytes : List Byte) (b : Byte) : crc (bytes ++ [b]) = crcByte (crc bytes) b :=
  List.foldl_concat _ _ _ _

theorem exec_receiving {s : State} (hup : s.held = false) (hon : onLayout s = true) {n : Nat}
    {bytes : List Byte} (hroom : bytes.length < n) (b : Byte) (rest : List Byte) :
    exec (.receiveByte false b) (receiving n bytes rest s) = .next (receiving n (bytes ++ [b]) rest s) := by
  rw [exec_receiveByte_onLayout (s := receiving n bytes rest s) hup hon, takeByte_collecting rfl,
    if_neg Bool.false_ne_true, if_pos hroom, ← crc_concat]
  rfl

/-- The length byte opens the frame (R28). -/
theorem exec_openFrame {s : State} (hup : s.held = false) (hon : onLayout s = true)
    (hidle : s.air.assembler = .idle) {n : Nat} (hlow : 4 ≤ n) (hhigh : n ≤ 24) (rest : List Byte) :
    exec (.receiveByte true (toByte n)) (s.setPending (rest.map (.receiveByte false))) =
      .next (receiving n [] rest s) := by
  have hlen : (toByte n).toNat = n := toNat_toByte (by omega)
  have htaken := takeByte_idle (s := s.setPending (rest.map (.receiveByte false))) hidle true (toByte n)
  rw [exec_receiveByte_onLayout (s := s.setPending (rest.map (.receiveByte false))) hup hon, htaken, if_pos rfl,
    openFrame_good (by omega), hlen]
  rfl

/-- The bytes of a body are stored one by one (R28). -/
theorem run_receiving {s : State} (hup : s.held = false) (hon : onLayout s = true) {n : Nat}
    {bytes todo : List Byte} (hroom : bytes.length + todo.length ≤ n) (rest : List Byte) (k : Nat) :
    Host.Core.run Sys2Proof.core (k + todo.length) (receiving n bytes (todo ++ rest) s) =
      Host.Core.run Sys2Proof.core k (receiving n (bytes ++ todo) rest s) := by
  induction todo generalizing bytes with
  | nil => rw [List.append_nil]; rfl
  | cons b todo ih =>
    rw [List.length_cons] at hroom
    have hexec := exec_receiving hup hon (show bytes.length < n by omega) b (todo ++ rest)
    have hnext := ih (bytes := bytes ++ [b]) (by rw [List.length_append, List.length_singleton]; omega)
    rw [List.append_assoc] at hnext
    exact (run_cons (s := receiving n bytes (b :: (todo ++ rest)) s) hexec _).trans hnext

/-- A frame another node builds for this one is judged whole, and dispatched (R22, R28, R30). -/
theorem run_frame {layout : Nat} {t : Telegram} {s : State} (ht : TelegramInRange t) (hlayout : layout ≤ 255)
    (hup : s.held = false) (hon : onLayout s = true) (hidle : s.air.assembler = .idle)
    (hcode : s.air.layoutCode = some layout) (hother : s.air.station ≠ some t.source)
    (hours : t.matter.isHalt || t.matter.isResume → t.number ≠ 0 ∧ t.number = s.cvy.convoy) :
    Host.Core.run Sys2Proof.core (frameOf layout t).length (s.setPending (frameCommands (frameOf layout t))) =
      .next (dispatch ⟨t, s.time⟩ (raise .accepted (setAssembler .idle none (s.setPending [])))) := by
  obtain ⟨hlow, hhigh⟩ := length_bodyOf_bounds layout ht.matter
  have hread := readBody_bodyOf layout ht
  have hkind := kindCode_bodyOf layout t
  have hlayoutByte := layout_bodyOf hlayout t
  rw [frameOf]
  generalize bodyOf layout t = body at *
  have hopen := exec_openFrame hup hon hidle hlow hhigh (body ++ [crc (toByte body.length :: body)])
  have hcheck := exec_checkByte (s := receiving body.length body [] s) hup hon rfl rfl
    (crc (toByte body.length :: body))
  have hverdict : judge (setAssembler .idle none (receiving body.length body [] s)) body
      (crc (toByte body.length :: body)) (crc (toByte body.length :: body)) = .accepted t := by
    refine (judge_telegram rfl (hcode.trans (congrArg some hlayoutByte.symm)) ?_ hread).trans ?_
    · rw [hkind]
      exact ⟨kindCode_pos _, kindCode_le _⟩
    · rw [if_neg (mt (source_eq_ownStation ht.source.1 _).mp hother), if_pos ((addressed_iff _ t).mpr hours)]
  rw [complete_accepted hverdict] at hcheck
  calc Host.Core.run Sys2Proof.core _ (s.setPending (frameCommands
        (toByte body.length :: (body ++ [crc (toByte body.length :: body)]))))
      = Host.Core.run Sys2Proof.core (1 + body.length)
          (receiving body.length [] (body ++ [crc (toByte body.length :: body)]) s) := by
        rw [List.cons_append, List.length_cons, List.length_append, List.length_singleton, Nat.add_comm body.length]
        exact run_cons hopen _
    _ = Host.Core.run Sys2Proof.core 1
          (receiving body.length body [crc (toByte body.length :: body)] s) :=
        run_receiving hup hon (by simp) _ 1
    _ = .next _ := run_cons (s := receiving body.length body [] s) hcheck 0

/-- One saturating count for each full queue among the three (R36, R201). -/
theorem spilled_three {α β γ : Type} (p q r : Bool) (a : List α) (b : List β) (c : List γ) {n : Nat}
    (h : n ≤ 65535) : spilled r c (spilled q b (spilled p a n)) =
      min 65535 (n + (if p ∧ 4 ≤ a.length then 1 else 0) + (if q ∧ 4 ≤ b.length then 1 else 0) +
        (if r ∧ 4 ≤ c.length then 1 else 0)) := by
  unfold spilled countUp
  split <;> split <;> split <;> omega

/-- Settles O22: the run over the frame ends in its dispatch, which is one update of queues and counts. -/
theorem sentFramesReachTheirOwners : Obligations.SentFramesReachTheirOwners := by
  intro layout t s ht hlayout hup hmode hidle hcode hother hours frame copy forPeer forCvy forClm
  refine ⟨_, run_frame ht hlayout hup ((onLayout_iff s).mpr hmode) hidle hcode hother hours, ?_⟩
  rw [dispatch_eq, whenDue_filteredOut]
  exact ⟨rfl, rfl, rfl, rfl, fun hcount => spilled_three forPeer forCvy forClm _ _ _ hcount, rfl, rfl⟩

end Sys2Proof.Proofs
end

section
/-! PROOFS. The POSITION composed at hand-over (R25, R53, R99, R100). -/

namespace Sys2Proof.Proofs

open Sys2Proof.Machine Sys2Proof.Safety

theorem haltSetEmpty_iff (c : Cvy) : haltSetEmpty c = true ↔
    ¬(c.own.trailerLoss = true ∨ c.own.standoff = true ∨ c.own.intrusion = true ∨ c.foreign ≠ []) := by
  simp [haltSetEmpty, OwnCauses.any, and_assoc]

/-- A claim entry is listed in HOLDING, RIDING, WAITING and STANDOFF (R100). -/
def isListed (e : ClaimEntry) : Bool := e.state != .none && e.state != .claiming

/-- The mode a listed entry has in the hold list (R100). -/
def holdMode (e : ClaimEntry) : HoldMode :=
  match e.state with
  | .riding => .riding
  | .waiting => .waiting
  | _ => if e.tail = 0 then .holding else .clearing

theorem listedMode_eq (e : ClaimEntry) : listedMode e = if isListed e then some (holdMode e) else none := by
  unfold listedMode holdMode isListed
  cases e.state <;> rfl

/-- The hold list is one hold entry for each listed claim entry, in the order of the table (R100). -/
theorem holdList_eq (s : State) :
    holdList s = (s.clm.entries.filter isListed).map (fun e => ⟨e.sec, e.dir, holdMode e⟩) := by
  unfold holdList
  induction s.clm.entries with
  | nil => rfl
  | cons e es ih =>
    rw [List.filterMap_cons, listedMode_eq, ih]
    cases h : isListed e <;> simp [h]

theorem holdList_sections (s : State) : (holdList s).map (·.sec) = (s.clm.entries.filter isListed).map (·.sec) := by
  rw [holdList_eq, List.map_map]
  rfl

theorem listed_iff (e : ClaimEntry) (m : HoldMode) : isListed e = true ∧ m = holdMode e ↔
    (e.state = .riding ∧ m = .riding) ∨ (e.state = .waiting ∧ m = .waiting) ∨
      ((e.state = .holding ∨ e.state = .standoff) ∧ m = if e.tail = 0 then .holding else .clearing) := by
  unfold isListed holdMode
  cases e.state <;> simp

theorem mem_holdList {s : State} {x : HoldEntry} : x ∈ holdList s ↔ ∃ e ∈ s.clm.entries,
    x.sec = e.sec ∧ x.dir = e.dir ∧ (isListed e = true ∧ x.mode = holdMode e) := by
  rw [holdList_eq, List.mem_map]
  constructor
  · rintro ⟨e, he, rfl⟩
    obtain ⟨hmem, hlisted⟩ := List.mem_filter.mp he
    exact ⟨e, hmem, rfl, rfl, hlisted, rfl⟩
  · rintro ⟨e, hmem, hsec, hdir, hlisted, hmode⟩
    exact ⟨e, List.mem_filter.mpr ⟨hmem, hlisted⟩, by rw [← hsec, ← hdir, ← hmode]⟩

/-- In a table in ascending order with at most two entries in use so is the hold list (R99). -/
theorem holdList_bounds {s : State} (h : ClaimInv s.clm) :
    ((holdList s).map (·.sec)).Pairwise (· < ·) ∧ (holdList s).length ≤ 2 := by
  have hinUse (e : ClaimEntry) (he : isListed e = true) : (e.state != .none) = true :=
    (Bool.and_eq_true_iff.mp he).1
  rw [holdList_sections, holdList_eq, List.length_map]
  exact ⟨h.ascending.sublist (List.filter_sublist.map _),
    (List.monotone_filter_right _ hinUse).length_le.trans h.active⟩

/-- A field of the place counts only while the position record has one (R53). -/
theorem ite_validity {p : Position} {α : Type} {own none : α} :
    (p.validity = .none → (if p.validity != .none then own else none) = none) ∧
      (p.validity ≠ .none → (if p.validity != .none then own else none) = own) :=
  ⟨fun h => if_neg (by simp [h]), fun h => if_pos (by simpa using h)⟩

/-- Settles O43: the fields are read off the blocks, and the hold list off the claim table. -/
theorem beaconsTellTheStateOfNow : Obligations.BeaconsTellTheStateOfNow := by
  intro s
  refine ⟨composeBeacon s, rfl, beq_iff_eq, beq_iff_eq, ?_, rfl, beq_iff_eq, rfl, rfl, rfl, rfl, fun hnone => ?_,
    fun hfix => ?_, rfl, rfl, fun x => ?_, ?_, holdList_bounds⟩
  · change (!haltSetEmpty s.cvy) = true ↔ _
    rw [Bool.not_eq_true', ← Bool.not_eq_true, haltSetEmpty_iff, not_not]
  · exact ⟨ite_validity.1 hnone, ite_validity.1 hnone, ite_validity.1 hnone⟩
  · exact ⟨ite_validity.2 hfix, ite_validity.2 hfix, ite_validity.2 hfix⟩
  · simp only [← listed_iff]
    exact mem_holdList
  · change List.Forall₂ _ _ (holdList s)
    rw [holdList_eq, List.forall₂_map_right_iff]
    exact List.forall₂_same.mpr fun e _ => ⟨rfl, rfl, rfl⟩

end Sys2Proof.Proofs
end

section
/-! PROOFS. Chapter 3, the transmit slots: add and cancel requests by the state of the slot, and the beacon
timer (R42 to R48, R55). -/

namespace Sys2Proof.Proofs

open Sys2Proof.Machine Sys2Proof.Laws

/-! ## Replacing a slot, a queue of requests, a queue of notices -/

theorem setSlot_setSlot (a : Air) (id : SlotId) (x y : Slot) : (a.setSlot id x).setSlot id y = a.setSlot id y := by
  cases id <;> rfl

@[simp] theorem noticesOf_setRequests (m : Mail) (id : SlotId) (rs : List Request) :
    noticesOf (m.setRequests id rs) id = noticesOf m id := by
  cases id <;> rfl

@[simp] theorem noticesOf_setNotices (m : Mail) (id : SlotId) (ns : List Notice) :
    noticesOf (m.setNotices id ns) id = ns := by
  cases id <;> rfl

@[simp] theorem setNotices_setNotices (m : Mail) (id : SlotId) (ns ms : List Notice) :
    (m.setNotices id ns).setNotices id ms = m.setNotices id ms := by
  cases id <;> rfl

theorem setNotices_noticesOf (m : Mail) (id : SlotId) : m.setNotices id (noticesOf m id) = m := by
  cases id <;> rfl

/-- The CANCELLED notice of a set of requests, if it is not empty (R44). -/
def cancelledNotices (c : Option Content) (numbers : List Nat) : List Notice :=
  if numbers = [] then [] else [⟨.cancelled, numbers, c⟩]

/-! ## Taking a request (R42, R43) -/

/-- AIR has taken the oldest request of a slot and given it the slot's next number; the slot is `y` but for
its counter, and `ns` are the notices this raised. -/
def requestTaken (id : SlotId) (rest : List Request) (y : Slot) (ns : List Notice) (s : State) : State :=
  { s with
    air := s.air.setSlot id { y with counter := ((s.air.slot id).counter + 1) % 256 }
    mail := (s.mail.setRequests id rest).setNotices id (noticesOf s.mail id ++ ns) }

section RequestTaken

variable {id : SlotId} {rest : List Request} {y z : Slot} {ns : List Notice} {s : State}

theorem takeNumber_eq : takeNumber id (s.setMail (s.mail.setRequests id rest)) =
    requestTaken id rest (s.air.slot id) [] s := by
  unfold requestTaken
  rw [List.append_nil, ← noticesOf_setRequests s.mail id rest, setNotices_noticesOf]
  rfl

theorem slot_requestTaken : (requestTaken id rest y ns s).air.slot id =
    { y with counter := ((s.air.slot id).counter + 1) % 256 } :=
  slot_setSlot_same _ _ _

theorem setSlot_requestTaken (h : z.counter = ((s.air.slot id).counter + 1) % 256) :
    setSlot id z (requestTaken id rest y ns s) = requestTaken id rest z ns s := by
  unfold requestTaken setSlot State.setAir
  rw [setSlot_setSlot, ← h]

theorem notify_requestTaken (n : Notice) : notify id n (requestTaken id rest y ns s) =
    requestTaken id rest y (ns ++ [n]) s := by
  unfold requestTaken notify State.setMail
  rw [noticesOf_setNotices, setNotices_setNotices, List.append_assoc]

theorem notifyCancelled_requestTaken (c : Option Content) (numbers : List Nat) :
    notifyCancelled id c numbers (requestTaken id rest y ns s) =
      requestTaken id rest y (ns ++ cancelledNotices c numbers) s := by
  unfold notifyCancelled cancelledNotices
  cases numbers with
  | nil => simp
  | cons k ks => exact notify_requestTaken _

end RequestTaken

/-- Without a notice the mail loses the request alone. -/
theorem requestTaken_nil (id : SlotId) (rest : List Request) (y : Slot) (s : State) :
    requestTaken id rest y [] s = { s with
      air := s.air.setSlot id { y with counter := ((s.air.slot id).counter + 1) % 256 }
      mail := s.mail.setRequests id rest } := by
  unfold requestTaken
  rw [List.append_nil, ← noticesOf_setRequests s.mail id rest, setNotices_noticesOf]

/-- The content that a request asks to send. -/
def requestedContent : Request → Option Content
  | .add c => some c
  | .cancel => none

/-- The oldest request is taken outside STARTING and UNCONFIGURED, and receives CANCELLED in these (R43). -/
theorem takeRequest_eq {id : SlotId} {r : Request} {rest : List Request} {s : State}
    (hreq : requestsOf s.mail id = r :: rest) {f : Request → Option (Nat → State → State)}
    {g : Nat → State → State} (hf : f r = some g) :
    takeRequest id f s =
      if onLayout s then g (s.air.slot id).counter (requestTaken id rest (s.air.slot id) [] s)
      else requestTaken id rest (s.air.slot id)
        [⟨.cancelled, [(s.air.slot id).counter], requestedContent r⟩] s := by
  unfold takeRequest
  rw [hreq]
  dsimp only
  rw [hf]
  dsimp only
  rw [takeNumber_eq, notify_requestTaken]
  rfl

/-! ## A slot becomes PENDING (R56) -/

@[simp] theorem setSlot_carrier (a : Air) (id : SlotId) (x : Slot) : (a.setSlot id x).carrier = a.carrier := by
  cases id <;> rfl

theorem wakeAccess_requestTaken_busy {id : SlotId} {s : State} (h : s.air.access ≠ .idle)
    (rest : List Request) (y : Slot) (ns : List Notice) :
    wakeAccess (requestTaken id rest y ns s) = requestTaken id rest y ns s :=
  if_neg fun hidle => h ((setSlot_access _ _ _).symm.trans hidle)

theorem wakeAccess_requestTaken_idle {id : SlotId} {s : State} (h : s.air.access = .idle)
    (rest : List Request) (y : Slot) (ns : List Notice) :
    wakeAccess (requestTaken id rest y ns s) = { requestTaken id rest y ns s with
      air := { (requestTaken id rest y ns s).air with
        access := .sensing
        drawn := false
        count := 0
        countdown := none
        quiet := if s.air.carrier then none else some 2 } } := by
  have hcarrier : (requestTaken id rest y ns s).air.carrier = s.air.carrier := setSlot_carrier _ _ _
  rw [← hcarrier]
  exact if_pos ((setSlot_access _ _ _).trans h)

/-! ## Adds to the CLAIM and HALT slots (R44) -/

/-- The notice of a reload that is discarded (R44, R48). -/
def droppedNotices : Option Reload → List Notice
  | some r => cancelledNotices (some r.content) (numbersOf r.answered)
  | none => []

section BySlotState

variable {id : SlotId} {rest : List Request} {s : State}

theorem addSuperseding_empty (h : (s.air.slot id).state = .empty) (c : Content) (n : Nat) :
    addSuperseding id c n (requestTaken id rest (s.air.slot id) [] s) = wakeAccess (requestTaken id rest
      { s.air.slot id with state := .pending, content := some c, answered := [⟨n, none⟩] } [] s) := by
  unfold addSuperseding
  rw [slot_requestTaken]
  dsimp only
  rw [h]
  exact congrArg wakeAccess (setSlot_requestTaken rfl)

theorem addSuperseding_pending (h : (s.air.slot id).state = .pending) (c : Content) (n : Nat) :
    addSuperseding id c n (requestTaken id rest (s.air.slot id) [] s) = requestTaken id rest
      { s.air.slot id with state := .pending, content := some c, answered := [⟨n, none⟩] }
      (cancelledNotices (s.air.slot id).content (numbersOf (s.air.slot id).answered)) s := by
  unfold addSuperseding
  rw [slot_requestTaken]
  dsimp only
  rw [h]
  dsimp only
  rw [setSlot_requestTaken rfl, notifyCancelled_requestTaken]
  rfl

theorem addSuperseding_onAir (h : (s.air.slot id).state = .onAir) (c : Content) (n : Nat) :
    addSuperseding id c n (requestTaken id rest (s.air.slot id) [] s) = requestTaken id rest
      { s.air.slot id with reload := some ⟨c, [⟨n, none⟩]⟩ } (droppedNotices (s.air.slot id).reload) s := by
  unfold addSuperseding
  rw [slot_requestTaken]
  dsimp only
  rw [h]
  dsimp only
  rw [setSlot_requestTaken rfl]
  cases (s.air.slot id).reload with
  | none => rfl
  | some r => exact notifyCancelled_requestTaken _ _

end BySlotState

/-- Notices raised for requests that may be none. -/
theorem requestTaken_cancelled (id : SlotId) (rest : List Request) (y : Slot) (c : Option Content)
    (numbers : List Nat) (s : State) : requestTaken id rest y (cancelledNotices c numbers) s =
      if numbers = [] then requestTaken id rest y [] s
      else requestTaken id rest y [⟨.cancelled, numbers, c⟩] s := by
  unfold cancelledNotices
  split <;> rfl

theorem exec_addRequest {s : State} (hup : s.held = false) {which : SupersedingSlot} {c : Content}
    {rest : List Request} (hreq : requestsOf s.mail (supersedingId which) = .add c :: rest) :
    exec (.addRequest which) s = .next (
      if onLayout s then addSuperseding (supersedingId which) c (s.air.slot (supersedingId which)).counter
        (requestTaken (supersedingId which) rest (s.air.slot (supersedingId which)) [] s)
      else requestTaken (supersedingId which) rest (s.air.slot (supersedingId which))
        [⟨.cancelled, [(s.air.slot (supersedingId which)).counter], some c⟩] s) :=
  (whileUp_up hup _).trans (congrArg _ (takeRequest_eq hreq rfl))

/-! ## Adds to the RELEASE slot (R45, R46) -/

/-- AIR has taken a request to the RELEASE slot, which is as it was but for its counter. -/
def releaseTaken (rest : List Request) (s : State) : State :=
  requestTaken .release rest s.air.releaseSlot [] s

section Release

variable {rest : List Request} {s : State} {sec n : Nat} {secs : List Nat} {ans : List Numbered}

theorem setSlot_releaseTaken {z : Slot} (h : z.counter = (s.air.releaseSlot.counter + 1) % 256) :
    setSlot .release z (releaseTaken rest s) = requestTaken .release rest z [] s :=
  setSlot_requestTaken h

theorem addToReload_none (h : s.air.releaseSlot.reload = none) :
    addToReload (releaseTaken rest s).air.releaseSlot sec n (releaseTaken rest s) =
      requestTaken .release rest
        { s.air.releaseSlot with reload := some ⟨.release [sec], [⟨n, some sec⟩]⟩ } [] s := by
  have hreload : (releaseTaken rest s).air.releaseSlot.reload = none := h
  unfold addToReload
  rw [hreload]
  exact setSlot_releaseTaken rfl

theorem addToReload_some (h : s.air.releaseSlot.reload = some ⟨.release secs, ans⟩) :
    addToReload (releaseTaken rest s).air.releaseSlot sec n (releaseTaken rest s) =
      if sec ∈ secs then requestTaken .release rest
        { s.air.releaseSlot with reload := some ⟨.release secs, ans ++ [⟨n, some sec⟩]⟩ } [] s
      else if secs.length ≤ 1 then requestTaken .release rest
        { s.air.releaseSlot with reload := some ⟨.release (secs ++ [sec]), ans ++ [⟨n, some sec⟩]⟩ } [] s
      else requestTaken .release rest
        { s.air.releaseSlot with reload := some ⟨.release (secs.drop 1 ++ [sec]),
          ans.filter (fun r => r.sec != some (secs.headD 0)) ++ [⟨n, some sec⟩]⟩ }
        (cancelledNotices (some (.release [secs.headD 0]))
          (numbersOf (ans.filter (fun r => r.sec == some (secs.headD 0))))) s := by
  have hreload : (releaseTaken rest s).air.releaseSlot.reload = some ⟨.release secs, ans⟩ := h
  unfold addToReload
  rw [hreload]
  simp only [releaseSections, List.contains_iff_mem, Nat.lt_succ_iff]
  rw [setSlot_releaseTaken rfl, setSlot_releaseTaken rfl, setSlot_releaseTaken rfl, notifyCancelled_requestTaken]
  rfl

theorem addRelease_empty (h : s.air.releaseSlot.state = .empty) :
    addRelease sec n (releaseTaken rest s) = wakeAccess (requestTaken .release rest { s.air.releaseSlot with
      state := .pending, content := some (.release [sec]), answered := [⟨n, some sec⟩] } [] s) := by
  have hstate : (releaseTaken rest s).air.releaseSlot.state = .empty := h
  unfold addRelease
  dsimp only
  rw [hstate]
  exact congrArg wakeAccess (setSlot_releaseTaken rfl)

theorem addRelease_pending (h : s.air.releaseSlot.state = .pending)
    (hc : s.air.releaseSlot.content = some (.release secs)) :
    addRelease sec n (releaseTaken rest s) =
      if sec ∈ secs then requestTaken .release rest { s.air.releaseSlot with
        answered := s.air.releaseSlot.answered ++ [⟨n, some sec⟩] } [] s
      else if secs.length ≤ 1 then requestTaken .release rest { s.air.releaseSlot with
        content := some (.release (secs ++ [sec]))
        answered := s.air.releaseSlot.answered ++ [⟨n, some sec⟩] } [] s
      else addToReload (releaseTaken rest s).air.releaseSlot sec n (releaseTaken rest s) := by
  have hstate : (releaseTaken rest s).air.releaseSlot.state = .pending := h
  have hcontent : (releaseTaken rest s).air.releaseSlot.content = some (.release secs) := hc
  unfold addRelease
  dsimp only
  rw [hstate]
  simp only [hcontent, releaseSections, List.contains_iff_mem, Nat.lt_succ_iff]
  rw [setSlot_releaseTaken rfl, setSlot_releaseTaken rfl, h, hc]
  rfl

theorem addRelease_onAir (h : s.air.releaseSlot.state = .onAir) : addRelease sec n (releaseTaken rest s) =
    addToReload (releaseTaken rest s).air.releaseSlot sec n (releaseTaken rest s) := by
  have hstate : (releaseTaken rest s).air.releaseSlot.state = .onAir := h
  unfold addRelease
  dsimp only
  rw [hstate]

end Release

theorem exec_releaseAddRequest {s : State} (hup : s.held = false) {sec : Nat} {rest : List Request}
    (hreq : s.mail.releaseRequests = .add (.release [sec]) :: rest) :
    exec .releaseAddRequest s = .next (
      if onLayout s then addRelease sec s.air.releaseSlot.counter (releaseTaken rest s)
      else requestTaken .release rest s.air.releaseSlot
        [⟨.cancelled, [s.air.releaseSlot.counter], some (.release [sec])⟩] s) :=
  (whileUp_up hup _).trans (congrArg _ (takeRequest_eq (id := .release) hreq rfl))

/-- Settles O38: the branches of the two adds, on the slot as the taken request leaves it. -/
theorem addRequestsSupersedeOrMerge : Obligations.AddRequestsSupersedeOrMerge := by
  refine ⟨?_, ?_⟩
  · intro which c rest s hup id hreq x n taken mail put told filled reloaded result
    have hput (y : Slot) : requestTaken id rest y [] s = put y := requestTaken_nil id rest y s
    have htold (ns : List Nat) (about : Option Content) (y : Slot) :
        requestTaken id rest y (cancelledNotices about ns) s = told ns about (put y) := by
      rw [requestTaken_cancelled, hput]
      rfl
    have hresult : result = _ := exec_addRequest hup hreq
    have hon (h : taken) : result = .next (addSuperseding id c n (requestTaken id rest x [] s)) :=
      hresult.trans (congrArg _ (if_pos ((onLayout_iff s).mpr h)))
    refine ⟨fun hoff => ?_, fun h hstate hbusy => ?_, fun h hstate hidle => ?_, fun h hstate => ?_,
      fun h hstate => ⟨fun hnone => ?_, fun r hr => ?_⟩⟩
    · rw [hresult, if_neg (mt (onLayout_iff s).mp hoff)]
      rfl
    · rw [hon h, addSuperseding_empty hstate, wakeAccess_requestTaken_busy hbusy, hput]
    · rw [hon h, addSuperseding_empty hstate, wakeAccess_requestTaken_idle hidle, hput]
    · rw [hon h, addSuperseding_pending hstate, htold]
      rfl
    · rw [hon h, addSuperseding_onAir hstate, hnone]
      exact congrArg _ (hput _)
    · rw [hon h, addSuperseding_onAir hstate, hr]
      exact congrArg _ (htold _ _ _)
  · intro sec rest s hup hreq taken x q put result toReload filled
    have hput (y : Slot) : requestTaken .release rest y [] s = put y := requestTaken_nil .release rest y s
    have hresult : result = _ := exec_releaseAddRequest hup hreq
    have hon (h : taken) : result = .next (addRelease sec x.counter (releaseTaken rest s)) :=
      hresult.trans (congrArg _ (if_pos ((onLayout_iff s).mpr h)))
    have htoReload (h : result = .next
        (addToReload (releaseTaken rest s).air.releaseSlot sec x.counter (releaseTaken rest s))) : toReload := by
      refine ⟨fun hnone => ?_, fun secs ans hr => ?_⟩
      · rw [h, addToReload_none hnone, hput]
      rw [h, addToReload_some hr]
      refine ⟨fun hmem => ?_, fun hnew hroom => ?_, ?_⟩
      · rw [if_pos hmem, hput]
      · rw [if_neg hnew, if_pos hroom, hput]
      · rintro a b rfl hnew gone moved
        rw [if_neg hnew, if_neg (show ¬[a, b].length ≤ 1 from Nat.not_succ_le_self 1),
          requestTaken_cancelled, hput]
        exact ⟨fun hgone => congrArg _ (if_pos hgone), fun hgone => congrArg _ (if_neg hgone)⟩
    refine ⟨fun hoff => ?_, fun h hstate hbusy => ?_, fun h hstate hidle => ?_, fun secs h hstate hc => ?_,
      fun h hstate => htoReload ((hon h).trans (congrArg _ (addRelease_onAir hstate)))⟩
    · rw [hresult, if_neg (mt (onLayout_iff s).mp hoff)]
      rfl
    · rw [hon h, addRelease_empty hstate, wakeAccess_requestTaken_busy hbusy, hput]
    · rw [hon h, addRelease_empty hstate, wakeAccess_requestTaken_idle hidle, hput]
    · have hpending := (hon h).trans (congrArg _ (addRelease_pending hstate hc))
      refine ⟨fun hmem => ?_, fun hnew hroom => ?_, fun hnew hfull => htoReload ?_⟩
      · rw [hpending, if_pos hmem, hput]
      · rw [hpending, if_neg hnew, if_pos hroom, hput]
      · rw [hpending, if_neg hnew, if_neg (Nat.not_le.mpr hfull)]

/-! ## Cancels (R48) -/

section Cancel

variable {id : SlotId} {rest : List Request} {s : State}

theorem cancelSlot_empty (h : (s.air.slot id).state = .empty) (n : Nat) :
    cancelSlot id n (requestTaken id rest (s.air.slot id) [] s) =
      requestTaken id rest (s.air.slot id) [⟨.cancelled, [n], none⟩] s := by
  unfold cancelSlot
  rw [slot_requestTaken]
  dsimp only
  rw [h]
  exact notify_requestTaken _

/-- The cancel of an ON_AIR or PENDING slot takes its reload along (R48). -/
theorem dropReload_requestTaken (r : Option Reload) (y : Slot) (ns : List Notice) :
    (match r with
      | some r => notifyCancelled id (some r.content) (numbersOf r.answered) (requestTaken id rest y ns s)
      | none => requestTaken id rest y ns s) = requestTaken id rest y (ns ++ droppedNotices r) s := by
  cases r with
  | none => rw [droppedNotices, List.append_nil]
  | some r => exact notifyCancelled_requestTaken _ _

theorem cancelSlot_pending (h : (s.air.slot id).state = .pending) (n : Nat) :
    cancelSlot id n (requestTaken id rest (s.air.slot id) [] s) = requestTaken id rest
      { s.air.slot id with state := .empty, content := none, answered := [], reload := none }
      (⟨.cancelled, numbersOf (s.air.slot id).answered ++ [n], (s.air.slot id).content⟩ ::
        droppedNotices (s.air.slot id).reload) s := by
  unfold cancelSlot
  rw [slot_requestTaken]
  dsimp only
  rw [h]
  dsimp only
  rw [setSlot_requestTaken rfl, notify_requestTaken]
  exact dropReload_requestTaken _ _ _

theorem cancelSlot_onAir (h : (s.air.slot id).state = .onAir) (n : Nat) :
    cancelSlot id n (requestTaken id rest (s.air.slot id) [] s) = requestTaken id rest
      { s.air.slot id with mark := (s.air.slot id).mark ++ [n], reload := none }
      (droppedNotices (s.air.slot id).reload) s := by
  unfold cancelSlot
  rw [slot_requestTaken]
  dsimp only
  rw [h]
  dsimp only
  rw [setSlot_requestTaken rfl]
  exact dropReload_requestTaken _ _ _

end Cancel

theorem exec_cancelRequest {s : State} (hup : s.held = false) {id : SlotId} {rest : List Request}
    (hreq : requestsOf s.mail id = .cancel :: rest) :
    exec (.cancelRequest id) s = .next (
      if onLayout s then cancelSlot id (s.air.slot id).counter (requestTaken id rest (s.air.slot id) [] s)
      else requestTaken id rest (s.air.slot id) [⟨.cancelled, [(s.air.slot id).counter], none⟩] s) :=
  (whileUp_up hup _).trans (congrArg _ (takeRequest_eq hreq rfl))

/-- Settles O40: the branches of a cancel, on the slot as the taken request leaves it. -/
theorem cancelWithdrawsTheSlot : Obligations.CancelWithdrawsTheSlot := by
  intro id rest s hup hreq x n taken mail put dropped result
  have hresult : result = _ := exec_cancelRequest hup hreq
  have hon (h : taken) : result = .next (cancelSlot id n (requestTaken id rest x [] s)) :=
    hresult.trans (congrArg _ (if_pos ((onLayout_iff s).mpr h)))
  have hdropped : droppedNotices x.reload = dropped := by
    simp only [dropped]
    cases x.reload with
    | none => rfl
    | some r => simp [droppedNotices, cancelledNotices, numbersOf]
  refine ⟨fun hnothing => ?_, fun h hstate => ?_, fun h hstate => ?_⟩
  · by_cases h : taken
    · rw [hon h, cancelSlot_empty (hnothing.resolve_left (not_not_intro h))]
      rfl
    · rw [hresult, if_neg (mt (onLayout_iff s).mp h)]
      rfl
  · rw [hon h, cancelSlot_pending hstate, hdropped]
    rfl
  · rw [hon h, cancelSlot_onAir hstate, hdropped]
    rfl

/-! ## Adds to the POSITION slot (R47) and the beacon timer (R55) -/

/-- AIR has taken a request to the POSITION slot, which is as it was but for its counter. -/
def positionTaken (rest : List Request) (s : State) : State :=
  requestTaken .position rest s.air.positionSlot [] s

theorem addPosition_empty {s : State} (h : s.air.positionSlot.state = .empty) (rest : List Request) (n : Nat) :
    addPosition n (positionTaken rest s) = wakeAccess (requestTaken .position rest { s.air.positionSlot with
      state := .pending, content := some .position, answered := [⟨n, none⟩] } [] s) := by
  have hstate : (positionTaken rest s).air.positionSlot.state = .empty := h
  unfold addPosition
  dsimp only
  rw [hstate]
  exact congrArg wakeAccess (setSlot_requestTaken rfl)

/-- A beacon merges with the one before it (R47). -/
theorem addPosition_full {s : State} (h : s.air.positionSlot.state ≠ .empty) (rest : List Request) (n : Nat) :
    addPosition n (positionTaken rest s) = raise .beaconMerged
      (requestTaken .position rest s.air.positionSlot [⟨.cancelled, [n], some .position⟩] s) := by
  have hstate : (positionTaken rest s).air.positionSlot.state ≠ .empty := h
  unfold addPosition
  dsimp only
  split
  · next hempty => exact absurd hempty hstate
  · exact congrArg (raise .beaconMerged) (notify_requestTaken _)

theorem exec_positionAddRequest {s : State} (hup : s.held = false) {rest : List Request}
    (hreq : s.mail.positionRequests = .add .position :: rest) :
    exec .positionAddRequest s = .next (
      if onLayout s then addPosition s.air.positionSlot.counter (positionTaken rest s)
      else requestTaken .position rest s.air.positionSlot
        [⟨.cancelled, [s.air.positionSlot.counter], some .position⟩] s) :=
  (whileUp_up hup _).trans (congrArg _ (takeRequest_eq (id := .position) hreq rfl))

/-- A draw from a seeded generator takes eight steps (R58). -/
theorem draw_seeded {s : State} {r : BitVec 16} (h : s.air.generator = some r) (n : Nat)
    (f : Nat → State → State) : draw n f s =
      f (generatorSteps 8 r &&& BitVec.ofNat 16 n).toNat
        (s.setAir { s.air with generator := some (generatorSteps 8 r) }) := by
  unfold draw
  rw [h]
  rfl

theorem exec_beaconTimer {s : State} (hup : s.held = false) (hruns : s.air.beacon.isSome) :
    exec .beaconTimer s = .next (beaconDue s) :=
  (whileUp_up hup _).trans (congrArg _ (if_pos hruns))

theorem exec_beaconNotice {s : State} (hup : s.held = false) {n : Notice} {later : List Notice}
    (h : s.mail.positionNotices = n :: later) :
    exec .beaconNotice s = .next { s with mail := { s.mail with positionNotices := later } } := by
  refine (whileUp_up hup _).trans (congrArg _ ?_)
  unfold takeNotice noticesOf
  rw [h]
  rfl

/-- Settles O39: the timer's post and draw, and the branches of the add on the slot as the taken request
leaves it. -/
theorem beaconsArePostedAndMerged : Obligations.BeaconsArePostedAndMerged := by
  intro r rest n later s hup drawn interval x counted told filled taken
  refine ⟨fun hruns hseeded => ?_, fun hreq => ?_, exec_beaconNotice hup⟩
  · -- the draw finds the generator as it was: the post before it touches the mail alone
    have hgenerator : (postRequest .position (.add .position) s).air.generator = some r := hseeded
    rw [exec_beaconTimer hup hruns, beaconDue, armBeacon, draw_seeded hgenerator]
    rfl
  have hput (y : Slot) := requestTaken_nil .position rest y s
  have hresult := exec_positionAddRequest hup hreq
  have hon (h : taken) : exec .positionAddRequest s = .next (addPosition x.counter (positionTaken rest s)) :=
    hresult.trans (congrArg _ (if_pos ((onLayout_iff s).mpr h)))
  refine ⟨fun hoff => ?_, fun h hfull => ?_, fun h hempty hbusy => ?_, fun h hempty hidle => ?_⟩
  · rw [hresult, if_neg (mt (onLayout_iff s).mp hoff)]
    rfl
  · rw [hon h, addPosition_full hfull]
    rfl
  · rw [hon h, addPosition_empty hempty, wakeAccess_requestTaken_busy hbusy, hput]
    rfl
  · rw [hon h, addPosition_empty hempty, wakeAccess_requestTaken_idle hidle, hput]
    rfl

end Sys2Proof.Proofs
end

section
/-! PROOFS. Chapter 3, channel access, the backoff generator and hand-over (R49, R54, R56 to R58). -/

namespace Sys2Proof.Proofs

open Sys2Proof.Machine Sys2Proof.Laws

/-! ## The backoff generator (R58) -/

/-- A step shifts every bit but the top one up. -/
theorem generatorStep_bit_succ (r : BitVec 16) {i : Nat} (h : i < 15) :
    (generatorStep r).getLsbD (i + 1) = r.getLsbD i := by
  unfold generatorStep
  dsimp only
  split <;> simp <;> omega

/-- The bit shifted in is the exclusive-or of bits 15, 13, 12 and 10. -/
theorem generatorStep_bit_zero (r : BitVec 16) : (generatorStep r).getLsbD 0 =
    (r.getLsbD 15 ^^ (r.getLsbD 13 ^^ (r.getLsbD 12 ^^ r.getLsbD 10))) := by
  unfold generatorStep
  dsimp only
  split <;> simp_all

/-- The lower bits can be read off the step, and with them the top bit, which is shifted out. -/
theorem generatorStep_injective {a b : BitVec 16} (h : generatorStep a = generatorStep b) : a = b := by
  have hlow {i : Nat} (hi : i < 15) : a.getLsbD i = b.getLsbD i := by
    rw [← generatorStep_bit_succ a hi, h, generatorStep_bit_succ b hi]
  have htop : a.getLsbD 15 = b.getLsbD 15 := by
    have hbit := generatorStep_bit_zero a
    rw [h, generatorStep_bit_zero b, hlow (i := 13) (by decide), hlow (i := 12) (by decide),
      hlow (i := 10) (by decide)] at hbit
    exact (Bool.xor_left_inj.mp hbit).symm
  refine BitVec.eq_of_getLsbD_eq fun i hi => ?_
  rcases Nat.lt_succ_iff_lt_or_eq.mp hi with hlt | rfl
  · exact hlow hlt
  · exact htop

theorem generatorSteps_ne_zero (n : Nat) {r : BitVec 16} (h : r ≠ 0) : generatorSteps n r ≠ 0 := by
  induction n generalizing r with
  | zero => exact h
  | succ n ih =>
    have hstep : generatorStep 0#16 = 0#16 := by decide
    exact ih fun hzero => h (generatorStep_injective (hzero.trans hstep.symm))

theorem seedOf_ne_zero {station count : Nat} (hlow : 1 ≤ station) (hhigh : station ≤ 62) (hcount : count ≤ 255) :
    seedOf station count ≠ 0 := by
  intro h
  have htoNat : (station * 256 + count) % 2 ^ 16 = 0 := congrArg BitVec.toNat h
  omega

/-! ## Channel access (R56) -/

theorem startCounting_eq (s : State) (a : Air) (k : Nat) : startCounting (s.setAir { a with count := k }) =
    if k = 0 then handOver (s.setAir { a with access := .counting, count := 0, quiet := none })
    else s.setAir { a with access := .counting, count := k, quiet := none, countdown := some 1 } := by
  unfold startCounting
  split
  · next h =>
    have hk : k = 0 := h
    subst hk
    rfl
  · next h => exact (if_neg h).symm

theorem quietPassed_drawn {s : State} (h : s.air.drawn = true) : quietPassed s = startCounting s := if_pos h

theorem quietPassed_undrawn {s : State} (h : s.air.drawn = false) {r : BitVec 16} (hr : s.air.generator = some r) :
    quietPassed s = startCounting (s.setAir { s.air with
      generator := some (generatorSteps 8 r)
      drawn := true
      count := (generatorSteps 8 r &&&
        BitVec.ofNat 16 (2 ^ (s.node.settings.contentionCode + 3) - 1)).toNat }) := by
  unfold quietPassed
  rw [if_neg (by simp [h]), draw_seeded hr]
  rfl

theorem exec_quietTimer {s : State} (hup : s.held = false) (hsensing : s.air.access = .sensing)
    (hruns : s.air.quiet.isSome) : exec .quietTimer s = .next (quietPassed s) :=
  (whileUp_up hup _).trans (congrArg _ (if_pos ⟨hsensing, hruns⟩))

theorem exec_countdownTick {s : State} (hup : s.held = false) (hcounting : s.air.access = .counting)
    (hruns : s.air.countdown.isSome) : exec .countdownTick s = .next (tickCount s) :=
  (whileUp_up hup _).trans (congrArg _ (if_pos ⟨hcounting, hruns⟩))

theorem carrierOn_sensing {s : State} (h : s.air.access = .sensing) :
    carrierOn s = s.setAir { s.air with carrier := true, quiet := none } := by
  simp only [carrierOn, h]

theorem carrierOn_counting {s : State} (h : s.air.access = .counting) : carrierOn s =
    s.setAir { s.air with carrier := true, access := .sensing, quiet := none, countdown := none } := by
  simp only [carrierOn, h]

/-- With no attempt under way, and during a transmission, the level of the line is noted alone. -/
theorem carrierOn_otherwise {s : State} (h : s.air.access = .idle ∨ s.air.access = .transmitting) :
    carrierOn s = s.setAir { s.air with carrier := true } := by
  obtain h | h := h <;> simp only [carrierOn, h]

theorem carrierOff_sensing {s : State} (h : s.air.access = .sensing) :
    carrierOff s = s.setAir { s.air with carrier := false, quiet := some 2 } := by
  simp only [carrierOff, h]

theorem carrierOff_otherwise {s : State} (h : s.air.access ≠ .sensing) :
    carrierOff s = s.setAir { s.air with carrier := false } := by
  unfold carrierOff
  split
  · contradiction
  all_goals rfl

/-- Settles O41: channel access by its cases, and the generator by its step being one to one. -/
theorem channelAccessCountsDown : Obligations.ChannelAccessCountsDown := by
  refine ⟨fun s => ?_, fun station count n hlow hhigh hcount =>
    generatorSteps_ne_zero n (seedOf_ne_zero hlow hhigh hcount), fun a b => generatorStep_injective⟩
  intro air w counting
  have hcounting (a : Air) (k : Nat) : .next (startCounting (s.setAir { a with count := k })) = counting k a := by
    rw [startCounting_eq]
    exact apply_ite _ _ _ _
  refine ⟨?_, ?_, ?_, ?_, ?_, ?_, ?_⟩
  · exact fun h => congrArg _ (carrierOn_sensing h)
  · exact fun h => congrArg _ (carrierOn_counting h)
  · exact fun h => ⟨congrArg _ (carrierOn_otherwise h),
      congrArg _ (carrierOff_otherwise fun hsensing => by simp [hsensing] at h)⟩
  · exact fun h => congrArg _ (carrierOff_otherwise (by simp [h]))
  · exact fun h => congrArg _ (carrierOff_sensing h)
  · intro hup hsensing hruns
    rw [exec_quietTimer hup hsensing hruns]
    refine ⟨fun hdrawn => ?_, fun r hdrawn hr => ?_⟩
    · rw [quietPassed_drawn hdrawn]
      exact hcounting s.air s.air.count
    · rw [quietPassed_undrawn hdrawn hr]
      exact hcounting { s.air with generator := some (generatorSteps 8 r), drawn := true } _
  · intro hup hcount hruns
    rw [exec_countdownTick hup hcount hruns, tickCount]
    refine ⟨fun hlast => ?_, fun hmore => ?_⟩
    · rw [if_pos (Nat.sub_eq_zero_of_le hlast)]
      rfl
    · rw [if_neg (Nat.sub_ne_zero_of_lt hmore)]
      rfl

/-! ## Hand-over (R49, R54, R57) -/

section HandOver

variable {s : State} {id : SlotId} {rest : List SlotId} {c : Content}

theorem handOverFrom_pass (h : (s.air.slot id).state ≠ .pending) :
    handOverFrom (id :: rest) s = handOverFrom rest s := by
  rw [handOverFrom]
  split
  · contradiction
  · rfl

theorem handOverFrom_transmit (h : (s.air.slot id).state = .pending) (hc : (s.air.slot id).content = some c)
    (hreach : id = .halt → s.cvy.convoy ≠ 0) : handOverFrom (id :: rest) s = transmit id c s := by
  rw [handOverFrom]
  simp only [h, hc]
  exact if_neg fun hnone => hreach hnone.1 hnone.2

theorem handOverFrom_withdraw (h : (s.air.slot .halt).state = .pending)
    (hc : (s.air.slot .halt).content = some c) (hnone : s.cvy.convoy = 0) :
    handOverFrom (.halt :: rest) s = handOverFrom rest (withdraw .halt s) := by
  rw [handOverFrom]
  simp only [h, hc]
  exact if_pos ⟨trivial, hnone⟩

end HandOver

/-- The state in which the slots behind HALT are looked at: a HALT with no convoy to reach is withdrawn (R54). -/
def haltWithdrawn (s : State) : State :=
  if s.air.haltSlot.state = .pending ∧ s.cvy.convoy = 0 then withdraw .halt s else s

theorem haltWithdrawn_slot (s : State) {id : SlotId} (h : id ≠ .halt) :
    (haltWithdrawn s).air.slot id = s.air.slot id := by
  unfold haltWithdrawn
  split
  · exact slot_setSlot_ne _ h _
  · rfl

theorem haltWithdrawn_layoutCode (s : State) : (haltWithdrawn s).air.layoutCode = s.air.layoutCode := by
  unfold haltWithdrawn
  split <;> rfl

theorem withdraw_halt {s : State} (h : s.air.haltSlot.reload = none) : withdraw .halt s = { s with
    air := { s.air with haltSlot := { s.air.haltSlot with
      state := .empty
      content := none
      answered := []
      mark := [] } }
    mail := { s.mail with haltNotices := s.mail.haltNotices ++
      [⟨.cancelled, numbersOf s.air.haltSlot.answered, s.air.haltSlot.content⟩] } } := by
  have hnext : s.air.haltSlot.next = { s.air.haltSlot with
      state := .empty, content := none, answered := [], mark := [] } := by
    simp only [Slot.next, h]
  rw [← hnext]
  rfl

/-- A slot that hands over: PENDING, and not a HALT or RESUME with no convoy to reach (R54). -/
def Sends (s : State) (id : SlotId) : Prop :=
  (s.air.slot id).state = .pending ∧ (id = .halt → s.cvy.convoy ≠ 0)

theorem haltWithdrawn_of_sends {s : State} (h : Sends s .halt) : haltWithdrawn s = s :=
  if_neg fun hnone => h.2 rfl hnone.2

/-- Unless HALT sends, the slots behind it are looked at in the order RELEASE, CLAIM, POSITION (R57). -/
theorem handOver_behind_halt {s : State}
    (hcontent : (s.air.slot .halt).state = .pending → (s.air.slot .halt).content.isSome) (h : ¬Sends s .halt) :
    handOver s = handOverFrom [.release, .claim, .position] (haltWithdrawn s) := by
  by_cases hpending : (s.air.slot .halt).state = .pending
  · obtain ⟨c, hc⟩ := Option.isSome_iff_exists.mp (hcontent hpending)
    have hnone : s.cvy.convoy = 0 := by_contra fun hconvoy => h ⟨hpending, fun _ => hconvoy⟩
    exact (handOverFrom_withdraw hpending hc hnone).trans
      (congrArg _ (if_pos (And.intro hpending hnone)).symm)
  · exact (handOverFrom_pass hpending).trans (congrArg _ (if_neg fun hnone => hpending hnone.1).symm)

section Behind

variable {s : State} {id : SlotId} {rest : List SlotId} (hid : id ≠ .halt)
include hid

/-- A slot behind HALT that is not PENDING is passed over. -/
theorem handOverFrom_behind_pass (h : ¬Sends s id) :
    handOverFrom (id :: rest) (haltWithdrawn s) = handOverFrom rest (haltWithdrawn s) := by
  refine handOverFrom_pass fun hpending => h ⟨?_, fun he => absurd he hid⟩
  rwa [haltWithdrawn_slot s hid] at hpending

theorem handOverFrom_behind_transmit (h : Sends s id) {c : Content} (hc : (s.air.slot id).content = some c) :
    handOverFrom (id :: rest) (haltWithdrawn s) = transmit id c (haltWithdrawn s) := by
  rw [← haltWithdrawn_slot s hid] at hc
  refine handOverFrom_transmit ?_ hc fun he => absurd he hid
  rw [haltWithdrawn_slot s hid]
  exact h.1

end Behind

/-- Settles O42: the slots in their order, on the state in which a HALT with no convoy to reach is withdrawn. -/
theorem handOverTakesTheFirstSlot : Obligations.HandOverTakesTheFirstSlot := by
  intro s hcontent hreload pending sends x base sent
  have hbase : haltWithdrawn s = base := by
    unfold haltWithdrawn
    rw [withdraw_halt hreload]
    rfl
  have hsent {id : SlotId} (hsends : Sends s id)
      (h : ∀ c, (s.air.slot id).content = some c → handOver s = transmit id c (haltWithdrawn s)) : sent id := by
    intro c hc
    have hslot : base.air.slot id = s.air.slot id := by
      by_cases hid : id = .halt
      · subst hid
        rw [← hbase, haltWithdrawn_of_sends hsends]
      · rw [← hbase, haltWithdrawn_slot s hid]
    rw [h c hc, ← haltWithdrawn_layoutCode s, hbase, ← hslot]
    rfl
  have hbehind := handOver_behind_halt (hcontent .halt)
  refine ⟨fun hhalt => hsent hhalt fun c hc => ?_, fun hhalt hrel => hsent hrel fun c hc => ?_,
    fun hhalt hrel hclaim => hsent hclaim fun c hc => ?_,
    fun hhalt hrel hclaim hpos => hsent hpos fun c hc => ?_, fun hnone => ?_⟩
  · rw [haltWithdrawn_of_sends hhalt]
    exact handOverFrom_transmit hhalt.1 hc hhalt.2
  · rw [hbehind hhalt, handOverFrom_behind_transmit (by decide) hrel hc]
  · rw [hbehind hhalt, handOverFrom_behind_pass (by decide) hrel,
      handOverFrom_behind_transmit (by decide) hclaim hc]
  · rw [hbehind hhalt, handOverFrom_behind_pass (by decide) hrel, handOverFrom_behind_pass (by decide) hclaim,
      handOverFrom_behind_transmit (by decide) hpos hc]
  · rw [hbehind (hnone _), handOverFrom_behind_pass (by decide) (hnone _),
      handOverFrom_behind_pass (by decide) (hnone _), handOverFrom_behind_pass (by decide) (hnone _), hbase]
    rfl

end Sys2Proof.Proofs
end

section
/-! PROOFS. Chapter 3, the end of a transmission (R50, R51, R56, R59). -/

namespace Sys2Proof.Proofs

open Sys2Proof.Machine Sys2Proof.Laws

/-! ## The slot on the air -/

theorem slotOnAir_eq {s : State} {id : SlotId} (hon : (s.air.slot id).state = .onAir)
    (hsingle : ∀ j, j ≠ id → (s.air.slot j).state ≠ .onAir) : slotOnAir s = some id := by
  have hfound : (slotOnAir s).isSome := List.find?_isSome.mpr ⟨id, mem_slotOrder id, beq_iff_eq.mpr hon⟩
  obtain ⟨j, hj⟩ := Option.isSome_iff_exists.mp hfound
  have hjon : (s.air.slot j).state = .onAir := by simpa using List.find?_some hj
  have hjid : j = id := by_contra fun hne => hsingle j hne hjon
  rw [hj, hjid]

theorem slotOnAir_none {s : State} (h : ∀ j, (s.air.slot j).state ≠ .onAir) : slotOnAir s = none :=
  List.find?_eq_none.mpr fun j _ hj => h j (beq_iff_eq.mp hj)

theorem onAirSlot_some {s : State} {id : SlotId} (h : slotOnAir s = some id) (f : SlotId → State → State) :
    onAirSlot f s = f id s := by
  rw [onAirSlot, h]

theorem onAirSlot_none {s : State} (h : slotOnAir s = none) (f : SlotId → State → State) :
    onAirSlot f s = s := by
  rw [onAirSlot, h]

/-! ## What follows a transmission (R50) -/

theorem next_state_pending_iff (x : Slot) : x.next.state = .pending ↔ x.reload.isSome := by
  unfold Slot.next
  split <;> simp_all

/-- Some slot is PENDING after a transmission: the slot's own reload, or another slot. -/
theorem anyPending_clearAir (id : SlotId) (s : State) : anyPending (clearAir id s) = true ↔
    (s.air.slot id).reload.isSome ∨ ∃ j, j ≠ id ∧ (s.air.slot j).state = .pending := by
  have hsame : ((clearAir id s).air.slot id).state = .pending ↔ (s.air.slot id).reload.isSome := by
    rw [← next_state_pending_iff]
    exact iff_of_eq (congrArg (·.state = .pending) (slot_setSlot_same s.air id _))
  have hother (j : SlotId) (hj : j ≠ id) : (clearAir id s).air.slot j = s.air.slot j :=
    slot_setSlot_ne s.air hj _
  rw [anyPending_iff]
  constructor
  · rintro ⟨j, hpending⟩
    by_cases hj : j = id
    · subst hj
      exact .inl (hsame.mp hpending)
    · rw [hother j hj] at hpending
      exact .inr ⟨j, hj, hpending⟩
  · rintro (hreload | ⟨j, hj, hpending⟩)
    · exact ⟨id, hsame.mpr hreload⟩
    · exact ⟨j, by rwa [hother j hj]⟩

/-- The air port once the slot has moved on and the transceiver is free. -/
def airCleared (id : SlotId) (a : Air) : Air :=
  { a.setSlot id (a.slot id).next with transceiver := none, frame := [] }

theorem afterTransmission_pending {id : SlotId} {s : State}
    (h : (s.air.slot id).reload.isSome ∨ ∃ j, j ≠ id ∧ (s.air.slot j).state = .pending) :
    afterTransmission (clearAir id s) = { s with air := { airCleared id s.air with
      access := .sensing
      drawn := false
      count := 0
      countdown := none
      quiet := if s.air.carrier then none else some 2 } } := by
  rw [← setSlot_carrier s.air id (s.air.slot id).next]
  exact if_pos ((anyPending_clearAir id s).mpr h)

theorem afterTransmission_idle {id : SlotId} {s : State}
    (h : ¬((s.air.slot id).reload.isSome ∨ ∃ j, j ≠ id ∧ (s.air.slot j).state = .pending)) :
    afterTransmission (clearAir id s) = { s with air := { airCleared id s.air with
      access := .idle
      drawn := false
      count := 0
      countdown := none
      quiet := none } } :=
  if_neg (mt (anyPending_clearAir id s).mp h)

/-! ## The two ends of a transmission (R50, R51) -/

/-- A done signal has been noted: its notice, its count, and a beacon's local time (R50, R59). -/
def sentNoted (id : SlotId) (s : State) : State :=
  noteBeacon id (raise .sent (notify id (completionNotice (s.air.slot id)
    (if (s.air.slot id).mark.isEmpty then .sent else .sentDespiteCancel)) s))

/-- A transceiver timeout has been noted: its notice, its count and its record (R51). -/
def abortNoted (id : SlotId) (s : State) : State :=
  post .air .airAbort (.slot id) noDetail noDetail
    (raise .aborted (notify id (completionNotice (s.air.slot id) .aborted) s))

theorem sentNoted_slot (id j : SlotId) (s : State) : (sentNoted id s).air.slot j = s.air.slot j :=
  noteBeacon_slot id j _

theorem sentNoted_carrier (id : SlotId) (s : State) : (sentNoted id s).air.carrier = s.air.carrier := by
  unfold sentNoted noteBeacon
  split <;> rfl

@[simp] theorem setNotices_posts (m : Mail) (id : SlotId) (ns : List Notice) :
    (m.setNotices id ns).posts = m.posts := by
  cases id <;> rfl

section Signals

variable {s : State} (hup : s.held = false)
include hup

theorem exec_doneSignal {id : SlotId} (h : slotOnAir s = some id) :
    exec .doneSignal s = .next (afterTransmission (clearAir id (sentNoted id s))) :=
  (whileUp_up hup _).trans (congrArg _ (onAirSlot_some h finishSent))

theorem exec_transceiverTimeout {id : SlotId} (h : slotOnAir s = some id) :
    exec .transceiverTimeout s = .next (afterTransmission (clearAir id (abortNoted id s))) :=
  (whileUp_up hup _).trans (congrArg _ (onAirSlot_some h finishAborted))

/-- With no slot on the air both signals are late (R50). -/
theorem exec_lateSignal (h : slotOnAir s = none) :
    exec .doneSignal s = .next s ∧ exec .transceiverTimeout s = .next s :=
  ⟨(whileUp_up hup _).trans (congrArg _ (onAirSlot_none h finishSent)),
    (whileUp_up hup _).trans (congrArg _ (onAirSlot_none h finishAborted))⟩

end Signals

/-- Settles O44: the one slot on the air is found, its end is noted, and access goes on by what is PENDING then. -/
theorem transmissionsAreCompleted : Obligations.TransmissionsAreCompleted := by
  intro id s hup x followed waits ended access result notice noted
  have hresult {c : Instr} {u : State} (hslots : ∀ j, u.air.slot j = s.air.slot j)
      (hcarrier : u.air.carrier = s.air.carrier)
      (hexec : exec c s = .next (afterTransmission (clearAir id u))) : result c u := by
    have hcleared : airCleared id u.air = ended u.air := by
      rw [airCleared, hslots id]
      rfl
    have hwaits : ((u.air.slot id).reload.isSome ∨ ∃ j, j ≠ id ∧ (u.air.slot j).state = .pending) ↔ waits := by
      simp only [hslots]
      rfl
    refine ⟨fun h => ?_, fun h => ?_⟩
    · rw [hexec, afterTransmission_pending (hwaits.mpr h), hcleared, hcarrier]
    · rw [hexec, afterTransmission_idle (mt hwaits.mp h), hcleared]
  refine ⟨fun hon hsingle => ?_, fun hnone => exec_lateSignal hup (slotOnAir_none hnone)⟩
  have hair := slotOnAir_eq hon hsingle
  have hsent : sentNoted id s = raise .sent { s with
      mail := noted (if x.mark = [] then .sent else .sentDespiteCancel)
      air := if id = .position then { s.air with lastBeacon := some s.time } else s.air } := by
    simp only [sentNoted, noteBeacon, List.isEmpty_iff]
    split <;> rfl
  have haborted : abortNoted id s = raise .aborted { s with
      mail := { noted .aborted with
        posts := s.mail.posts ++ [⟨.air, .airAbort, .slot id, .num 0, .num 0⟩] } } := by
    rw [← setNotices_posts s.mail id (noticesOf s.mail id ++ [notice .aborted])]
    rfl
  rw [← hsent, ← haborted]
  exact ⟨hresult (fun j => sentNoted_slot id j s) (sentNoted_carrier id s) (exec_doneSignal hup hair),
    hresult (fun _ => rfl) rfl (exec_transceiverTimeout hup hair)⟩

end Sys2Proof.Proofs
end

section
/-! PROOFS. The state right after a POWER-ON meets every invariant (R41, R78, R99, R170, R183, R197). -/

namespace Sys2Proof.Proofs

open Sys2Proof.Machine Sys2Proof.Safety

/-- The journal holds START alone (R185). -/
theorem reset_journalInv : JournalInv State.reset.svc.journal where
  places := rfl
  get := by decide
  put := rfl
  fill := by decide
  lost := by decide
  held := by decide

theorem reset_countersInv : CountersInv State.reset.svc.counters := by
  intro id
  cases id <;> exact Nat.zero_le _

/-- The claim table is empty (R99). -/
theorem reset_claimInv : ClaimInv Clm.reset where
  ascending := .nil
  active := Nat.zero_le _
  lists := fun _ he => absurd he List.not_mem_nil
  tails := fun _ he => absurd he List.not_mem_nil
  posts := Nat.zero_le _

/-- The node is SOLO with an empty halt set (R78). -/
theorem reset_convoyInv : ConvoyInv Cvy.reset where
  solo := fun _ => ⟨rfl, rfl, rfl, rfl⟩
  leader := nofun
  follower := nofun
  members := Nat.zero_le _
  once := .nil
  foreign := Nat.zero_le _
  sources := .nil

/-- Every slot is EMPTY and access IDLE (R41). -/
theorem reset_airInv : AirInv Air.reset := by
  have hempty (id : SlotId) : (Air.reset.slot id).state = .empty := congrArg Slot.state (slot_reset id)
  have hnotOnAir (id : SlotId) : (Air.reset.slot id).state ≠ .onAir := by simp [hempty]
  refine ⟨fun id => ?slots, fun id _ hreload => ?reload, fun _ id => ?idle, ⟨nofun, ?onAir⟩, fun i _ hi => ?single,
    Nat.zero_le _, Nat.zero_le _, Nat.zero_le _⟩
  case slots =>
    rw [slot_reset]
    exact ⟨fun _ => ⟨rfl, rfl, rfl⟩, fun hfull => absurd rfl hfull, fun hmark => absurd rfl hmark⟩
  case reload => simp [slot_reset, Slot.reset] at hreload
  case idle => simp [hempty]
  case onAir => exact fun ⟨id, hid⟩ => absurd hid (hnotOnAir id)
  case single => exact absurd hi (hnotOnAir i)

/-- The chain is empty and the cycle idle (R170). -/
theorem reset_trailerInv : TrailerInv Trl.reset where
  chain := Nat.zero_le _
  missed := nofun
  silent := Nat.zero_le _
  counting := fun _ => rfl
  cycle := trivial

theorem defaults_inRange : SettingsInRange Settings.defaults := by
  constructor <;> decide

/-- There is no fix (R7). -/
theorem reset_positionInv : PositionInv Pos.reset where
  residue := Nat.zero_le _
  travel := Nat.zero_le _
  place := fun hfix => absurd rfl hfix
  bins := by decide
  speed := Nat.zero_le _
  still := by decide

/-- The node is STARTING, at rest with the motor neutral (R130, R163, R183). -/
theorem reset_modeInv : ModeInv State.reset where
  settings := defaults_inRange
  loading := fun _ => rfl
  noFix := fun _ => rfl
  position := reset_positionInv
  speed := Nat.zero_le _
  width := by decide
  held := by decide
  rest := fun _ => ⟨rfl, rfl, rfl, rfl⟩
  neutral := fun _ => ⟨rfl, rfl, rfl, rfl⟩
  unclaimed := fun _ _ he => absurd he List.not_mem_nil
  occupied := nofun

/-- Settles O59, block by block. -/
theorem resetMeetsTheInvariant : Obligations.ResetMeetsTheInvariant :=
  ⟨reset_journalInv, reset_countersInv, reset_claimInv, reset_convoyInv, reset_airInv, reset_trailerInv,
    reset_modeInv⟩

end Sys2Proof.Proofs
end

section
/-! PROOFS. The peer table (R62 to R67): which entry a POSITION takes, the victim of a full table as the
first entry of greatest age. -/

namespace Sys2Proof.Proofs

open Sys2Proof.Machine Sys2Proof.Laws

/-! ## The index a POSITION is written at -/

theorem findIdx?_first {α : Type} {p : α → Bool} {l : List α} {i : Nat} {x : α} (hx : l[i]? = some x)
    (hp : p x = true) (hfirst : ∀ j < i, ∀ y, l[j]? = some y → ¬p y = true) : l.findIdx? p = some i := by
  obtain ⟨hlt, rfl⟩ := List.getElem?_eq_some_iff.mp hx
  exact List.findIdx?_eq_some_iff_getElem.mpr
    ⟨hlt, hp, fun j hji => hfirst j hji _ (List.getElem?_eq_getElem (hji.trans hlt))⟩

/-- The entry is this station's. -/
def IsOf (station : Nat) (o : Option PeerEntry) : Prop := ∃ e, o = some e ∧ e.station = station

theorem isOf_iff (station : Nat) (o : Option PeerEntry) :
    o.any (fun e => e.station == station) = true ↔ IsOf station o := by
  cases o <;> simp [IsOf]

theorem freeIndex_lowest {entries : List (Option PeerEntry)} {i : Nat} (hfree : entries[i]? = some none)
    (hlowest : ∀ j < i, entries[j]? ≠ some none) : freeIndex entries = some i :=
  findIdx?_first hfree rfl fun j hji _ hy hnone => hlowest j hji (Option.isNone_iff_eq_none.mp hnone ▸ hy)

theorem freeIndex_full {entries : List (Option PeerEntry)} (h : none ∉ entries) : freeIndex entries = none :=
  List.findIdx?_eq_none_iff.mpr fun o ho => by
    cases o with
    | none => exact absurd ho h
    | some e => rfl

/-! ## Admission to a full table -/

theorem relevant_iff (s : State) (b : Beacon) : relevant s b = true ↔
    (b.valid = true ∧ s.pos.record.validity ≠ .none ∧ b.sec = s.pos.record.sec) ∨
    (b.valid = true ∧ ∃ x ∈ chain s, x.sec = b.sec) ∨
    (b.valid = true ∧ (sectionAt s.pos.sections b.sec).kind = .single ∧
      ∃ e ∈ s.clm.entries, e.sec = b.sec ∧ e.state ≠ .none) ∨
    (s.cvy.convoy ≠ 0 ∧ b.convoy = s.cvy.convoy) := by
  have honChain : (chainElement s b.sec).isSome = true ↔ ∃ x ∈ chain s, x.sec = b.sec := by
    rw [Option.isSome_iff_ne_none, ne_eq, chainElement_eq_none]
    simp
  simp [relevant, honChain, isSingle, claimsSection, and_assoc, or_assoc]

theorem maybeVictim_iff (s : State) (v : PeerEntry) : maybeVictim s v = true ↔
    v.pinned = false ∧ ∀ a, rigAhead s = some a → a.entry.station ≠ v.station := by
  cases h : rigAhead s <;> simp [maybeVictim, h]

theorem mem_indexedEntries {entries : List (Option PeerEntry)} {i : Nat} {e : PeerEntry} :
    (i, e) ∈ indexedEntries entries ↔ entries[i]? = some (some e) := by
  have hmem (x : Nat × Option PeerEntry) :
      x ∈ (List.range entries.length).zip entries ↔ entries[x.1]? = some x.2 := by
    simp only [List.mem_iff_getElem?, List.getElem?_zip_eq_some, List.getElem?_eq_some_iff (l := List.range _),
      List.getElem_range, List.length_range]
    refine ⟨fun ⟨k, ⟨_, hk⟩, hx⟩ => hk ▸ hx, fun hx => ⟨x.1, ⟨?_, rfl⟩, hx⟩⟩
    exact (List.getElem?_eq_some_iff.mp hx).1
  simp [indexedEntries, hmem]

/-- The entries in use stand in the order of their indices. -/
theorem indexedEntries_ascending (entries : List (Option PeerEntry)) :
    (indexedEntries entries).Pairwise (fun x y => x.1 < y.1) := by
  have hzip : ((List.range entries.length).zip entries).Pairwise (fun x y => x.1 < y.1) := by
    rw [← List.pairwise_map (f := Prod.fst) (R := (· < ·)), List.map_fst_zip (by simp)]
    exact List.pairwise_lt_range
  refine List.pairwise_filterMap.mpr (hzip.imp fun {x y} hxy u hu v hv => ?_)
  obtain ⟨_, _, rfl⟩ := Option.map_eq_some_iff.mp hu
  obtain ⟨_, _, rfl⟩ := Option.map_eq_some_iff.mp hv
  exact hxy

/-- In a list in ascending order an element that stands no later is no greater. -/
theorem le_of_idxOf_le {α : Type} [DecidableEq α] {f : α → Nat} {l : List α}
    (hasc : l.Pairwise (fun x y => f x < f y)) {x y : α} (hx : x ∈ l) (hy : y ∈ l)
    (h : l.idxOf x ≤ l.idxOf y) : f x ≤ f y := by
  rcases h.lt_or_eq with hbefore | hsame
  · have hless := List.pairwise_iff_getElem.mp hasc _ _ (List.idxOf_lt_length_of_mem hx)
      (List.idxOf_lt_length_of_mem hy) hbefore
    simpa only [List.getElem_idxOf] using hless.le
  · exact (List.idxOf_inj hx).mp hsame ▸ le_refl _

/-- The entries that can make room, each with its index. -/
def possibleVictims (s : State) : List (Nat × PeerEntry) :=
  (indexedEntries s.peer.entries).filter (fun x => maybeVictim s x.2)

theorem mem_possibleVictims {s : State} {i : Nat} {v : PeerEntry} : (i, v) ∈ possibleVictims s ↔
    s.peer.entries[i]? = some (some v) ∧ maybeVictim s v = true := by
  rw [possibleVictims, List.mem_filter, mem_indexedEntries]

/-- The victim is the first possible one of greatest age. -/
theorem victim_eq_argmax (s : State) :
    victim s = ((possibleVictims s).argmax (fun x => age s.time x.2.received)).map (·.1) := by
  have hstep : older s = List.argAux (fun b c => age s.time c.2.received < age s.time b.2.received) := by
    funext best x
    cases best <;> rfl
  rw [victim, hstep]
  rfl

theorem victim_none {s : State} (h : possibleVictims s = []) : victim s = none := by
  rw [victim_eq_argmax, h]
  rfl

/-- The victim is the oldest, of equally old ones that at the lowest index (R66). -/
theorem victim_oldest {s : State} {i : Nat} {v : PeerEntry} (hv : (i, v) ∈ possibleVictims s)
    (holdest : ∀ x ∈ possibleVictims s, age s.time x.2.received < age s.time v.received ∨
      (age s.time x.2.received = age s.time v.received ∧ i ≤ x.1)) : victim s = some i := by
  rw [victim_eq_argmax]
  cases hmax : (possibleVictims s).argmax (fun x => age s.time x.2.received) with
  | none => rw [List.argmax_eq_none.mp hmax] at hv; cases hv
  | some m =>
    have hm : m ∈ possibleVictims s := List.argmax_mem hmax
    have hge : age s.time v.received ≤ age s.time m.2.received :=
      List.le_of_mem_argmax (f := fun x : Nat × PeerEntry => age s.time x.2.received) hv hmax
    obtain hlt | ⟨heq, hle⟩ := holdest m hm
    · omega
    · have hfirst := List.index_of_argmax hmax hv heq.le
      have hasc : (possibleVictims s).Pairwise (fun x y => x.1 < y.1) :=
        (indexedEntries_ascending _).filter _
      exact congrArg some (Nat.le_antisymm (le_of_idxOf_le hasc hm hv hfirst) hle)

/-! ## The place of a newcomer -/

theorem placeFor_free {s : State} {i : Nat} (h : freeIndex s.peer.entries = some i) (b : Beacon) :
    placeFor s b = some i := by
  rw [placeFor, h]

section Full

variable {s : State} (hfull : none ∉ s.peer.entries)
include hfull

theorem placeFor_full (b : Beacon) : placeFor s b = if relevant s b then victim s else none := by
  rw [placeFor, freeIndex_full hfull]

theorem placeFor_irrelevant {b : Beacon} (h : ¬relevant s b = true) : placeFor s b = none := by
  rw [placeFor_full hfull, if_neg h]

/-- A relevant newcomer takes the place of the oldest entry that may go (R66). -/
theorem placeFor_victim {b : Beacon} (hrel : relevant s b = true) {i : Nat} {v : PeerEntry}
    (hv : s.peer.entries[i]? = some (some v)) (hgo : maybeVictim s v = true)
    (holdest : ∀ j w, s.peer.entries[j]? = some (some w) → maybeVictim s w = true →
      age s.time w.received < age s.time v.received ∨
        (age s.time w.received = age s.time v.received ∧ i ≤ j)) : placeFor s b = some i := by
  rw [placeFor_full hfull, if_pos hrel]
  refine victim_oldest (mem_possibleVictims.mpr ⟨hv, hgo⟩) fun ⟨j, w⟩ hw => ?_
  obtain ⟨hj, hmay⟩ := mem_possibleVictims.mp hw
  exact holdest j w hj hmay

theorem placeFor_noVictim (b : Beacon) (h : ∀ v, some v ∈ s.peer.entries → ¬maybeVictim s v = true) :
    placeFor s b = none := by
  have hnone : possibleVictims s = [] := List.eq_nil_iff_forall_not_mem.mpr fun ⟨j, w⟩ hw => by
    obtain ⟨hj, hmay⟩ := mem_possibleVictims.mp hw
    exact h w (List.mem_of_getElem? hj) hmay
  rw [placeFor_full hfull, victim_none hnone, ite_self]

end Full

/-! ## Taking a POSITION -/

theorem peerTake_known {station : Nat} {b : Beacon} {received : Time} {d : FilterAction} {s : State} {i : Nat}
    {old : PeerEntry} (hold : s.peer.entries[i]? = some (some old)) (hst : old.station = station)
    (hfirst : ∀ j < i, ∀ o, s.peer.entries[j]? = some o → ¬IsOf station o) :
    peerTake station b received d s =
      setPeerEntry i (PeerEntry.of station b (old.pinned || d == .pin) received) s := by
  have hfound : s.peer.entries.findIdx? (fun o => o.any (fun e => e.station == station)) = some i :=
    findIdx?_first hold ((isOf_iff _ _).mpr ⟨old, rfl, hst⟩)
      (fun j hji o ho => mt (isOf_iff station o).mp (hfirst j hji o ho))
  simp only [peerTake, hfound, List.getD_eq_getElem?_getD, hold, Option.getD_some, Option.map_some]
  rw [Bool.or_comm]

theorem findStation_newcomer {station : Nat} {entries : List (Option PeerEntry)}
    (hnew : ∀ o ∈ entries, ¬IsOf station o) :
    entries.findIdx? (fun o => o.any (fun e => e.station == station)) = none :=
  List.findIdx?_eq_none_iff.mpr fun o ho => by simpa using mt (isOf_iff station o).mp (hnew o ho)

theorem peerTake_placed {station : Nat} {s : State} (hnew : ∀ o ∈ s.peer.entries, ¬IsOf station o) {b : Beacon}
    {i : Nat} (hplace : placeFor s b = some i) (received : Time) (d : FilterAction) :
    peerTake station b received d s =
      postWatched d station (setPeerEntry i (PeerEntry.of station b (d == .pin) received) s) := by
  simp only [peerTake, findStation_newcomer hnew, hplace]

theorem peerTake_dropped {station : Nat} {s : State} (hnew : ∀ o ∈ s.peer.entries, ¬IsOf station o) {b : Beacon}
    (hplace : placeFor s b = none) (received : Time) (d : FilterAction) :
    peerTake station b received d s = raise .peerDropped s := by
  simp only [peerTake, findStation_newcomer hnew, hplace]

theorem exec_peerTakesPosition {s : State} (hup : s.held = false) {st num : Nat} {b : Beacon} {tm : Time}
    {d : FilterAction} {rest : List (Received × FilterAction)}
    (hqueue : s.air.peerQueue = (⟨⟨st, num, .position b⟩, tm⟩, d) :: rest) :
    exec .peerTakesPosition s = .next (peerTake st b tm d (s.setAir { s.air with peerQueue := rest })) := by
  refine (whileUp_up hup _).trans (congrArg _ ?_)
  rw [peerTakesOldest, hqueue]

/-- Settles O23: a known station by its first entry, a newcomer by the place it is given. -/
theorem peerTableTakesAPosition : Obligations.PeerTableTakesAPosition := by
  intro st num b tm d rest s hup hqueue table entry written watched isSt isRelevant mayGo result
  let popped := s.setAir { s.air with peerQueue := rest }
  have hresult : result = .next (peerTake st b tm d popped) := exec_peerTakesPosition hup hqueue
  have hrelevant : relevant popped b = true ↔ isRelevant := relevant_iff popped b
  have hmayGo (v : PeerEntry) : maybeVictim popped v = true ↔ mayGo v := maybeVictim_iff popped v
  rw [hresult]
  refine ⟨fun i old hold hst hfirst => ?known, fun i hnew hfree hlowest => ?free,
    fun hnew hfull => ⟨fun i v hrel hv hgo holdest => ?victim, fun hno => ?dropped⟩⟩
  case known => exact congrArg _ (peerTake_known (s := popped) hold hst hfirst)
  case free =>
    have hplace : placeFor popped b = some i := placeFor_free (freeIndex_lowest hfree hlowest) b
    exact congrArg _ (peerTake_placed (s := popped) hnew hplace tm d)
  case victim =>
    have hplace : placeFor popped b = some i :=
      placeFor_victim (s := popped) hfull (hrelevant.mpr hrel) hv ((hmayGo v).mpr hgo)
        fun j w hw hmay => holdest j w hw ((hmayGo w).mp hmay)
    exact congrArg _ (peerTake_placed (s := popped) hnew hplace tm d)
  case dropped =>
    have hplace : placeFor popped b = none := by
      rcases hno with hirrelevant | hnone
      · exact placeFor_irrelevant (s := popped) hfull (mt hrelevant.mp hirrelevant)
      · exact placeFor_noVictim (s := popped) hfull b fun v hv => mt (hmayGo v).mp (hnone v hv)
    exact congrArg _ (peerTake_dropped (s := popped) hnew hplace tm d)

end Sys2Proof.Proofs
end

section
/-! PROOFS. The three sweep timers: what has lapsed leaves the peer table, the roster and the claim table
(R68, R87, R92, R106). The review that ends the claim sweep rewrites entries, but none of their records. -/

namespace Sys2Proof.Proofs

open Sys2Proof.Machine Sys2Proof.Laws

/-! ## PEER and CVY -/

theorem exec_peerSweep {s : State} (hup : s.held = false) (hruns : s.peer.sweep.isSome) :
    exec .peerSweep s = .next (sweepPeers s) :=
  (whileUp_up hup _).trans (congrArg _ (if_pos hruns))

theorem exec_cvySweep {s : State} (hup : s.held = false) (hruns : s.cvy.sweep.isSome) :
    exec .cvySweep s = .next (sweepMembers s) :=
  (whileUp_up hup _).trans (congrArg _ (if_pos hruns))

/-- The roster without its lapsed members, before the leader test (R92). -/
def membersSwept (s : State) : State :=
  s.setCvy { s.cvy with members := s.cvy.members.filter (memberFresh s), sweep := some 100 }

/-- A fresh follower is a member that the sweep has left and that names the node as pred (R87). -/
theorem freshFollower_iff (s : State) :
    (membersSwept s).cvy.members.any (fun m => memberFresh s m && m.pred == ownStation s) = true ↔
      ∃ m ∈ s.cvy.members.filter (memberFresh s), m.pred = ownStation s := by
  simp only [membersSwept, State.setCvy_cvy, List.any_eq_true, Bool.and_eq_true, beq_iff_eq]
  exact ⟨fun ⟨m, hm, _, hpred⟩ => ⟨m, hm, hpred⟩,
    fun ⟨m, hm, hpred⟩ => ⟨m, hm, (List.mem_filter.mp hm).2, hpred⟩⟩

theorem sweepMembers_stays {s : State}
    (h : s.cvy.role ≠ .leader ∨ ∃ m ∈ s.cvy.members.filter (memberFresh s), m.pred = ownStation s) :
    sweepMembers s = membersSwept s := by
  refine if_neg fun ⟨hleader, hnone⟩ => ?_
  rcases h with hrole | hfollower
  · exact hrole hleader
  · exact hnone ((freshFollower_iff s).mpr hfollower)

theorem sweepMembers_leaves {s : State} (hleader : s.cvy.role = .leader)
    (h : ∀ m ∈ s.cvy.members.filter (memberFresh s), m.pred ≠ ownStation s) :
    sweepMembers s = leave .noFollower (membersSwept s) := by
  refine if_pos ⟨hleader, fun hsome => ?_⟩
  obtain ⟨m, hm, hpred⟩ := (freshFollower_iff s).mp hsome
  exact h m hm hpred

/-! ## The claim table under a review -/

/-- What an entry has recorded of other stations: holders, claimants and the last-hold-heard times (R99). -/
def recorded (e : ClaimEntry) : List Holder × List Claimant × Option Time × Option Time :=
  (e.holders, e.claimants, e.heardAB, e.heardBA)

/-- The table of t holds the sections and the records that the table of s holds, and the sweep timer stands
as it stood. -/
structure KeepsRecords (s t : State) : Prop where
  sweep : t.clm.sweep = s.clm.sweep
  sections : t.clm.entries.map (·.sec) = s.clm.entries.map (·.sec)
  records : ∀ y, (claimEntry t y).map recorded = (claimEntry s y).map recorded

theorem KeepsRecords.refl (s : State) : KeepsRecords s s := ⟨rfl, rfl, fun _ => rfl⟩

theorem KeepsRecords.trans {s t u : State} (hst : KeepsRecords s t) (htu : KeepsRecords t u) : KeepsRecords s u :=
  ⟨htu.sweep.trans hst.sweep, htu.sections.trans hst.sections, fun y => (htu.records y).trans (hst.records y)⟩

theorem claimEntry_congr {s t : State} (h : t.clm.entries = s.clm.entries) (y : Nat) :
    claimEntry t y = claimEntry s y := by
  rw [claimEntry, claimEntry, h]

theorem keepsRecords_of_entries {s t : State} (hentries : t.clm.entries = s.clm.entries)
    (hsweep : t.clm.sweep = s.clm.sweep) : KeepsRecords s t :=
  ⟨hsweep, by rw [hentries], fun y => by rw [claimEntry_congr hentries]⟩

theorem claimEntry_sec {s : State} {y : Nat} {e : ClaimEntry} (h : claimEntry s y = some e) : e.sec = y := by
  simpa using List.find?_some h

theorem replaced_sec (e f : ClaimEntry) : (if e.sec = f.sec then f else e).sec = e.sec := by
  split
  · next h => exact h.symm
  · rfl

/-- Reading an entry after one of some section has been replaced. -/
theorem claimEntry_setClaimEntry (f : ClaimEntry) (s : State) (y : Nat) : claimEntry (setClaimEntry f s) y =
    (claimEntry s y).map (fun e => if e.sec = f.sec then f else e) := by
  simp only [claimEntry, setClaimEntry, State.setClm_clm, List.find?_map, Function.comp_def, replaced_sec]

/-- Replacing an entry by one with the same records. -/
theorem setClaimEntry_keepsRecords {s : State} {e f : ClaimEntry} (he : claimEntry s f.sec = some e)
    (hrec : recorded f = recorded e) : KeepsRecords s (setClaimEntry f s) where
  sweep := rfl
  sections := by
    simp only [setClaimEntry, State.setClm_clm, List.map_map, Function.comp_def, replaced_sec]
  records y := by
    rw [claimEntry_setClaimEntry]
    cases hy : claimEntry s y with
    | none => rfl
    | some g =>
      simp only [Option.map_some]
      split
      · next hsec =>
        have hsame : some g = some e := by rw [← hy, ← he, ← hsec, claimEntry_sec hy]
        rw [hrec, Option.some.inj hsame]
      · rfl

/-- An operation on the standing entry of a section keeps the records. -/
def EntryKeepsRecords (f : ClaimEntry → State → State) : Prop :=
  ∀ {e : ClaimEntry} {s : State}, claimEntry s e.sec = some e → KeepsRecords s (f e s)

theorem onEntry_keepsRecords {f : ClaimEntry → State → State} (hf : EntryKeepsRecords f) (sec : Nat) (s : State) :
    KeepsRecords s (onEntry sec f s) := by
  unfold onEntry
  split
  · next e he => exact hf (claimEntry_sec he ▸ he)
  · exact .refl s

theorem foldl_keepsRecords {α : Type} {f : State → α → State} (hf : ∀ s a, KeepsRecords s (f s a)) (l : List α)
    (s : State) : KeepsRecords s (l.foldl f s) :=
  List.foldlRecOn l f (.refl s) fun t ht a _ => ht.trans (hf t a)

/-- Acting with one of several holders is acting with a station, or not at all, once a free value may have
been drawn. -/
theorem withHolder_cases (hs : List Holder) (f : Nat → State → State) (s : State) :
    ∃ u, u.clm = s.clm ∧ (withHolder hs f s = u ∨ ∃ station, withHolder hs f s = f station u) := by
  refine ⟨(pickHolder hs s).2, blank_clm (F := { draws := true }) (pickHolder_frame rfl hs s) rfl, ?_⟩
  unfold withHolder
  split
  · next h s' hpick => exact .inr ⟨h.station, by rw [hpick]⟩
  · next s' hpick => exact .inl (by rw [hpick])

theorem withHolder_keepsRecords {f : Nat → State → State} {e : ClaimEntry} {s : State}
    (he : claimEntry s e.sec = some e)
    (hf : ∀ station u, claimEntry u e.sec = some e → KeepsRecords u (f station u)) (hs : List Holder) :
    KeepsRecords s (withHolder hs f s) := by
  obtain ⟨u, hclm, hact⟩ := withHolder_cases hs f s
  have hentries : u.clm.entries = s.clm.entries := congrArg Clm.entries hclm
  have hu : KeepsRecords s u := keepsRecords_of_entries hentries (congrArg Clm.sweep hclm)
  rcases hact with hact | ⟨station, hact⟩
  · exact hact ▸ hu
  · exact hact ▸ hu.trans (hf station u ((claimEntry_congr hentries _).trans he))

/-! ## The parts of a review -/

theorem startClaim_keepsRecords : EntryKeepsRecords startClaim := fun {e s} he =>
  (setClaimEntry_keepsRecords (f := { e with
      state := .claiming, size := convoySize s, window := some (newWindow s), repostUsed := false }) he rfl).trans
    (keepsRecords_of_entries rfl rfl)

theorem goStandoff_keepsRecords (c : StandoffCause) (station : Nat) (role : StandoffRole) :
    EntryKeepsRecords (fun e => goStandoff e c station role) := fun {e s} he => by
  refine (setClaimEntry_keepsRecords
    (f := { e with state := .standoff, cause := some c, window := none }) he rfl).trans ?_
  unfold goStandoff
  dsimp only
  split <;> exact keepsRecords_of_entries rfl rfl

theorem reviewRiding_keepsRecords : EntryKeepsRecords reviewRiding := fun {e s} he => by
  unfold reviewRiding
  split
  · exact startClaim_keepsRecords he
  · exact .refl s

theorem reviewHeld_keepsRecords : EntryKeepsRecords reviewHeld := fun {e s} he => by
  unfold reviewHeld
  split
  · refine withHolder_keepsRecords he (fun station u hu => ?_) _
    exact (setClaimEntry_keepsRecords (f := e.toWaiting) hu rfl).trans (keepsRecords_of_entries rfl rfl)
  · exact .refl s

theorem reviewInside_keepsRecords : EntryKeepsRecords reviewInside := fun {e s} he => by
  unfold reviewInside
  dsimp only
  split
  · split
    · refine withHolder_keepsRecords he (fun station u hu => ?_) _
      split
      · exact .refl u
      · exact (setClaimEntry_keepsRecords (f := { e with noted := some station }) hu rfl).trans
          (keepsRecords_of_entries rfl rfl)
    · exact withHolder_keepsRecords he (fun station u hu => goStandoff_keepsRecords .standoff station .loser hu) _
  · exact .refl s

theorem reviewNoted_keepsRecords : EntryKeepsRecords reviewNoted := fun {e s} he => by
  unfold reviewNoted
  split
  · exact setClaimEntry_keepsRecords (f := { e with noted := none }) he rfl
  · exact .refl s

theorem reviewWaiting_keepsRecords : EntryKeepsRecords reviewWaiting := fun {e s} he => by
  unfold reviewWaiting
  split
  · split
    · exact setClaimEntry_keepsRecords (f := { e with state := .riding }) he rfl
    · split
      · exact startClaim_keepsRecords he
      · exact .refl s
  · exact .refl s

theorem review_keepsRecords (sec : Nat) (s : State) : KeepsRecords s (review sec s) := by
  unfold review
  split
  · exact ((((onEntry_keepsRecords reviewRiding_keepsRecords sec s).trans
      (onEntry_keepsRecords reviewHeld_keepsRecords sec _)).trans
      (onEntry_keepsRecords reviewInside_keepsRecords sec _)).trans
      (onEntry_keepsRecords reviewNoted_keepsRecords sec _)).trans
      (onEntry_keepsRecords reviewWaiting_keepsRecords sec _)
  · exact .refl s

theorem reviewAll_keepsRecords (s : State) : KeepsRecords s (reviewAll s) :=
  foldl_keepsRecords (fun s sec => review_keepsRecords sec s) (claimSections s) s

/-! ## CLM -/

theorem exec_clmSweep {s : State} (hup : s.held = false) (hruns : s.clm.sweep.isSome) :
    exec .clmSweep s = .next (sweepClaims s) :=
  (whileUp_up hup _).trans (congrArg _ (if_pos hruns))

/-- The claim table without what has lapsed, before its review (R106). -/
def claimsSwept (s : State) : State :=
  s.setClm { s.clm with entries := s.clm.entries.map (sweepEntry s), sweep := some 100 }

theorem claimEntry_claimsSwept (s : State) (y : Nat) :
    claimEntry (claimsSwept s) y = (claimEntry s y).map (sweepEntry s) := by
  simp only [claimEntry, claimsSwept, State.setClm_clm, List.find?_map]
  rfl

/-- States that agree outside the claim table, the mail and the draws differ in these three alone. -/
theorem eq_of_blank_footClm {s t : State} (h : blank footClm t = blank footClm s) :
    t = { s with clm := t.clm, mail := t.mail, draws := t.draws } :=
  calc t = { blank footClm t with clm := t.clm, mail := t.mail, draws := t.draws } := rfl
    _ = { blank footClm s with clm := t.clm, mail := t.mail, draws := t.draws } := by rw [h]
    _ = { s with clm := t.clm, mail := t.mail, draws := t.draws } := rfl

/-- Settles O25: each sweep filters its own records, and a review keeps the records of the claim table. -/
theorem sweepsRemoveWhatHasLapsed : Obligations.SweepsRemoveWhatHasLapsed := by
  constructor
  · intro s hup lapse fresh members swept
    refine ⟨fun hruns => exec_peerSweep hup hruns, fun hruns => ⟨fun hstays => ?_, fun hleader hnone => ?_⟩⟩
    · exact (exec_cvySweep hup hruns).trans (congrArg _ (sweepMembers_stays hstays))
    · exact (exec_cvySweep hup hruns).trans (congrArg _ (sweepMembers_leaves hleader hnone))
  · intro s hup hruns _ fresh
    have hkeeps : KeepsRecords (claimsSwept s) (sweepClaims s) := reviewAll_keepsRecords _
    refine ⟨sweepClaims s, exec_clmSweep hup hruns, hkeeps.sweep, eq_of_blank_footClm (sweepClaims_frame rfl s),
      hkeeps.sections.trans List.map_map, fun y e he => ?_⟩
    have hrec := hkeeps.records y
    rw [claimEntry_claimsSwept, he] at hrec
    obtain ⟨f, hf, hfe⟩ := Option.map_eq_some_iff.mp hrec
    simp only [recorded, Prod.mk.injEq] at hfe
    obtain ⟨hholders, hclaimants, hheardAB, hheardBA⟩ := hfe
    exact ⟨f, hf, hholders, hclaimants, hheardAB, hheardBA⟩

end Sys2Proof.Proofs
end

section
/-! PROOFS. Every operation of CLM keeps the claim table: its order, at most two entries in use, the lists
of each entry, the tails (R99, R110, R123). An entry is only ever replaced by one of its own section, and
becomes other than NONE only where at most one entry of another section is in use. -/

namespace Sys2Proof.Proofs

open Sys2Proof.Machine Sys2Proof.Laws Sys2Proof.Safety

/-! ## Replacing an entry -/

/-- What ClaimInv asks of a single entry. -/
structure EntryFits (e : ClaimEntry) : Prop where
  lists : ClaimListsInv e
  tail : e.tail ≤ e.tailLimit

theorem entryFits_of_mem {s : State} (h : ClaimInv s.clm) {e : ClaimEntry} (he : e ∈ s.clm.entries) :
    EntryFits e :=
  ⟨h.lists e he, h.tails e he⟩

theorem mem_of_claimEntry {s : State} {y : Nat} {e : ClaimEntry} (h : claimEntry s y = some e) :
    e ∈ s.clm.entries :=
  List.mem_of_find?_eq_some h

/-- A section has at most one entry. -/
theorem count_sec_le_one {s : State} (h : ClaimInv s.clm) (y : Nat) :
    s.clm.entries.countP (fun e => e.sec == y) ≤ 1 := by
  have hnodup : (s.clm.entries.map (·.sec)).Nodup := h.ascending.imp Nat.ne_of_lt
  simpa [List.count, List.countP_map, Function.comp_def] using List.nodup_iff_count_le_one.mp hnodup y

/-- Beside an entry in use at most one other is. -/
theorem othersActive_lt_of_active {s : State} (h : ClaimInv s.clm) {e : ClaimEntry} (he : e ∈ s.clm.entries)
    (hstate : e.state ≠ .none) : (othersActive s e.sec).length < 2 := by
  have hothers : othersActive s e.sec =
      (s.clm.entries.filter (fun f => f.state != .none)).filter (fun f => f.sec != e.sec) :=
    List.filter_filter.symm
  have hfewer : (othersActive s e.sec).length < (s.clm.entries.filter (fun f => f.state != .none)).length := by
    rw [hothers, List.length_filter_lt_length_iff_exists]
    exact ⟨e, by simp [he, hstate], by simp⟩
  exact hfewer.trans_le h.active

/-- The entries in use after one is replaced: those of other sections, and the new one if it is in use. -/
theorem length_active_setClaimEntry (f : ClaimEntry) (s : State) :
    ((setClaimEntry f s).clm.entries.filter (fun e => e.state != .none)).length =
      (othersActive s f.sec).length +
        if f.state = .none then 0 else s.clm.entries.countP (fun e => e.sec == f.sec) := by
  simp only [setClaimEntry, State.setClm_clm, othersActive]
  induction s.clm.entries with
  | nil => simp
  | cons x xs ih =>
    by_cases hx : x.sec = f.sec
    · by_cases hstate : f.state = .none <;> simp_all
      omega
    · by_cases hstate : x.state = .none <;> simp_all
      omega

theorem mem_setClaimEntry {f e : ClaimEntry} {s : State} (h : e ∈ (setClaimEntry f s).clm.entries) :
    e = f ∨ e ∈ s.clm.entries := by
  obtain ⟨x, hx, rfl⟩ := List.mem_map.mp h
  split
  · exact .inl rfl
  · exact .inr hx

/-- Replacing one entry keeps the table when the new entry fits, and goes in use only where at most one
other is. -/
theorem setClaimEntry_claimInv {s : State} (h : ClaimInv s.clm) {f : ClaimEntry} (hf : EntryFits f)
    (hroom : f.state ≠ .none → (othersActive s f.sec).length < 2) : ClaimInv (setClaimEntry f s).clm := by
  have hfits {e : ClaimEntry} (he : e ∈ (setClaimEntry f s).clm.entries) : EntryFits e :=
    (mem_setClaimEntry he).elim (fun heq => heq ▸ hf) (entryFits_of_mem h)
  refine ⟨?_, ?_, fun e he => (hfits he).lists, fun e he => (hfits he).tail, h.posts⟩
  · simp only [setClaimEntry, State.setClm_clm, List.map_map, Function.comp_def, replaced_sec]
    exact h.ascending
  · rw [length_active_setClaimEntry]
    split
    · have hless : (othersActive s f.sec).length ≤
          (s.clm.entries.filter (fun e => e.state != .none)).length :=
        (List.monotone_filter_right _ (by simp)).length_le
      exact hless.trans h.active
    · next hstate =>
      have hothers := hroom hstate
      have hown := count_sec_le_one h f.sec
      omega

/-- Another form of an entry: the section and the records of other stations are the same. -/
def SameRecords (e f : ClaimEntry) : Prop :=
  f.sec = e.sec ∧ f.holders = e.holders ∧ f.claimants = e.claimants

theorem entryFits_of_sameRecords {e f : ClaimEntry} (h : EntryFits e) (hsame : SameRecords e f)
    (htail : f.tail ≤ f.tailLimit) : EntryFits f := by
  obtain ⟨-, hholders, hclaimants⟩ := hsame
  obtain ⟨hlists, -⟩ := h
  exact ⟨⟨hholders ▸ hlists.holders, hclaimants ▸ hlists.claimants, hholders ▸ hclaimants ▸ hlists.once⟩, htail⟩

/-- Replacing an entry of the table by one that fits and is in use only if it was. -/
theorem setClaimEntry_claimInv_of_mem {s : State} (h : ClaimInv s.clm) {e f : ClaimEntry}
    (he : e ∈ s.clm.entries) (hsec : f.sec = e.sec) (hf : EntryFits f)
    (hstate : f.state ≠ .none → e.state ≠ .none) : ClaimInv (setClaimEntry f s).clm :=
  setClaimEntry_claimInv h hf fun hne => hsec ▸ othersActive_lt_of_active h he (hstate hne)

/-- Changing the own state and tail of an entry of the table. -/
theorem changeEntry_claimInv {s : State} (h : ClaimInv s.clm) {e f : ClaimEntry} (he : e ∈ s.clm.entries)
    (hsame : SameRecords e f) (htail : f.tail ≤ f.tailLimit) (hstate : f.state ≠ .none → e.state ≠ .none) :
    ClaimInv (setClaimEntry f s).clm :=
  setClaimEntry_claimInv_of_mem h he hsame.1 (entryFits_of_sameRecords (entryFits_of_mem h he) hsame htail) hstate

/-! ## Operations on the state -/

/-- An operation keeps the claim table. -/
def KeepsClaims (f : State → State) : Prop := ∀ s : State, ClaimInv s.clm → ClaimInv (f s).clm

/-- An operation on an entry of the table keeps the table. -/
def EntryKeepsClaims (f : ClaimEntry → State → State) : Prop :=
  ∀ {e : ClaimEntry} {s : State}, ClaimInv s.clm → e ∈ s.clm.entries → ClaimInv (f e s).clm

/-- What leaves CLM out of its footprint keeps the claim table. -/
theorem claimInv_of_frame {F : Foot} {s t : State} (hframe : blank F t = blank F s) (hF : F.clm = false)
    (h : ClaimInv s.clm) : ClaimInv t.clm := by
  rwa [blank_clm hframe hF]

theorem foldl_keepsClaims {α : Type} {f : State → α → State} (hf : ∀ a, KeepsClaims (fun s => f s a))
    (l : List α) : KeepsClaims (fun s => l.foldl f s) := fun _ h =>
  List.foldlRecOn (motive := fun t => ClaimInv t.clm) l f h fun t ht a _ => hf a t ht

theorem onEntry_claimInv {f : ClaimEntry → State → State} {s : State} (h : ClaimInv s.clm) {sec : Nat}
    (hf : ∀ e ∈ s.clm.entries, e.sec = sec → ClaimInv (f e s).clm) : ClaimInv (onEntry sec f s).clm := by
  unfold onEntry
  split
  · next e he => exact hf e (mem_of_claimEntry he) (claimEntry_sec he)
  · exact h

theorem onEntry_keepsClaims {f : ClaimEntry → State → State} (hf : EntryKeepsClaims f) (sec : Nat) :
    KeepsClaims (onEntry sec f) := fun _ h => onEntry_claimInv h fun _ he _ => hf h he

theorem onEveryEntry_keepsClaims {f : ClaimEntry → State → State} (hf : EntryKeepsClaims f) :
    KeepsClaims (onEveryEntry f) := fun s h =>
  foldl_keepsClaims (fun sec => onEntry_keepsClaims hf sec) (claimSections s) s h

theorem withHolder_keepsClaims {f : Nat → State → State} {s : State} (h : ClaimInv s.clm)
    (hf : ∀ station u, u.clm = s.clm → ClaimInv (f station u).clm) (hs : List Holder) :
    ClaimInv (withHolder hs f s).clm := by
  obtain ⟨u, hclm, hact | ⟨station, hact⟩⟩ := withHolder_cases hs f s
  · rwa [hact, hclm]
  · exact hact ▸ hf station u hclm

@[simp] theorem postRelease_clm (sec : Nat) (s : State) : (postRelease sec s).clm = s.clm := rfl

@[simp] theorem dropCause_clm (e : ClaimEntry) (s : State) : (dropCause e s).clm = s.clm := by
  unfold dropCause
  split
  · rfl
  · split <;> rfl

theorem goStandoff_clm (e : ClaimEntry) (c : StandoffCause) (station : Nat) (role : StandoffRole) (s : State) :
    (goStandoff e c station role s).clm =
      (setClaimEntry { e with state := .standoff, cause := some c, window := none } s).clm := by
  unfold goStandoff
  dsimp only
  split <;> rfl

theorem endByTail_clm (e : ClaimEntry) (s : State) : (endByTail e s).clm =
    (setClaimEntry { e with state := .none, waited := false, tail := 0, cause := none } s).clm := by
  unfold endByTail
  dsimp only
  split <;> simp

/-! ## Posting claims (R99, R110) -/

theorem length_joinPosts_le (p : ClaimPost) (posts : List ClaimPost) : (joinPosts p posts).length ≤ 2 := by
  unfold joinPosts
  split <;> simp
  · omega
  · omega

theorem postClaim_keepsClaims (e : ClaimEntry) : KeepsClaims (postClaim e) := fun _ h =>
  { h with posts := length_joinPosts_le _ _ }

/-- An entry that fits may claim where at most one other is in use. -/
theorem startClaim_claimInv {s : State} (h : ClaimInv s.clm) {e : ClaimEntry} (he : EntryFits e)
    (hroom : (othersActive s e.sec).length < 2) : ClaimInv (startClaim e s).clm :=
  postClaim_keepsClaims _ _
    (setClaimEntry_claimInv h (entryFits_of_sameRecords he ⟨rfl, rfl, rfl⟩ he.tail) fun _ => hroom)

theorem startClaim_claimInv_of_active {s : State} (h : ClaimInv s.clm) {e : ClaimEntry}
    (he : e ∈ s.clm.entries) (hstate : e.state ≠ .none) : ClaimInv (startClaim e s).clm :=
  startClaim_claimInv h (entryFits_of_mem h he) (othersActive_lt_of_active h he hstate)

/-- An entry that fits may go to STANDOFF where at most one other is in use. -/
theorem goStandoff_claimInv {s : State} (h : ClaimInv s.clm) {e : ClaimEntry} (he : EntryFits e)
    (hroom : (othersActive s e.sec).length < 2) (c : StandoffCause) (station : Nat) (role : StandoffRole) :
    ClaimInv (goStandoff e c station role s).clm := by
  rw [goStandoff_clm]
  exact setClaimEntry_claimInv h (entryFits_of_sameRecords he ⟨rfl, rfl, rfl⟩ he.tail) fun _ => hroom

/-! ## Reviews (R109) -/

theorem reviewRiding_keepsClaims : EntryKeepsClaims reviewRiding := fun h he => by
  unfold reviewRiding
  split
  · next hcond => exact startClaim_claimInv_of_active h he (by simp [hcond.1])
  · exact h

theorem reviewHeld_keepsClaims : EntryKeepsClaims reviewHeld := fun {e s} h he => by
  unfold reviewHeld
  split
  · next hcond =>
    refine withHolder_keepsClaims h (fun station u hu => ?_) _
    rw [← hu] at h he
    exact changeEntry_claimInv h he ⟨rfl, rfl, rfl⟩ (h.tails e he) (by simp [hcond.1])
  · exact h

theorem reviewInside_keepsClaims : EntryKeepsClaims reviewInside := fun {e s} h he => by
  unfold reviewInside
  split
  · next hcond =>
    dsimp only
    split
    · refine withHolder_keepsClaims h (fun station u hu => ?_) _
      rw [← hu] at h he
      split
      · exact h
      · exact changeEntry_claimInv (f := { e with noted := some station }) h he ⟨rfl, rfl, rfl⟩ (h.tails e he) id
    · refine withHolder_keepsClaims h (fun station u hu => ?_) _
      rw [← hu] at h he
      have hroom := othersActive_lt_of_active h he (by simp [hcond.1])
      exact goStandoff_claimInv h (entryFits_of_mem h he) hroom _ _ _
  · exact h

theorem reviewNoted_keepsClaims : EntryKeepsClaims reviewNoted := fun {e s} h he => by
  unfold reviewNoted
  split
  · exact changeEntry_claimInv (f := { e with noted := none }) h he ⟨rfl, rfl, rfl⟩ (h.tails e he) id
  · exact h

theorem reviewWaiting_keepsClaims : EntryKeepsClaims reviewWaiting := fun {e s} h he => by
  unfold reviewWaiting
  split
  · next hstate =>
    split
    · exact changeEntry_claimInv (f := { e with state := .riding }) h he ⟨rfl, rfl, rfl⟩ (h.tails e he)
        (by simp [hstate])
    · split
      · exact startClaim_claimInv_of_active h he (by simp [hstate])
      · exact h
  · exact h

theorem review_keepsClaims (sec : Nat) : KeepsClaims (review sec) := fun s h => by
  unfold review
  split
  · exact onEntry_keepsClaims reviewWaiting_keepsClaims sec _ <|
      onEntry_keepsClaims reviewNoted_keepsClaims sec _ <|
      onEntry_keepsClaims reviewInside_keepsClaims sec _ <|
      onEntry_keepsClaims reviewHeld_keepsClaims sec _ <|
      onEntry_keepsClaims reviewRiding_keepsClaims sec s h
  · exact h

theorem reviewAll_keepsClaims : KeepsClaims reviewAll := fun s h =>
  foldl_keepsClaims (fun sec => review_keepsClaims sec) (claimSections s) s h

/-! ## Own travel (R116, R122 to R125) -/

theorem leaveApproach_claimInv {s : State} (h : ClaimInv s.clm) {e : ClaimEntry} (he : EntryFits e) :
    ClaimInv (leaveApproach e s).clm := by
  have hnone {f : ClaimEntry} (hsame : SameRecords e f) (htail : f.tail ≤ f.tailLimit) (hf : f.state = .none) :
      ClaimInv (setClaimEntry f s).clm :=
    setClaimEntry_claimInv h (entryFits_of_sameRecords he hsame htail) fun hne => absurd hf hne
  unfold leaveApproach
  split
  · have hkept := hnone (f := { e with state := .none, window := none }) ⟨rfl, rfl, rfl⟩ he.tail rfl
    exact { hkept with posts := (List.length_map _).trans_le hkept.posts }
  · exact hnone ⟨rfl, rfl, rfl⟩ he.tail rfl
  · exact hnone ⟨rfl, rfl, rfl⟩ he.tail rfl
  · exact hnone ⟨rfl, rfl, rfl⟩ he.tail rfl
  · exact h
  · exact h

theorem checkLeaving_keepsClaims : EntryKeepsClaims checkLeaving := fun h he => by
  unfold checkLeaving
  extract_lets subject
  split
  · exact leaveApproach_claimInv h (entryFits_of_mem h he)
  · exact h

theorem exitEntry_keepsClaims : EntryKeepsClaims exitEntry := fun {e s} h he => by
  have htail := h.tails e he
  unfold exitEntry
  split
  · exact changeEntry_claimInv h he ⟨rfl, rfl, rfl⟩ le_rfl id
  · exact changeEntry_claimInv h he ⟨rfl, rfl, rfl⟩ htail (absurd rfl)
  · exact changeEntry_claimInv h he ⟨rfl, rfl, rfl⟩ le_rfl id
  · next hstate _ =>
    rw [dropCause_clm]
    exact changeEntry_claimInv h he ⟨rfl, rfl, rfl⟩ htail (by simp [hstate])
  · exact h

theorem endByTail_claimInv {s : State} (h : ClaimInv s.clm) {e : ClaimEntry} (he : e ∈ s.clm.entries) :
    ClaimInv (endByTail e s).clm := by
  rw [endByTail_clm]
  exact changeEntry_claimInv h he ⟨rfl, rfl, rfl⟩ (Nat.zero_le _) (absurd rfl)

theorem moveTail_keepsClaims (mm : Nat) : EntryKeepsClaims (moveTail mm) := fun {e s} h he => by
  have htail := h.tails e he
  unfold moveTail
  split
  · exact h
  · split
    · split
      · exact endByTail_claimInv h he
      · exact changeEntry_claimInv h he ⟨rfl, rfl, rfl⟩ ((Nat.sub_le _ _).trans htail) id
    · exact changeEntry_claimInv h he ⟨rfl, rfl, rfl⟩ (min_le_left _ _) id

theorem tailCountdown_keepsClaims (move : Option Nat) : KeepsClaims (tailCountdown move) := fun s h => by
  unfold tailCountdown
  split
  · exact onEveryEntry_keepsClaims (moveTail_keepsClaims _) s h
  · exact h

theorem shorterTail_cases (l : List ClaimEntry) : l = [] ∨ ∃ e ∈ l, shorterTail l = some e := by
  induction l with
  | nil => exact .inl rfl
  | cons x xs ih =>
    refine .inr ?_
    rcases ih with rfl | ⟨f, hf, htail⟩
    · exact ⟨x, by simp, rfl⟩
    · rw [shorterTail, htail]
      dsimp only
      split
      · exact ⟨f, by simp [hf], rfl⟩
      · exact ⟨x, by simp, rfl⟩

/-- The entries of other sections in use after one has ended: the same without it. -/
theorem othersActive_endByTail (e : ClaimEntry) (s : State) (sec : Nat) :
    othersActive (endByTail e s) sec = (othersActive s sec).filter (fun f => f.sec != e.sec) := by
  simp only [othersActive, endByTail_clm, setClaimEntry, State.setClm_clm]
  induction s.clm.entries with
  | nil => rfl
  | cons x xs ih =>
    by_cases hx : x.sec = e.sec
    · by_cases hother : e.sec = sec <;> by_cases hstate : x.state = .none <;> simp_all
    · by_cases hother : x.sec = sec <;> by_cases hstate : x.state = .none <;> simp_all

/-- Room for a section: at most one entry of another section is in use (R116). -/
theorem makeRoom_claimInv (sec : Nat) {s : State} (h : ClaimInv s.clm) :
    ClaimInv (makeRoom sec s).clm ∧ (othersActive (makeRoom sec s) sec).length < 2 := by
  unfold makeRoom
  split
  · next hroom => exact ⟨h, hroom⟩
  · extract_lets s'
    have hs' : ClaimInv s'.clm := by
      refine List.foldlRecOn (motive := fun t : State => ClaimInv t.clm) _ _ h fun t ht e he => ?_
      split
      · exact ht
      · exact leaveApproach_claimInv ht (entryFits_of_mem h (List.mem_filter.mp he).1)
    split
    · next hroom => exact ⟨hs', hroom⟩
    · next hfull =>
      rcases shorterTail_cases (othersActive s' sec) with hnil | ⟨e, he, hshorter⟩
      · simp [hnil] at hfull
      · rw [hshorter]
        refine ⟨endByTail_claimInv hs' (List.mem_filter.mp he).1, ?_⟩
        rw [othersActive_endByTail]
        have hfewer : ((othersActive s' sec).filter (fun f => f.sec != e.sec)).length <
            (othersActive s' sec).length :=
          List.length_filter_lt_length_iff_exists.mpr ⟨e, he, by simp⟩
        have hatMost : (othersActive s' sec).length ≤ 2 :=
          (List.monotone_filter_right _ (by simp)).length_le.trans hs'.active
        omega

/-- Entering a section by the table of R116 where at most one other entry is in use. -/
theorem enterTable_claimInv {s : State} (h : ClaimInv s.clm) {e : ClaimEntry} (he : EntryFits e)
    (hroom : (othersActive s e.sec).length < 2) (d : Dir) : ClaimInv (enterTable e d s).clm := by
  have hset {f : ClaimEntry} (hsame : SameRecords e f) (htail : f.tail ≤ f.tailLimit) :
      ClaimInv (setClaimEntry f s).clm :=
    setClaimEntry_claimInv h (entryFits_of_sameRecords he hsame htail) fun _ => hsame.1 ▸ hroom
  have hintrude : ClaimInv (intrude e d s).clm :=
    goStandoff_claimInv (e := { e with dir := d }) h (entryFits_of_sameRecords he ⟨rfl, rfl, rfl⟩ he.tail)
      hroom _ _ _
  unfold enterTable
  split
  · split
    · exact hset ⟨rfl, rfl, rfl⟩ he.tail
    · exact hintrude
  · split
    · exact hset ⟨rfl, rfl, rfl⟩ he.tail
    · exact hintrude
  · split
    · split
      · exact hset ⟨rfl, rfl, rfl⟩ he.tail
      · exact hintrude
    · exact hintrude
  · exact hintrude
  · exact hintrude
  · exact hset ⟨rfl, rfl, rfl⟩ he.tail

theorem enterEntry_keepsClaims (sec : Nat) : KeepsClaims (enterEntry sec) := fun s h => by
  unfold enterEntry
  split
  · exact h
  · obtain ⟨hmade, hroom⟩ := makeRoom_claimInv sec h
    refine onEntry_claimInv hmade fun e he hsec => ?_
    exact enterTable_claimInv (e := { e with tail := 0 }) hmade
      (entryFits_of_sameRecords (entryFits_of_mem hmade he) ⟨rfl, rfl, rfl⟩ (Nat.zero_le _)) (hsec ▸ hroom) _

theorem crossing_keepsClaims (before : Option Nat) : KeepsClaims (crossing before) := fun s h => by
  unfold crossing
  split
  · exact h
  · refine enterEntry_keepsClaims _ _ ?_
    split
    · exact onEntry_keepsClaims exitEntry_keepsClaims _ s h
    · exact h

theorem approach_keepsClaims : KeepsClaims approach := fun s h => by
  unfold approach
  split
  · exact h
  · next x _ =>
    refine onEntry_claimInv h fun e he hsec => ?_
    have hfits {f : ClaimEntry} (hsame : SameRecords e f) (htail : f.tail ≤ f.tailLimit) : EntryFits f :=
      entryFits_of_sameRecords (entryFits_of_mem h he) hsame htail
    split
    · next hcond =>
      obtain ⟨-, hroom⟩ := hcond
      rw [← hsec] at hroom
      dsimp only
      split
      · exact setClaimEntry_claimInv h (hfits ⟨rfl, rfl, rfl⟩ (h.tails e he)) fun _ => hroom
      · exact startClaim_claimInv h (hfits ⟨rfl, rfl, rfl⟩ (h.tails e he)) hroom
    · exact h

theorem positionCheck_keepsClaims (before move : Option Nat) : KeepsClaims (positionCheck before move) :=
  fun s h => by
    unfold positionCheck
    split
    · exact reviewAll_keepsClaims _ <| approach_keepsClaims _ <|
        onEveryEntry_keepsClaims checkLeaving_keepsClaims _ <| tailCountdown_keepsClaims move _ <|
        crossing_keepsClaims before s h
    · exact h

/-! ## Learning (R101 to R106) -/

/-- An entry in which only the records of other stations have changed. -/
def SameOwn (e f : ClaimEntry) : Prop :=
  f.sec = e.sec ∧ f.state = e.state ∧ f.tail = e.tail ∧ f.tailLimit = e.tailLimit

theorem learned_claimInv {s : State} (h : ClaimInv s.clm) {e f : ClaimEntry} (he : e ∈ s.clm.entries)
    (hsame : SameOwn e f) (hlists : ClaimListsInv f) : ClaimInv (setClaimEntry f s).clm := by
  obtain ⟨hsec, hstate, htail, hlimit⟩ := hsame
  exact setClaimEntry_claimInv_of_mem h he hsec ⟨hlists, by rw [htail, hlimit]; exact h.tails e he⟩ (hstate ▸ id)

theorem dropHolder_lists (station : Nat) {e : ClaimEntry} (h : ClaimListsInv e) :
    ClaimListsInv (dropHolder station e) where
  holders := (List.length_filter_le _ _).trans h.holders
  claimants := h.claimants
  once := h.once.sublist ((List.filter_sublist.map _).append (List.Sublist.refl _))

theorem dropClaimant_lists (station : Nat) {e : ClaimEntry} (h : ClaimListsInv e) :
    ClaimListsInv (dropClaimant station e) where
  holders := h.holders
  claimants := (List.length_filter_le _ _).trans h.claimants
  once := h.once.sublist ((List.Sublist.refl _).append (List.filter_sublist.map _))

theorem sweepEntry_lists (s : State) {e : ClaimEntry} (h : ClaimListsInv e) : ClaimListsInv (sweepEntry s e) where
  holders := (List.length_filter_le _ _).trans h.holders
  claimants := (List.length_filter_le _ _).trans h.claimants
  once := h.once.sublist ((List.filter_sublist.map _).append (List.filter_sublist.map _))

theorem setHeard_sameOwn (e : ClaimEntry) (d : Dir) (t : Option Time) : SameOwn e (e.setHeard d t) := by
  cases d <;> exact ⟨rfl, rfl, rfl, rfl⟩

theorem setHeard_lists (d : Dir) (t : Option Time) {e : ClaimEntry} (h : ClaimListsInv e) :
    ClaimListsInv (e.setHeard d t) := by
  cases d <;> exact ⟨h.holders, h.claimants, h.once⟩

/-- Records refreshed in their places name the stations they named. -/
theorem map_station_refreshed {α : Type} (station : α → Nat) (c : α) (l : List α) :
    (l.map (fun x => if station x = station c then c else x)).map station = l.map station := by
  rw [List.map_map]
  refine List.map_congr_left fun x _ => ?_
  rw [Function.comp_apply]
  split
  · next h => exact h.symm
  · rfl

theorem holdsStation_eq_false (station : Nat) (e : ClaimEntry) :
    holdsStation station e = false ↔ station ∉ e.holders.map (·.station) := by
  simp [holdsStation]

/-- A holder that is no claimant joins the holder list, or is refreshed in it, unless the list is full. -/
theorem learnHolder_lists (r : Holder) {e : ClaimEntry} (h : ClaimListsInv e) :
    ClaimListsInv (learnHolder r e) := by
  have hkept := dropClaimant_lists r.station (setHeard_lists r.dir (some r.lastHeard) h)
  have hgone : r.station ∉
      (dropClaimant r.station (e.setHeard r.dir (some r.lastHeard))).claimants.map (·.station) := by
    simp [dropClaimant]
  unfold learnHolder
  dsimp only
  split
  · refine ⟨(List.length_map _).trans_le hkept.holders, hkept.claimants, ?_⟩
    rw [map_station_refreshed Holder.station r]
    exact hkept.once
  · next hnew =>
    rw [Bool.not_eq_true, holdsStation_eq_false] at hnew
    split
    · next hroom =>
      refine ⟨by rw [List.length_append]; exact hroom, hkept.claimants, ?_⟩
      rw [List.map_append, List.append_assoc]
      exact List.nodup_middle.mpr (List.nodup_cons.mpr
        ⟨fun hmem => (List.mem_append.mp hmem).elim hnew hgone, hkept.once⟩)
    · exact hkept

theorem learnHolder_sameOwn (r : Holder) (e : ClaimEntry) : SameOwn e (learnHolder r e) := by
  have hsame := setHeard_sameOwn e r.dir (some r.lastHeard)
  unfold learnHolder
  dsimp only
  split
  · exact hsame
  · split <;> exact hsame

theorem learnClaimant_sameOwn (c : Claimant) (e : ClaimEntry) : SameOwn e (learnClaimant c e) := by
  unfold learnClaimant
  split
  · exact ⟨rfl, rfl, rfl, rfl⟩
  · split
    · exact ⟨rfl, rfl, rfl, rfl⟩
    · split
      · exact ⟨rfl, rfl, rfl, rfl⟩
      · split <;> exact ⟨rfl, rfl, rfl, rfl⟩

theorem worstClaimant_mem {l : List Claimant} {w : Claimant} (h : worstClaimant l = some w) : w ∈ l := by
  induction l generalizing w with
  | nil => cases h
  | cons c cs ih =>
    unfold worstClaimant at h
    split at h
    · cases h
      exact List.mem_cons_self
    · next d hd =>
      split at h <;> cases h
      · exact List.mem_cons_of_mem _ (ih hd)
      · exact List.mem_cons_self

/-- A new claimant behind a part of the claimant list. -/
theorem appendClaimant_lists {c : Claimant} {e : ClaimEntry} (h : ClaimListsInv e)
    (hholder : holdsStation c.station e = false) {kept : List Claimant} (hkept : kept.Sublist e.claimants)
    (hroom : kept.length < 6) (hnew : c.station ∉ kept.map (·.station)) :
    ClaimListsInv { e with claimants := kept ++ [c] } := by
  refine ⟨h.holders, by rw [List.length_append]; exact hroom, ?_⟩
  rw [List.map_append, ← List.append_assoc, List.map_singleton]
  refine List.nodup_middle.mpr ?_
  rw [List.append_nil]
  exact List.nodup_cons.mpr
    ⟨fun hmem => (List.mem_append.mp hmem).elim ((holdsStation_eq_false _ _).mp hholder) hnew,
      h.once.sublist ((List.Sublist.refl _).append (hkept.map _))⟩

/-- A claimant that is no holder joins the claimant list, is refreshed in it, or takes the worst's place. -/
theorem learnClaimant_lists {c : Claimant} {e : ClaimEntry} (h : ClaimListsInv e)
    (hholder : holdsStation c.station e = false) : ClaimListsInv (learnClaimant c e) := by
  unfold learnClaimant
  split
  · refine ⟨h.holders, (List.length_map _).trans_le h.claimants, ?_⟩
    rw [map_station_refreshed Claimant.station c]
    exact h.once
  · next hnew =>
    have hnew : c.station ∉ e.claimants.map (·.station) := by simpa using hnew
    split
    · next hroom => exact appendClaimant_lists h hholder (List.Sublist.refl _) hroom hnew
    · split
      · exact h
      · next w hworst =>
        split
        · have hfewer : (e.claimants.filter (fun x => x.station != w.station)).length < e.claimants.length :=
            List.length_filter_lt_length_iff_exists.mpr ⟨w, worstClaimant_mem hworst, by simp⟩
          exact appendClaimant_lists h hholder List.filter_sublist (hfewer.trans_le h.claimants)
            fun hmem => hnew ((List.filter_sublist.map _).subset hmem)
        · exact h

theorem holdsStation_dropHolder (station : Nat) (e : ClaimEntry) :
    holdsStation station (dropHolder station e) = false := by
  simp [holdsStation, dropHolder]

theorem learnHold_keepsClaims (station : Nat) (b : Beacon) (received : Time) (hold : HoldEntry) :
    KeepsClaims (learnHold station b received hold) := by
  refine onEntry_keepsClaims (fun {e s} h he => ?_) _
  have hlists := h.lists e he
  split
  · have hlearned := learned_claimInv h he (learnHolder_sameOwn _ e)
      (learnHolder_lists (Holder.of station b hold received) hlists)
    dsimp only
    split
    · exact hlearned
    · exact hlearned
  · exact learned_claimInv h he (learnClaimant_sameOwn _ (dropHolder station e))
      (learnClaimant_lists (dropHolder_lists station hlists) (holdsStation_dropHolder station e))

theorem dropOmitted_keepsClaims (station : Nat) (b : Beacon) : KeepsClaims (dropOmitted station b) := by
  refine onEveryEntry_keepsClaims fun {e s} h he => ?_
  split
  · exact h
  · exact learned_claimInv h he ⟨rfl, rfl, rfl, rfl⟩ (dropHolder_lists station (h.lists e he))

theorem reviewChanged_keepsClaims (old : State) : KeepsClaims (reviewChanged old) := fun s h =>
  foldl_keepsClaims (fun sec => review_keepsClaims sec) _ s h

theorem clmTakePosition_keepsClaims (station : Nat) (b : Beacon) (received : Time) :
    KeepsClaims (clmTakePosition station b received) := fun s h =>
  reviewChanged_keepsClaims s _ <| dropOmitted_keepsClaims station b _ <|
    foldl_keepsClaims (fun hold => learnHold_keepsClaims station b received hold) b.holds s h

theorem clmTakeClaim_keepsClaims (sec : Nat) (c : Claimant) : KeepsClaims (clmTakeClaim sec c) := fun s h => by
  refine reviewChanged_keepsClaims s _ (onEntry_keepsClaims (fun {e s} h he => ?_) sec s h)
  split
  · exact h
  · next hholder =>
    exact learned_claimInv h he (learnClaimant_sameOwn c e)
      (learnClaimant_lists (h.lists e he) (Bool.eq_false_iff.mpr hholder))

theorem clmTakeRelease_keepsClaims (station : Nat) (secs : List Nat) : KeepsClaims (clmTakeRelease station secs) :=
  fun s h => by
    refine reviewChanged_keepsClaims s _ (foldl_keepsClaims (fun sec => onEntry_keepsClaims ?_ sec) secs s h)
    exact fun {e s} h he => learned_claimInv h he ⟨rfl, rfl, rfl, rfl⟩
      (dropClaimant_lists station (dropHolder_lists station (h.lists e he)))

theorem clmTakes_keepsClaims {f : Received → Option (State → State)} (hf : ∀ r g, f r = some g → KeepsClaims g) :
    KeepsClaims (clmTakes f) := fun s h => by
  unfold clmTakes
  split
  · exact h
  · next r rest _ =>
    split
    · next g hg => exact hf r g hg _ h
    · exact h

/-- The sweep rewrites the records of every entry, and the review follows (R106). -/
theorem sweepClaims_keepsClaims : KeepsClaims sweepClaims := fun s h => by
  refine reviewAll_keepsClaims _ ⟨?_, ?_, ?_, ?_, h.posts⟩
  · rw [State.setClm_clm, List.map_map]
    exact h.ascending
  · rw [State.setClm_clm, List.filter_map, List.length_map]
    exact h.active
  · exact List.forall_mem_map.mpr fun e he => sweepEntry_lists s (h.lists e he)
  · exact List.forall_mem_map.mpr fun e he => h.tails e he

/-! ## Windows and notices (R113, R126) -/

theorem closeWindow_keepsClaims : EntryKeepsClaims closeWindow := fun {e s} h he => by
  unfold closeWindow
  split
  · next w hstate _ =>
    have hset {f : ClaimEntry} (hsame : SameRecords e f) (htail : f.tail ≤ f.tailLimit) :
        ClaimInv (setClaimEntry f s).clm :=
      changeEntry_claimInv h he hsame htail fun _ => by simp [hstate]
    split
    · exact hset ⟨rfl, rfl, rfl⟩ (h.tails e he)
    · exact hset ⟨rfl, rfl, rfl⟩ (h.tails e he)
  · exact h

theorem releaseHeard_clm (sec : Nat) (s : State) : (releaseHeard sec s).clm = s.clm := by
  unfold releaseHeard onEntry
  split
  · dsimp only
    split <;> rfl
  · rfl

theorem repostClaim_keepsClaims (sec : Nat) : KeepsClaims (repostClaim sec) := by
  refine onEntry_keepsClaims (fun {e s} h he => ?_) sec
  split
  · exact postClaim_keepsClaims e _
      (changeEntry_claimInv (f := { e with repostUsed := true }) h he ⟨rfl, rfl, rfl⟩ (h.tails e he) id)
  · exact h

theorem onClaimPost_keepsClaims (o : SlotOutcome) (p : ClaimPost) : KeepsClaims (onClaimPost o p) := fun s h => by
  unfold onClaimPost
  split
  · exact h
  · exact h
  · rwa [releaseHeard_clm]
  · split
    · rwa [releaseHeard_clm]
    · exact repostClaim_keepsClaims p.sec s h

theorem onClaimNotice_keepsClaims (n : Notice) : KeepsClaims (onClaimNotice n) := fun s h => by
  refine foldl_keepsClaims (fun p => onClaimPost_keepsClaims n.outcome p) _ _ ?_
  exact { h with posts := (List.length_filter_le _ _).trans h.posts }

theorem takeNotice_keepsClaims (id : SlotId) {f : Notice → State → State} (hf : ∀ n, KeepsClaims (f n)) :
    KeepsClaims (takeNotice id f) := fun s h => by
  unfold takeNotice
  split
  · exact h
  · exact hf _ _ h

end Sys2Proof.Proofs
end

section
/-! PROOFS. Every operation of CVY keeps role record, roster and halt set consistent (R78, R88, R93), and
with the claim table so does every step. -/

namespace Sys2Proof.Proofs

open Sys2Proof.Machine Sys2Proof.Laws Sys2Proof.Safety

/-! ## What CVY's operations do to its record -/

@[simp] theorem post_cvy (block : BlockId) (kind : RecordKind) (first second third : Detail) (s : State) :
    (post block kind first second third s).cvy = s.cvy := rfl

@[simp] theorem leave_cvy (cause : LeaveCause) (s : State) : (leave cause s).cvy =
    { s.cvy with role := .solo, convoy := 0, rank := 0, pred := 0, members := [], foreign := [] } := rfl

/-- Telling a new convoy of the own halt touches retry used alone (R95, R97). -/
theorem tellNewConvoy_cvy (s : State) :
    (tellNewConvoy s).cvy = { s.cvy with retryUsed := (tellNewConvoy s).cvy.retryUsed } := by
  unfold tellNewConvoy
  split <;> rfl

/-! ## The invariant on the record -/

/-- An operation keeps role record, roster and halt set consistent. -/
def KeepsConvoy (f : State → State) : Prop := ∀ s : State, ConvoyInv s.cvy → ConvoyInv (f s).cvy

theorem convoyInv_of_frame {F : Foot} {s t : State} (hframe : blank F t = blank F s) (hF : F.cvy = false)
    (h : ConvoyInv s.cvy) : ConvoyInv t.cvy := by
  rwa [blank_cvy hframe hF]

theorem tellNewConvoy_keepsConvoy : KeepsConvoy tellNewConvoy := fun s h => by
  rw [tellNewConvoy_cvy]
  exact { h with }

/-- A node that has left is SOLO, with roster and foreign halts empty (R83). -/
theorem leave_keepsConvoy (cause : LeaveCause) : KeepsConvoy (leave cause) := fun _ _ =>
  { solo := fun _ => ⟨rfl, rfl, rfl, rfl⟩
    leader := fun hrole => nomatch hrole
    follower := fun hrole => nomatch hrole
    members := Nat.zero_le _
    once := List.nodup_nil
    foreign := Nat.zero_le _
    sources := List.nodup_nil }

/-! ## The role record (R80 to R86) -/

theorem join_keepsConvoy {s : State} (h : ConvoyInv s.cvy) {e : PeerEntry} (hrank : e.rank < 8) :
    ConvoyInv (join e s).cvy where
  solo hrole := nomatch hrole
  leader hrole := nomatch hrole
  follower _ := by
    show 1 ≤ (if e.rank = 0 then 2 else e.rank + 1) ∧ (if e.rank = 0 then 2 else e.rank + 1) ≤ 8
    split <;> omega
  members := Nat.zero_le _
  once := List.nodup_nil
  foreign := h.foreign
  sources := h.sources

theorem joinable_rank {s : State} {a : Ahead} (h : joinable s a = true) : a.entry.rank < 8 := by
  simp only [joinable, Bool.and_eq_true, decide_eq_true_eq] at h
  obtain ⟨⟨⟨-, hrank⟩, -⟩, -⟩ := h
  exact hrank

theorem roleCheck_keepsConvoy : KeepsConvoy roleCheck := fun s h => by
  unfold roleCheck
  split
  · unfold joinTest
    split
    · exact h
    · split
      · next hjoin => exact join_keepsConvoy h (joinable_rank hjoin)
      · exact h
  · split
    · exact leave_keepsConvoy _ s h
    · exact h
  · exact h

theorem followFunction_keepsConvoy (c : FnChange) : KeepsConvoy (followFunction c) := fun s h => by
  unfold followFunction
  split
  · exact leave_keepsConvoy _ s h
  · exact h

theorem cvyTakesChange_keepsConvoy : KeepsConvoy cvyTakesChange := fun s h => by
  unfold cvyTakesChange
  split
  · exact h
  · exact followFunction_keepsConvoy _ _ h

theorem becomeLeader_keepsConvoy (station : Nat) : KeepsConvoy (becomeLeader station) := fun _ h =>
  tellNewConvoy_keepsConvoy _
    { solo := fun hrole => nomatch hrole
      leader := fun _ => ⟨rfl, rfl⟩
      follower := fun hrole => nomatch hrole
      members := Nat.zero_le _
      once := List.nodup_nil
      foreign := h.foreign
      sources := h.sources }

theorem derived_rank_pos (pred : Nat) (b : Beacon) : 1 ≤ (derived pred b).2 := by
  unfold derived
  split
  · exact Nat.le_succ 1
  · exact Nat.le_add_left 1 _

theorem propagate_keepsConvoy (b : Beacon) {s : State} (hrole : s.cvy.role = .follower) (h : ConvoyInv s.cvy) :
    ConvoyInv (propagate b s).cvy := by
  unfold propagate
  dsimp only
  split
  · exact leave_keepsConvoy _ s h
  · next hrank =>
    have hrank : 1 ≤ (derived s.cvy.pred b).2 ∧ (derived s.cvy.pred b).2 ≤ 8 :=
      ⟨derived_rank_pos _ b, Nat.le_of_not_gt hrank⟩
    split
    · exact { h with
        solo := fun hsolo => nomatch hrole.symm.trans hsolo
        leader := fun hleader => nomatch hrole.symm.trans hleader
        follower := fun _ => hrank }
    · exact tellNewConvoy_keepsConvoy _
        { solo := fun hsolo => nomatch hrole.symm.trans hsolo
          leader := fun hleader => nomatch hrole.symm.trans hleader
          follower := fun _ => hrank
          members := Nat.zero_le _
          once := List.nodup_nil
          foreign := Nat.zero_le _
          sources := List.nodup_nil }

theorem leadOrPropagate_keepsConvoy (station : Nat) (b : Beacon) : KeepsConvoy (leadOrPropagate station b) :=
  fun s h => by
    unfold leadOrPropagate
    split
    · split
      · exact becomeLeader_keepsConvoy station s h
      · exact h
    · next hrole =>
      split
      · exact propagate_keepsConvoy b hrole h
      · exact h
    · exact h

/-! ## The roster (R87 to R91) -/

theorem insertMember_perm (sections : List SectionEntry) (m : Member) (ms : List Member) :
    (insertMember sections m ms).Perm (m :: ms) := by
  induction ms with
  | nil => exact .refl _
  | cons x xs ih =>
    unfold insertMember
    split
    · exact .refl _
    · exact (ih.cons x).trans (.swap m x xs)

theorem setMembers_keepsConvoy {s : State} (h : ConvoyInv s.cvy) {ms : List Member} (hrole : s.cvy.role ≠ .solo)
    (hlength : ms.length ≤ 7) (honce : (ms.map (·.station)).Nodup) : ConvoyInv (setMembers ms s).cvy :=
  { h with
    solo := fun hsolo => absurd hsolo hrole
    members := hlength
    once := honce }

/-- A newcomer beside members that are at most six and not its own station. -/
theorem insertMember_keepsConvoy {s : State} (h : ConvoyInv s.cvy) (hrole : s.cvy.role ≠ .solo) {m : Member}
    {kept : List Member} (hkept : kept.Sublist s.cvy.members) (hroom : kept.length < 7)
    (hnew : ∀ x ∈ kept, x.station ≠ m.station) :
    ConvoyInv (setMembers (insertMember s.pos.sections m kept) s).cvy := by
  have hperm := insertMember_perm s.pos.sections m kept
  refine setMembers_keepsConvoy h hrole (hperm.length_eq.trans_le hroom) ?_
  rw [(hperm.map (·.station)).nodup_iff, List.map_cons, List.nodup_cons]
  exact ⟨by simpa using hnew, h.once.sublist (hkept.map _)⟩

theorem leaderTest_keepsConvoy : KeepsConvoy leaderTest := fun s h => by
  unfold leaderTest
  split
  · exact leave_keepsConvoy _ s h
  · exact h

theorem without_sublist (station : Nat) (ms : List Member) : (without station ms).Sublist ms :=
  List.filter_sublist

theorem length_without_lt {station : Nat} {ms : List Member} {old : Member} (h : old ∈ ms)
    (hstation : old.station = station) : (without station ms).length < ms.length :=
  List.length_filter_lt_length_iff_exists.mpr ⟨old, h, by simp [hstation]⟩

theorem station_of_mem_without {station : Nat} {ms : List Member} {x : Member} (h : x ∈ without station ms) :
    x.station ≠ station := by
  simpa using (List.mem_filter.mp h).2

theorem fullRoster_keepsConvoy {s : State} (h : ConvoyInv s.cvy) (hrole : s.cvy.role ≠ .solo) {m : Member}
    (hnew : ∀ x ∈ s.cvy.members, x.station ≠ m.station) : ConvoyInv (fullRoster m s).cvy := by
  unfold fullRoster
  split
  · exact h
  · next last hlast =>
    have hne : s.cvy.members ≠ [] := by
      rintro hnil
      rw [hnil] at hlast
      cases hlast
    split
    · refine leaderTest_keepsConvoy _ (insertMember_keepsConvoy h hrole (List.dropLast_sublist _) ?_
        fun x hx => hnew x (List.dropLast_subset _ hx))
      rw [List.length_dropLast]
      have hpos := List.length_pos_iff.mpr hne
      have := h.members
      omega
    · exact h

theorem membership_keepsConvoy (station : Nat) (b : Beacon) (received : Time) :
    KeepsConvoy (membership station b received) := fun s h => by
  unfold membership
  split
  · exact h
  · next hrole =>
    dsimp only
    split
    · next old hfound =>
      have hold : old ∈ s.cvy.members := List.mem_of_find?_eq_some hfound
      have hstation : old.station = station := by simpa using List.find?_some hfound
      have hfewer := length_without_lt hold hstation
      have hroom : (without station s.cvy.members).length < 7 := hfewer.trans_le h.members
      split
      · have hkept : ConvoyInv (setMembers
            (insertMember s.pos.sections (Member.of station b received) (without station s.cvy.members)) s).cvy :=
          insertMember_keepsConvoy h hrole (without_sublist _ _) hroom fun x hx => station_of_mem_without hx
        split
        · exact hkept
        · exact leaderTest_keepsConvoy _ hkept
      · exact leaderTest_keepsConvoy _ (setMembers_keepsConvoy h hrole hroom.le
          (h.once.sublist ((without_sublist _ _).map _)))
    · next hfound =>
      have hnew : ∀ x ∈ s.cvy.members, x.station ≠ (Member.of station b received).station := by
        simpa [Member.of] using hfound
      split
      · exact h
      · split
        · next hroom =>
          exact insertMember_keepsConvoy h hrole (List.Sublist.refl _) (by omega) hnew
        · exact fullRoster_keepsConvoy h hrole hnew

theorem sweepMembers_keepsConvoy : KeepsConvoy sweepMembers := fun s h =>
  leaderTest_keepsConvoy _
    { h with
      solo := fun hsolo => by
        obtain ⟨hconvoy, hrank, hpred, hmembers⟩ := h.solo hsolo
        exact ⟨hconvoy, hrank, hpred, by simp [hmembers]⟩
      members := (List.length_filter_le _ _).trans h.members
      once := h.once.sublist (List.filter_sublist.map _) }

/-! ## The halt set (R93 to R97) -/

theorem liftHalt_keepsConvoy (source : Nat) : KeepsConvoy (liftHalt source) := fun _ h =>
  { h with
    foreign := (List.length_filter_le _ _).trans h.foreign
    sources := h.sources.sublist (List.filter_sublist.map _) }

theorem haltEndsByBeacon_keepsConvoy (station : Nat) (b : Beacon) : KeepsConvoy (haltEndsByBeacon station b) :=
  fun s h => by
    unfold haltEndsByBeacon
    split
    · exact h
    · exact liftHalt_keepsConvoy station s h

theorem cvyTakePosition_keepsConvoy (station : Nat) (b : Beacon) (received : Time) :
    KeepsConvoy (cvyTakePosition station b received) := fun s h => by
  unfold cvyTakePosition
  split
  · exact haltEndsByBeacon_keepsConvoy station b _ <| membership_keepsConvoy station b received _ <|
      leadOrPropagate_keepsConvoy station b s h
  · exact h

theorem postEitherOrder_keepsConvoy {f g : State → State} (hf : KeepsConvoy f) (hg : KeepsConvoy g) :
    KeepsConvoy (postEitherOrder f g) := fun s h => by
  unfold postEitherOrder
  dsimp only
  split
  · exact hg _ (hf _ h)
  · exact hf _ (hg _ h)

theorem recordHalt_keepsConvoy (source : Nat) (cause : HaltCause) : KeepsConvoy (recordHalt source cause) :=
  fun s h => by
    unfold recordHalt
    dsimp only
    split
    · refine { h with foreign := (List.length_map _).trans_le h.foreign, sources := ?_ }
      rw [post_cvy, State.setCvy_cvy, map_station_refreshed Prod.fst (source, cause)]
      exact h.sources
    · next hnew =>
      split
      · next hroom =>
        refine { h with foreign := by simpa using hroom, sources := ?_ }
        rw [post_cvy, State.setCvy_cvy, List.map_append]
        exact h.sources.append (List.nodup_singleton _) (by simpa using hnew)
      · refine postEitherOrder_keepsConvoy ?_ ?_ s h
        · exact fun _ => id
        · exact fun _ => id

theorem addCause_keepsConvoy (cause : HaltCause) : KeepsConvoy (addCause cause) := fun s h => by
  unfold addCause
  split
  · exact h
  · dsimp only
    split <;> exact { h with }

theorem removeCause_keepsConvoy (cause : HaltCause) : KeepsConvoy (removeCause cause) := fun s h => by
  unfold removeCause
  split
  · exact h
  · dsimp only
    split <;> exact { h with }

theorem takeCause_keepsConvoy (src : CauseSource) (add : Bool) : KeepsConvoy (takeCause src add) := fun s h => by
  unfold takeCause
  split
  · exact h
  · split
    · dsimp only
      split
      · exact addCause_keepsConvoy _ _ h
      · exact removeCause_keepsConvoy _ _ h
    · exact h

theorem acknowledge_keepsConvoy : KeepsConvoy acknowledge := fun s h => by
  have hempty : ConvoyInv { s.cvy with own := OwnCauses.empty, foreign := [] } :=
    { h with foreign := Nat.zero_le _, sources := List.nodup_nil }
  unfold acknowledge
  dsimp only
  split
  · exact { hempty with }
  · exact hempty

theorem takeGesture_keepsConvoy : KeepsConvoy takeGesture := fun s h => by
  unfold takeGesture
  split
  · exact h
  · exact acknowledge_keepsConvoy _ h

theorem repostHalt_keepsConvoy (content : Option Content) : KeepsConvoy (repostHalt content) := fun s h => by
  unfold repostHalt
  split
  · exact h
  · dsimp only
    split
    · exact { h with }
    · exact { h with }
    · exact h

theorem onHaltNotice_keepsConvoy (n : Notice) : KeepsConvoy (onHaltNotice n) := fun s h => by
  unfold onHaltNotice
  split
  · exact { h with }
  · exact h
  · exact h
  · exact repostHalt_keepsConvoy _ s h

theorem takeNotice_keepsConvoy (id : SlotId) {f : Notice → State → State} (hf : ∀ n, KeepsConvoy (f n)) :
    KeepsConvoy (takeNotice id f) := fun s h => by
  unfold takeNotice
  split
  · exact h
  · exact hf _ _ h

theorem cvyTakes_keepsConvoy (p : Matter → Bool) {f : Received → State → State} (hf : ∀ r, KeepsConvoy (f r)) :
    KeepsConvoy (cvyTakes p f) := fun s h => by
  unfold cvyTakes
  split
  · exact h
  · split
    · exact hf _ _ h
    · exact h

/-! ## Every command -/

/-- What holds of CVY and of CLM in one state holds in the next. -/
def BothKept (s t : State) : Prop := (ConvoyInv s.cvy → ConvoyInv t.cvy) ∧ (ClaimInv s.clm → ClaimInv t.clm)

/-- What leaves CVY and CLM out of its footprint keeps both. -/
theorem bothKept_of_frame {F : Foot} {s t : State} (hframe : blank F t = blank F s) (hcvy : F.cvy = false)
    (hclm : F.clm = false) : BothKept s t :=
  ⟨convoyInv_of_frame hframe hcvy, claimInv_of_frame hframe hclm⟩

/-- A command of CVY. -/
theorem bothKept_of_convoy {F : Foot} {s t : State} {f : State → State} (hf : KeepsConvoy f)
    (e : whileUp s f = .next t) (hframe : blank F t = blank F s) (hF : F.clm = false) : BothKept s t := by
  refine ⟨fun h => ?_, claimInv_of_frame hframe hF⟩
  unfold whileUp at e
  split at e <;> cases e
  · exact h
  · exact hf s h

/-- A command of CLM. -/
theorem bothKept_of_claims {F : Foot} {s t : State} {f : State → State} (hf : KeepsClaims f)
    (e : whileUp s f = .next t) (hframe : blank F t = blank F s) (hF : F.cvy = false) : BothKept s t := by
  refine ⟨convoyInv_of_frame hframe hF, fun h => ?_⟩
  unfold whileUp at e
  split at e <;> cases e
  · exact h
  · exact hf s h

/-- What an event does only on a condition. -/
theorem keepsClaims_ite {p : State → Prop} [DecidablePred p] {f : State → State} (hf : KeepsClaims f) :
    KeepsClaims (fun s => if p s then f s else s) := fun s h => by
  dsimp only
  split
  · exact hf s h
  · exact h

theorem keepsConvoy_ite {p : State → Prop} [DecidablePred p] {f : State → State} (hf : KeepsConvoy f) :
    KeepsConvoy (fun s => if p s then f s else s) := fun s h => by
  dsimp only
  split
  · exact hf s h
  · exact h

/-! ### The convoy commands -/

theorem cvyTakesPosition_bothKept {s t : State} (e : execCvyTakesPosition s = .next t) : BothKept s t := by
  refine bothKept_of_convoy (cvyTakes_keepsConvoy _ fun r s h => ?_)
    e (execCvyTakesPosition_frame (G := footCvyTake) rfl e) rfl
  split
  · exact cvyTakePosition_keepsConvoy _ _ _ s h
  · exact h

theorem cvyTakesHalt_bothKept {s t : State} (e : execCvyTakesHalt s = .next t) : BothKept s t := by
  refine bothKept_of_convoy (cvyTakes_keepsConvoy _ fun r s h => ?_)
    e (execCvyTakesHalt_frame (G := footCvyTake) rfl e) rfl
  split
  · split
    · exact recordHalt_keepsConvoy _ _ s h
    · exact h
  · exact h

theorem cvyTakesResume_bothKept {s t : State} (e : execCvyTakesResume s = .next t) : BothKept s t :=
  bothKept_of_convoy (cvyTakes_keepsConvoy _ fun _ => keepsConvoy_ite (liftHalt_keepsConvoy _)) e
    (execCvyTakesResume_frame (G := footCvyTake) rfl e) rfl

theorem cvySweep_bothKept {s t : State} (e : execCvySweep s = .next t) : BothKept s t :=
  bothKept_of_convoy (keepsConvoy_ite sweepMembers_keepsConvoy) e (execCvySweep_frame (G := footCvy) rfl e) rfl

theorem noteCrawl_cvy (s : State) : (noteCrawl s).cvy = s.cvy := by
  unfold noteCrawl
  split
  · split <;> rfl
  · rfl

theorem governorStep_keepsConvoy : KeepsConvoy governorStep := fun s h => by
  show ConvoyInv (noteCrawl (roleCheck s)).cvy
  rw [noteCrawl_cvy]
  exact roleCheck_keepsConvoy s h

theorem governorUpdate_bothKept {s t : State} (e : execGovernorUpdate s = .next t) : BothKept s t :=
  bothKept_of_convoy (keepsConvoy_ite governorStep_keepsConvoy)
    e (execGovernorUpdate_frame (G := footGov) rfl e) rfl

/-! ### The claim commands -/

theorem clmTakesPosition_bothKept {s t : State} (e : execClmTakesPosition s = .next t) : BothKept s t := by
  refine bothKept_of_claims (clmTakes_keepsClaims fun r g hg => ?_)
    e (execClmTakesPosition_frame (G := footClmTake) rfl e) rfl
  split at hg <;> cases hg
  exact clmTakePosition_keepsClaims _ _ _

theorem clmTakesClaim_bothKept {s t : State} (e : execClmTakesClaim s = .next t) : BothKept s t := by
  refine bothKept_of_claims (clmTakes_keepsClaims fun r g hg => ?_)
    e (execClmTakesClaim_frame (G := footClmTake) rfl e) rfl
  split at hg <;> cases hg
  exact clmTakeClaim_keepsClaims _ _

theorem clmTakesRelease_bothKept {s t : State} (e : execClmTakesRelease s = .next t) : BothKept s t := by
  refine bothKept_of_claims (clmTakes_keepsClaims fun r g hg => ?_)
    e (execClmTakesRelease_frame (G := footClmTake) rfl e) rfl
  split at hg <;> cases hg
  exact clmTakeRelease_keepsClaims _ _

theorem claimWindow_bothKept (sec : Nat) {s t : State} (e : execClaimWindow sec s = .next t) : BothKept s t :=
  bothKept_of_claims (keepsClaims_ite fun s h =>
    review_keepsClaims sec _ (onEntry_keepsClaims closeWindow_keepsClaims sec s h)) e
    (execClaimWindow_frame (G := footClm) rfl sec e) rfl

theorem clmSweep_bothKept {s t : State} (e : execClmSweep s = .next t) : BothKept s t :=
  bothKept_of_claims (keepsClaims_ite sweepClaims_keepsClaims) e (execClmSweep_frame (G := footClm) rfl e) rfl

/-! ### Position, mode and load -/

theorem tagArrives_keepsClaims (tag : TagNumber) : KeepsClaims (tagArrives tag) := fun s h => by
  unfold tagArrives
  split
  · exact h
  · exact h
  · unfold tagPlaced
    split
    · exact h
    · split
      · exact h
      · exact positionCheck_keepsClaims _ _ _ h

theorem tagRead_bothKept (tag : TagNumber) {s t : State} (e : execTagRead tag s = .next t) : BothKept s t :=
  bothKept_of_claims (keepsClaims_ite (tagArrives_keepsClaims tag))
    e (execTagRead_frame (G := footPos) rfl tag e) rfl

theorem pulseArrives_keepsClaims : KeepsClaims pulseArrives := fun s h => by
  unfold pulseArrives
  dsimp only
  split
  · exact h
  · refine positionCheck_keepsClaims _ _ _ ?_
    unfold noteLost
    split <;> exact h

theorem enterRunning_keepsClaims : KeepsClaims enterRunning := fun _ h => positionCheck_keepsClaims _ _ _ h

theorem listenTimer_bothKept {s t : State} (e : execListenTimer s = .next t) : BothKept s t :=
  bothKept_of_claims (keepsClaims_ite enterRunning_keepsClaims) e (execListenTimer_frame (G := footRun) rfl e) rfl

theorem parkTest_clm (s : State) : (parkTest s).clm = s.clm := by
  unfold parkTest
  repeat' split
  all_goals rfl

theorem nodeTakesChange_keepsClaims : KeepsClaims nodeTakesChange := fun s h => by
  unfold nodeTakesChange
  split
  · exact h
  · unfold nodeChange
    split
    · split
      · rwa [parkTest_clm]
      · exact h
    · split
      · exact enterRunning_keepsClaims _ h
      · exact h
    · exact h
    · exact h
    · exact h

/-- The table is built in ascending order of section, with every entry NONE (R99). -/
theorem handSettings_claimInv (img : List Byte) {s : State} (h : ClaimInv s.clm) :
    ClaimInv (handSettings img s).clm := by
  have hbuilt {e : ClaimEntry} (he : e ∈ (handSettings img s).clm.entries) : ∃ i, e = ClaimEntry.built i := by
    obtain ⟨i, -, rfl⟩ := List.mem_map.mp he
    exact ⟨i, rfl⟩
  refine ⟨?_, ?_, fun e he => ?_, fun e he => ?_, h.posts⟩
  · have hsecs : (handSettings img s).clm.entries.map (·.sec) =
        (List.range 32).filter (isSingle ((List.range 32).map (sectionOf img))) :=
      List.map_map.trans (List.map_id _)
    rw [hsecs]
    exact List.pairwise_lt_range.filter _
  · rw [List.filter_eq_nil_iff.mpr fun e he => ?_]
    · exact Nat.zero_le _
    · obtain ⟨i, rfl⟩ := hbuilt he
      exact Bool.false_ne_true
  · obtain ⟨i, rfl⟩ := hbuilt he
    exact ⟨Nat.zero_le _, Nat.zero_le _, List.nodup_nil⟩
  · obtain ⟨i, rfl⟩ := hbuilt he
    exact Nat.zero_le _

theorem BothKept.trans {s t u : State} (hst : BothKept s t) (htu : BothKept t u) : BothKept s u :=
  ⟨htu.1 ∘ hst.1, htu.2 ∘ hst.2⟩

theorem handSettings_bothKept (img : List Byte) (s : State) : BothKept s (handSettings img s) :=
  ⟨id, handSettings_claimInv img⟩

theorem forgetAll_bothKept (s : State) : BothKept s (forgetAll s) :=
  bothKept_of_frame (forgetAll_frame (G := footLine) rfl s) rfl rfl

theorem loadFails_bothKept (cause : FaultCause) (detail : Nat) (s : State) :
    BothKept s (loadFails cause detail s) :=
  forgetAll_bothKept (s.setNode { s.node with
    mode := .unconfigured, faultCause := some cause, faultDetail := detail, store := .idle, retryTimer := none })

theorem readFailed_bothKept (s : State) : BothKept s (readFailed s) := by
  unfold readFailed
  split
  · exact ⟨id, id⟩
  · exact loadFails_bothKept _ _ s

/-- Entering LISTENING starts the sweeps of CVY and CLM, beside what neither invariant speaks of (R191). -/
theorem enterListening_bothKept (s : State) : BothKept s (enterListening s) := by
  refine BothKept.trans ?_ (bothKept_of_frame (armBeacon_frame (G := footDraw) rfl 0 _) rfl rfl)
  exact (forgetAll_bothKept s).trans ⟨fun h => { h with }, fun h => { h with }⟩

theorem readCompletes_bothKept (img : List Byte) (s : State) : BothKept s (readCompletes img s) := by
  unfold readCompletes
  split
  · exact loadFails_bothKept _ _ s
  · have hframe : blank footPost (postClamped img s) = blank footPost s :=
      foldl_frame (fun s _ => post_frame rfl _ _ _ _ _ s) _ s
    have hclamped : BothKept s (postClamped img s) := bothKept_of_frame hframe rfl rfl
    exact (hclamped.trans (handSettings_bothKept img _)).trans (enterListening_bothKept _)

/-- A command guarded by the hold of the node in reset. -/
theorem bothKept_whileUp {f : State → State} (hf : ∀ s, BothKept s (f s)) {s t : State}
    (e : whileUp s f = .next t) : BothKept s t := by
  unfold whileUp at e
  split at e <;> cases e
  · exact ⟨id, id⟩
  · exact hf s

theorem bothKept_ite {p : Prop} [Decidable p] {s t : State} (h : BothKept s t) :
    BothKept s (if p then t else s) := by
  split
  · exact h
  · exact ⟨id, id⟩

/-- What ends a read of the store does so only while one is under way (R186). -/
theorem bothKept_whileReading {f : State → State} (hf : ∀ s, BothKept s (f s)) {s t : State}
    (e : whileUp s (fun s => if s.node.store = .reading then f s else s) = .next t) : BothKept s t :=
  bothKept_whileUp (fun s => bothKept_ite (hf s)) e

theorem storeReadComplete_bothKept (image : List Byte) {s t : State} (e : execStoreReadComplete image s = .next t) :
    BothKept s t := by
  unfold execStoreReadComplete at e
  split at e
  · exact bothKept_whileReading (readCompletes_bothKept image) e
  · cases e

theorem loadRetry_bothKept {s t : State} (e : execLoadRetry s = .next t) : BothKept s t := by
  refine bothKept_whileUp (fun s => ?_) e
  exact bothKept_ite ⟨id, id⟩

theorem binTimer_bothKept {s t : State} (e : execBinTimer s = .next t) : BothKept s t := by
  refine bothKept_whileUp (fun s => ?_) e
  exact bothKept_ite ⟨id, id⟩

/-- A reset puts both blocks at their reset values (R184). -/
theorem bothKept_of_reset {s t : State} (hcvy : t.cvy = Cvy.reset) (hclm : t.clm = Clm.reset) : BothKept s t :=
  ⟨fun _ => hcvy ▸ reset_convoyInv, fun _ => hclm ▸ reset_claimInv⟩

theorem serviceRestart_bothKept {s t : State} (e : execServiceRestart s = .next t) : BothKept s t :=
  bothKept_whileUp (fun _ => bothKept_ite (bothKept_of_reset rfl rfl)) e

/-! ### The step -/

/-- Every command keeps the convoy record and the claim table: those of CVY and CLM by what they do, a
reset and the load by what they set, the others by their footprints. -/
theorem exec_bothKept (c : Instr) {s t : State} (e : exec c s = .next t) : BothKept s t := by
  cases c with
  | powerOn => cases e; exact bothKept_of_reset rfl rfl
  | supplyBelowDipThreshold => cases e; exact bothKept_of_reset rfl rfl
  | supplyDip lineHeld => cases e; exact bothKept_of_reset rfl rfl
  | serviceRestart => exact serviceRestart_bothKept e
  | loadRetry => exact loadRetry_bothKept e
  | storeNoAck => exact bothKept_whileReading readFailed_bothKept e
  | storeByteTimeout => exact bothKept_whileReading readFailed_bothKept e
  | storeReadComplete image => exact storeReadComplete_bothKept image e
  | listenTimer => exact listenTimer_bothKept e
  | tagRead tag => exact tagRead_bothKept tag e
  | wheelPulse =>
    exact bothKept_of_claims pulseArrives_keepsClaims e (execWheelPulse_frame (G := footPos) rfl e) rfl
  | binTimer => exact binTimer_bothKept e
  | receiveByte start byte =>
    exact bothKept_of_frame (execReceiveByte_frame (G := footAir) rfl start byte e) rfl rfl
  | byteGapTimeout => exact bothKept_of_frame (execByteGapTimeout_frame (G := footAir) rfl e) rfl rfl
  | peerTakesPosition => exact bothKept_of_frame (execPeerTakesPosition_frame (G := footPeerTake) rfl e) rfl rfl
  | peerSweep => exact bothKept_of_frame (execPeerSweep_frame (G := footPeer) rfl e) rfl rfl
  | cvyTakesPosition => exact cvyTakesPosition_bothKept e
  | cvyTakesHalt => exact cvyTakesHalt_bothKept e
  | cvyTakesResume => exact cvyTakesResume_bothKept e
  | cvySweep => exact cvySweep_bothKept e
  | cvyFunctionChange =>
    exact bothKept_of_convoy cvyTakesChange_keepsConvoy e (execCvyFunctionChange_frame (G := footCvy) rfl e) rfl
  | ownCauseAdd source =>
    exact bothKept_of_convoy (takeCause_keepsConvoy _ _) e (execOwnCauseAdd_frame (G := footCvy) rfl source e) rfl
  | ownCauseRemove source =>
    exact bothKept_of_convoy (takeCause_keepsConvoy _ _)
      e (execOwnCauseRemove_frame (G := footCvy) rfl source e) rfl
  | acknowledgeGesture =>
    exact bothKept_of_convoy takeGesture_keepsConvoy e (execAcknowledgeGesture_frame (G := footCvy) rfl e) rfl
  | cvyHaltNotice =>
    exact bothKept_of_convoy (takeNotice_keepsConvoy _ onHaltNotice_keepsConvoy) e
      (execCvyHaltNotice_frame (G := footCvy) rfl e) rfl
  | clmTakesPosition => exact clmTakesPosition_bothKept e
  | clmTakesClaim => exact clmTakesClaim_bothKept e
  | clmTakesRelease => exact clmTakesRelease_bothKept e
  | clmSweep => exact clmSweep_bothKept e
  | claimWindow sec => exact claimWindow_bothKept sec e
  | clmClaimNotice =>
    exact bothKept_of_claims (takeNotice_keepsClaims _ onClaimNotice_keepsClaims) e
      (execClmClaimNotice_frame (G := footClm) rfl e) rfl
  | clmReleaseNotice =>
    exact bothKept_of_claims (takeNotice_keepsClaims _ fun _ _ => id)
      e (execClmReleaseNotice_frame (G := footClm) rfl e) rfl
  | addRequest slot => exact bothKept_of_frame (execAddRequest_frame (G := footAir) rfl slot e) rfl rfl
  | releaseAddRequest => exact bothKept_of_frame (execReleaseAddRequest_frame (G := footAir) rfl e) rfl rfl
  | positionAddRequest => exact bothKept_of_frame (execPositionAddRequest_frame (G := footAir) rfl e) rfl rfl
  | cancelRequest slot => exact bothKept_of_frame (execCancelRequest_frame (G := footAir) rfl slot e) rfl rfl
  | beaconTimer => exact bothKept_of_frame (execBeaconTimer_frame (G := footAir) rfl e) rfl rfl
  | beaconNotice => exact bothKept_of_frame (execBeaconNotice_frame (G := footAir) rfl e) rfl rfl
  | carrierAppears => exact bothKept_of_frame (execCarrierAppears_frame (G := footAir) rfl e) rfl rfl
  | carrierAbsent => exact bothKept_of_frame (execCarrierAbsent_frame (G := footAir) rfl e) rfl rfl
  | quietTimer => exact bothKept_of_frame (execQuietTimer_frame (G := footAir) rfl e) rfl rfl
  | countdownTick => exact bothKept_of_frame (execCountdownTick_frame (G := footAir) rfl e) rfl rfl
  | doneSignal => exact bothKept_of_frame (execDoneSignal_frame (G := footAir) rfl e) rfl rfl
  | transceiverTimeout => exact bothKept_of_frame (execTransceiverTimeout_frame (G := footAir) rfl e) rfl rfl
  | governorUpdate => exact governorUpdate_bothKept e
  | frameTimer => exact bothKept_of_frame (execFrameTimer_frame (G := footDrv) rfl e) rfl rfl
  | motorPulseEnd => exact bothKept_of_frame (execMotorPulseEnd_frame (G := footDrv) rfl e) rfl rfl
  | throttlePulse width => exact bothKept_of_frame (execThrottlePulse_frame (G := footDrv) rfl width e) rfl rfl
  | silenceTimer => exact bothKept_of_frame (execSilenceTimer_frame (G := footDrv) rfl e) rfl rfl
  | functionPulse width => exact bothKept_of_frame (execFunctionPulse_frame (G := footDrv) rfl width e) rfl rfl
  | functionSilenceTimer => exact bothKept_of_frame (execFunctionSilenceTimer_frame (G := footDrv) rfl e) rfl rfl
  | nodeFunctionChange =>
    exact bothKept_of_claims nodeTakesChange_keepsClaims
      e (execNodeFunctionChange_frame (G := footPark) rfl e) rfl
  | cycleTimer => exact bothKept_of_frame (execCycleTimer_frame (G := footTrl) rfl e) rfl rfl
  | poll r => exact bothKept_of_frame (execPoll_frame (G := footTrl) rfl r e) rfl rfl
  | discovery r => exact bothKept_of_frame (execDiscovery_frame (G := footTrl) rfl r e) rfl rfl
  | assign r => exact bothKept_of_frame (execAssign_frame (G := footTrl) rfl r e) rfl rfl
  | journalPost block => exact bothKept_of_frame (execJournalPost_frame (G := footPostTake) rfl block e) rfl rfl
  | status => exact bothKept_of_frame (execStatus_frame (G := footService) rfl e) rfl rfl
  | peers => exact bothKept_of_frame (execPeers_frame (G := footService) rfl e) rfl rfl
  | claims => exact bothKept_of_frame (execClaims_frame (G := footService) rfl e) rfl rfl
  | roster => exact bothKept_of_frame (execRoster_frame (G := footService) rfl e) rfl rfl
  | trailers => exact bothKept_of_frame (execTrailers_frame (G := footService) rfl e) rfl rfl
  | journal => exact bothKept_of_frame (execJournal_frame (G := footService) rfl e) rfl rfl
  | counters => exact bothKept_of_frame (execCounters_frame (G := footService) rfl e) rfl rfl
  | ack index => exact bothKept_of_frame (execAck_frame (G := footAck) rfl index e) rfl rfl
  | clearCounters => exact bothKept_of_frame (execClearCounters_frame (G := footClear) rfl e) rfl rfl
  | restart => exact bothKept_of_frame (execRestart_frame (G := footService) rfl e) rfl rfl
  | unknown => exact bothKept_of_frame (execUnknown_frame (G := footService) rfl e) rfl rfl
  | busy => exact bothKept_of_frame (execBusy_frame (G := footService) rfl e) rfl rfl
  | tagGainsLine gain => exact bothKept_of_frame (execTagGainsLine_frame (G := footTrl) rfl gain e) rfl rfl
  | tagLosesLine place => exact bothKept_of_frame (execTagLosesLine_frame (G := footTrl) rfl place e) rfl rfl
  | answerEnded => exact bothKept_of_frame (execAnswerEnded_frame (G := footService) rfl e) rfl rfl

/-- The idle node queues what is due, goes on with a pop, or lets a millisecond pass, in which of CVY and
CLM the sweep timers alone change. -/
theorem idle_bothKept (s : State) : BothKept s (idle s) := by
  unfold idle
  split
  · split
    · exact bothKept_of_frame (popResumes_frame (G := footTrl) rfl s) rfl rfl
    · unfold tick
      split
      · exact ⟨id, id⟩
      · exact ⟨fun h => { h with }, fun h => { h with }⟩
  · exact ⟨id, id⟩

/-- Settles O56: a step is the idle node's or the command's at the front of the queue, and either keeps
both invariants. -/
theorem stepsKeepConvoyAndClaims : Obligations.StepsKeepConvoyAndClaims := by
  intro s t e
  unfold step at e
  split at e
  · cases e
    exact idle_bothKept s
  · next c rest _ => exact exec_bothKept c (s := s.setPending rest) e

end Sys2Proof.Proofs
end

section
/-! PROOFS. What a POSITION does to CVY (R84 to R91, R94): leading and rank propagation, then the roster, then
the lifting of its source's halt. One equation for each outcome of each of these operations. -/

namespace Sys2Proof.Proofs

open Sys2Proof.Machine Sys2Proof.Laws

/-! ## Taking a POSITION -/

/-- The state with the oldest copy gone from CVY's queue (R36). -/
def cvyPopped (rest : List Received) (s : State) : State := s.setAir { s.air with cvyQueue := rest }

/-- A fresh POSITION applied in the order of R84. -/
def beaconApplied (station : Nat) (b : Beacon) (received : Time) (s : State) : State :=
  haltEndsByBeacon station b (membership station b received (leadOrPropagate station b s))

section Taken

variable {s : State} {st num : Nat} {b : Beacon} {tm : Time} {rest : List Received}

theorem exec_cvyTakesPosition (hup : s.held = false)
    (hqueue : s.air.cvyQueue = ⟨⟨st, num, .position b⟩, tm⟩ :: rest) :
    exec .cvyTakesPosition s = .next (cvyTakePosition st b tm (cvyPopped rest s)) := by
  refine (whileUp_up hup _).trans ?_
  simp only [cvyTakes, hqueue]
  rfl

theorem exec_cvyTakesPosition_stale (hup : s.held = false)
    (hqueue : s.air.cvyQueue = ⟨⟨st, num, .position b⟩, tm⟩ :: rest)
    (hstale : isFresh s.time tm (lapseTime s b.parked) ≠ true) :
    exec .cvyTakesPosition s = .next (cvyPopped rest s) :=
  (exec_cvyTakesPosition hup hqueue).trans (congrArg _ (if_neg hstale))

theorem exec_cvyTakesPosition_fresh (hup : s.held = false)
    (hqueue : s.air.cvyQueue = ⟨⟨st, num, .position b⟩, tm⟩ :: rest)
    (hfresh : isFresh s.time tm (lapseTime s b.parked) = true) :
    exec .cvyTakesPosition s = .next (beaconApplied st b tm (cvyPopped rest s)) :=
  (exec_cvyTakesPosition hup hqueue).trans (congrArg _ (if_pos hfresh))

end Taken

/-- A clear HALTED flag lifts the source's halt (R94). -/
theorem haltEndsByBeacon_eq (station : Nat) (b : Beacon) (s : State) : haltEndsByBeacon station b s =
    { s with cvy := { s.cvy with
      foreign := if b.halted then s.cvy.foreign else s.cvy.foreign.filter (fun x => x.1 != station) } } := by
  unfold haltEndsByBeacon
  split <;> rfl

/-! ## Telling a new convoy (R95) -/

/-- A state with a new record and mail, in which a standing own halt has been told to the convoy. -/
def convoyTold (c : Cvy) (m : Mail) (s : State) : State :=
  match s.cvy.own.first with
  | none => { s with cvy := c, mail := m }
  | some cause => { s with
    cvy := { c with retryUsed := false }
    mail := { m with haltRequests := m.haltRequests ++ [.add (.halt cause)] } }

theorem tellNewConvoy_eq (s : State) : tellNewConvoy s = convoyTold s.cvy s.mail s := by
  unfold tellNewConvoy convoyTold
  cases s.cvy.own.first <;> rfl

/-! ## Leading and rank propagation (R85, R86) -/

theorem leadOrPropagate_leads {s : State} {station : Nat} {b : Beacon} (hsolo : s.cvy.role = .solo)
    (hpred : b.pred = ownStation s) (hconvoy : b.convoy = ownStation s) :
    leadOrPropagate station b s = becomeLeader station s := by
  rw [leadOrPropagate, hsolo]
  exact if_pos ⟨hpred, hconvoy⟩

theorem leadOrPropagate_alone {s : State} {station : Nat} {b : Beacon} (hsolo : s.cvy.role = .solo)
    (hnamed : ¬(b.pred = ownStation s ∧ b.convoy = ownStation s)) : leadOrPropagate station b s = s := by
  rw [leadOrPropagate, hsolo]
  exact if_neg hnamed

theorem leadOrPropagate_pred {s : State} {b : Beacon} (hrole : s.cvy.role = .follower) :
    leadOrPropagate s.cvy.pred b s = propagate b s := by
  rw [leadOrPropagate, hrole]
  exact if_pos rfl

/-- A LEADER, and a FOLLOWER that hears another than its pred, keeps its role record (R84). -/
theorem leadOrPropagate_keeps {s : State} {station : Nat} {b : Beacon}
    (h : s.cvy.role = .leader ∨ (s.cvy.role = .follower ∧ station ≠ s.cvy.pred)) :
    leadOrPropagate station b s = s := by
  rcases h with hrole | ⟨hrole, hother⟩
  · rw [leadOrPropagate, hrole]
  · rw [leadOrPropagate, hrole]
    exact if_neg hother

section Derived

variable {s : State} {b : Beacon} {convoy rank : Nat} (hderived : derived s.cvy.pred b = (convoy, rank))
include hderived

theorem propagate_leaves (hrank : rank > 8) : propagate b s = leave .rankLimit s := by
  simp only [propagate, hderived]
  exact if_pos hrank

theorem propagate_sameConvoy (hrank : rank ≤ 8) (hconvoy : convoy = s.cvy.convoy) :
    propagate b s = s.setCvy { s.cvy with rank := rank } := by
  simp only [propagate, hderived]
  exact (if_neg (Nat.not_lt.mpr hrank)).trans (if_pos hconvoy)

theorem propagate_newConvoy (hrank : rank ≤ 8) (hconvoy : convoy ≠ s.cvy.convoy) :
    propagate b s = tellNewConvoy (post .cvy .convoyJoined (.num s.cvy.pred) (.num convoy) (.num rank)
      (s.setCvy { s.cvy with convoy := convoy, rank := rank, members := [], foreign := [] })) := by
  simp only [propagate, hderived]
  exact (if_neg (Nat.not_lt.mpr hrank)).trans (if_neg hconvoy)

end Derived

theorem derived_eq (pred : Nat) (b : Beacon) : derived pred b =
    (if b.convoy = 0 then pred else b.convoy, if b.convoy = 0 then 2 else b.rank + 1) := by
  unfold derived
  split <;> rfl

/-! ## The leader test (R87) -/

theorem leaderTest_stays {s : State} (h : s.cvy.role = .leader →
    ∃ m ∈ s.cvy.members, m.pred = ownStation s ∧ memberFresh s m = true) : leaderTest s = s := by
  refine if_neg fun ⟨hrole, hnone⟩ => hnone ?_
  obtain ⟨m, hm, hpred, hfresh⟩ := h hrole
  exact List.any_eq_true.mpr ⟨m, hm, by simp [hpred, hfresh]⟩

theorem leaderTest_leaves {s : State} (hrole : s.cvy.role = .leader)
    (h : ¬∃ m ∈ s.cvy.members, m.pred = ownStation s ∧ memberFresh s m = true) :
    leaderTest s = leave .noFollower s := by
  refine if_pos ⟨hrole, fun hsome => h ?_⟩
  obtain ⟨m, hm, hboth⟩ := List.any_eq_true.mp hsome
  rw [Bool.and_eq_true, beq_iff_eq] at hboth
  exact ⟨m, hm, hboth.symm⟩

theorem leaderTest_follower {s : State} (hrole : s.cvy.role ≠ .leader) : leaderTest s = s :=
  leaderTest_stays fun h => absurd h hrole

/-! ## The roster (R89, R90) -/

theorem membership_solo {s : State} {station : Nat} {b : Beacon} {tm : Time} (hsolo : s.cvy.role = .solo) :
    membership station b tm s = s :=
  if_pos hsolo

section Roster

variable {s : State} {station : Nat} {b : Beacon} {tm : Time}

theorem membership_unknown (hrole : s.cvy.role ≠ .solo) (hnew : ¬∃ m ∈ s.cvy.members, m.station = station) :
    membership station b tm s =
      if b.convoy ≠ s.cvy.convoy then s
      else if s.cvy.members.length + 1 < 8 then
        setMembers (insertMember s.pos.sections (Member.of station b tm) s.cvy.members) s
      else fullRoster (Member.of station b tm) s := by
  have hfind : s.cvy.members.find? (fun x => x.station == station) = none := by simpa using hnew
  rw [membership, if_neg hrole]
  simp only [hfind]

/-- A stranger of another convoy stays out. -/
theorem membership_stranger (hrole : s.cvy.role ≠ .solo) (hnew : ¬∃ m ∈ s.cvy.members, m.station = station)
    (hconvoy : b.convoy ≠ s.cvy.convoy) : membership station b tm s = s :=
  (membership_unknown hrole hnew).trans (if_pos hconvoy)

/-- A newcomer of the convoy enters a roster with room. -/
theorem membership_newcomer (hrole : s.cvy.role ≠ .solo) (hnew : ¬∃ m ∈ s.cvy.members, m.station = station)
    (hconvoy : b.convoy = s.cvy.convoy) (hroom : s.cvy.members.length < 7) : membership station b tm s =
      setMembers (insertMember s.pos.sections (Member.of station b tm) s.cvy.members) s :=
  (membership_unknown hrole hnew).trans ((if_neg (not_not.mpr hconvoy)).trans (if_pos (by omega)))

theorem membership_full (hrole : s.cvy.role ≠ .solo) (hnew : ¬∃ m ∈ s.cvy.members, m.station = station)
    (hconvoy : b.convoy = s.cvy.convoy) (hfull : s.cvy.members.length ≥ 7) :
    membership station b tm s = fullRoster (Member.of station b tm) s :=
  (membership_unknown hrole hnew).trans ((if_neg (not_not.mpr hconvoy)).trans (if_neg (by omega)))

/-- A full roster whose last member is of no higher rank stays as it is. -/
theorem membership_full_keeps (hrole : s.cvy.role ≠ .solo) (hnew : ¬∃ m ∈ s.cvy.members, m.station = station)
    (hconvoy : b.convoy = s.cvy.convoy) (hfull : s.cvy.members.length ≥ 7) {front : List Member} {last : Member}
    (hmembers : s.cvy.members = front ++ [last]) (hrank : last.rank ≤ b.rank) : membership station b tm s = s := by
  rw [membership_full hrole hnew hconvoy hfull, fullRoster, hmembers, List.getLast?_concat]
  exact if_neg (Nat.not_lt.mpr hrank)

/-- The last member of a full roster gives way to a newcomer of lower rank. -/
theorem membership_full_replaces (hrole : s.cvy.role ≠ .solo) (hnew : ¬∃ m ∈ s.cvy.members, m.station = station)
    (hconvoy : b.convoy = s.cvy.convoy) (hfull : s.cvy.members.length ≥ 7) {front : List Member} {last : Member}
    (hmembers : s.cvy.members = front ++ [last]) (hrank : b.rank < last.rank) : membership station b tm s =
      leaderTest (setMembers (insertMember s.pos.sections (Member.of station b tm) front) s) := by
  rw [membership_full hrole hnew hconvoy hfull, fullRoster, hmembers, List.getLast?_concat, List.dropLast_concat]
  exact if_pos hrank

theorem membership_known (hrole : s.cvy.role ≠ .solo) (hknown : ∃ m ∈ s.cvy.members, m.station = station) :
    ∃ old ∈ s.cvy.members, old.station = station ∧ membership station b tm s =
      if b.convoy = s.cvy.convoy then
        let s' := setMembers
          (insertMember s.pos.sections (Member.of station b tm) (without station s.cvy.members)) s
        if old.pred = b.pred then s' else leaderTest s'
      else leaderTest (setMembers (without station s.cvy.members) s) := by
  obtain ⟨old, hfind⟩ : ∃ old, s.cvy.members.find? (fun x => x.station == station) = some old :=
    Option.isSome_iff_exists.mp (by simpa using hknown)
  refine ⟨old, List.mem_of_find?_eq_some hfind, by simpa using List.find?_some hfind, ?_⟩
  rw [membership, if_neg hrole]
  simp only [hfind]
  rfl

/-- A member heard in another convoy leaves the roster. -/
theorem membership_departed (hrole : s.cvy.role ≠ .solo) (hknown : ∃ m ∈ s.cvy.members, m.station = station)
    (hconvoy : b.convoy ≠ s.cvy.convoy) :
    membership station b tm s = leaderTest (setMembers (without station s.cvy.members) s) := by
  obtain ⟨old, -, -, h⟩ := membership_known (b := b) (tm := tm) hrole hknown
  exact h.trans (if_neg hconvoy)

/-- A member heard in the convoy takes its place anew, tested for a LEADER when its pred has changed. -/
theorem membership_refreshed (hrole : s.cvy.role ≠ .solo) (hknown : ∃ m ∈ s.cvy.members, m.station = station)
    (hconvoy : b.convoy = s.cvy.convoy) : ∃ old ∈ s.cvy.members, old.station = station ∧
      membership station b tm s =
        let s' := setMembers
          (insertMember s.pos.sections (Member.of station b tm) (without station s.cvy.members)) s
        if old.pred = b.pred then s' else leaderTest s' := by
  obtain ⟨old, hold, hstation, h⟩ := membership_known (b := b) (tm := tm) hrole hknown
  exact ⟨old, hold, hstation, h.trans (if_pos hconvoy)⟩

/-- A member that stays with what the leader test asks for. -/
theorem membership_refreshed_stays (hrole : s.cvy.role ≠ .solo) (hknown : ∃ m ∈ s.cvy.members, m.station = station)
    (hconvoy : b.convoy = s.cvy.convoy)
    (htest : leaderTest (setMembers
        (insertMember s.pos.sections (Member.of station b tm) (without station s.cvy.members)) s) =
        setMembers (insertMember s.pos.sections (Member.of station b tm) (without station s.cvy.members)) s ∨
      ∀ m ∈ s.cvy.members, m.station = station → m.pred = b.pred) :
    membership station b tm s =
      setMembers (insertMember s.pos.sections (Member.of station b tm) (without station s.cvy.members)) s := by
  obtain ⟨old, hold, hstation, h⟩ := membership_refreshed (tm := tm) hrole hknown hconvoy
  rw [h]
  dsimp only
  split
  · rfl
  · next hpred => exact htest.resolve_right fun hsame => hpred (hsame old hold hstation)

theorem membership_refreshed_tested (hrole : s.cvy.role ≠ .solo) (hknown : ∃ m ∈ s.cvy.members, m.station = station)
    (hconvoy : b.convoy = s.cvy.convoy) (hpred : ∀ m ∈ s.cvy.members, m.station = station → m.pred ≠ b.pred) :
    membership station b tm s = leaderTest (setMembers
      (insertMember s.pos.sections (Member.of station b tm) (without station s.cvy.members)) s) := by
  obtain ⟨old, hold, hstation, h⟩ := membership_refreshed (tm := tm) hrole hknown hconvoy
  exact h.trans (if_neg (hpred old hold hstation))

end Roster

theorem without_eq_self {station : Nat} {ms : List Member} (h : ¬∃ m ∈ ms, m.station = station) :
    without station ms = ms :=
  List.filter_eq_self.mpr fun m hm => by simpa using fun hstation => h ⟨m, hm, hstation⟩

/-! ### A FOLLOWER's roster, which no leader test ends -/

section Follower

variable {s : State} {station : Nat} {b : Beacon} {tm : Time} (hrole : s.cvy.role = .follower)
include hrole

theorem leaderTest_setMembers_follower (ms : List Member) : leaderTest (setMembers ms s) = setMembers ms s :=
  leaderTest_follower (by simp [setMembers, hrole])

theorem follower_ne_solo : s.cvy.role ≠ .solo := by simp [hrole]

/-- The source of a POSITION of the convoy is put in its place beside the others, known before or with room
for it. -/
theorem membership_follower (hconvoy : b.convoy = s.cvy.convoy)
    (hroom : (∃ m ∈ s.cvy.members, m.station = station) ∨ s.cvy.members.length < 7) : membership station b tm s =
      setMembers (insertMember s.pos.sections (Member.of station b tm) (without station s.cvy.members)) s := by
  by_cases hknown : ∃ m ∈ s.cvy.members, m.station = station
  · exact membership_refreshed_stays (follower_ne_solo hrole) hknown hconvoy
      (.inl (leaderTest_setMembers_follower hrole _))
  · rw [without_eq_self hknown]
    exact membership_newcomer (follower_ne_solo hrole) hknown hconvoy (hroom.resolve_left hknown)

/-- The source of a POSITION of another convoy leaves the roster. -/
theorem membership_follower_departed (hconvoy : b.convoy ≠ s.cvy.convoy) :
    membership station b tm s = setMembers (without station s.cvy.members) s := by
  by_cases hknown : ∃ m ∈ s.cvy.members, m.station = station
  · exact (membership_departed (follower_ne_solo hrole) hknown hconvoy).trans
      (leaderTest_setMembers_follower hrole _)
  · rw [without_eq_self hknown]
    exact membership_stranger (follower_ne_solo hrole) hknown hconvoy

theorem membership_follower_full (hconvoy : b.convoy = s.cvy.convoy)
    (hnew : ¬∃ m ∈ s.cvy.members, m.station = station) (hfull : s.cvy.members.length ≥ 7) {front : List Member}
    {last : Member} (hmembers : s.cvy.members = front ++ [last]) : membership station b tm s = setMembers
      (if b.rank < last.rank then insertMember s.pos.sections (Member.of station b tm) front
        else s.cvy.members) s := by
  split
  · next hlower =>
    exact (membership_full_replaces (follower_ne_solo hrole) hnew hconvoy hfull hmembers hlower).trans
      (leaderTest_setMembers_follower hrole _)
  · next hlower =>
    exact membership_full_keeps (follower_ne_solo hrole) hnew hconvoy hfull hmembers (Nat.not_lt.mp hlower)

/-- Whatever a POSITION does, the members alone change. -/
theorem membership_follower_eq (station : Nat) (b : Beacon) (tm : Time) :
    ∃ ms, membership station b tm s = setMembers ms s := by
  by_cases hconvoy : b.convoy = s.cvy.convoy
  · by_cases hroom : (∃ m ∈ s.cvy.members, m.station = station) ∨ s.cvy.members.length < 7
    · exact ⟨_, membership_follower hrole hconvoy hroom⟩
    · obtain ⟨hnew, hfull⟩ := not_or.mp hroom
      obtain hnil | ⟨front, last, hmembers⟩ := s.cvy.members.eq_nil_or_concat'
      · simp [hnil] at hfull
      · exact ⟨_, membership_follower_full hrole hconvoy hnew (Nat.not_lt.mp hfull) hmembers⟩
  · exact ⟨_, membership_follower_departed hrole hconvoy⟩

end Follower

/-- In an empty roster the source of a POSITION of the convoy is the one member. -/
theorem membership_empty {s : State} (hrole : s.cvy.role ≠ .solo) (hmembers : s.cvy.members = []) (station : Nat)
    (b : Beacon) (tm : Time) : membership station b tm s =
      setMembers (if b.convoy = s.cvy.convoy then [Member.of station b tm] else []) s := by
  have hnew : ¬∃ m ∈ s.cvy.members, m.station = station := by simp [hmembers]
  split
  · next hconvoy =>
    rw [membership_newcomer hrole hnew hconvoy (by simp [hmembers]), hmembers]
    rfl
  · next hconvoy =>
    rw [membership_stranger hrole hnew hconvoy, ← hmembers]
    rfl

/-! ## A fresh POSITION, by the role -/

section Applied

variable {s : State} {st : Nat} {b : Beacon} {tm : Time}

/-- The foreign halts after a POSITION: a clear HALTED flag lifts its source's (R94). -/
def foreignAfter (st : Nat) (b : Beacon) (foreign : List (Nat × HaltCause)) : List (Nat × HaltCause) :=
  if b.halted then foreign else foreign.filter (fun x => x.1 != st)

theorem beaconApplied_leads (hsolo : s.cvy.role = .solo) (hpred : b.pred = ownStation s)
    (hconvoy : b.convoy = ownStation s) : beaconApplied st b tm s = convoyTold
      { s.cvy with
        role := .leader
        convoy := ownStation s
        rank := 1
        pred := 0
        members := [Member.of st b tm]
        foreign := foreignAfter st b s.cvy.foreign }
      { s.mail with posts := s.mail.posts ++ [⟨.cvy, .convoyLed, .num st, .num 0, .num 0⟩] } s := by
  rw [beaconApplied, leadOrPropagate_leads hsolo hpred hconvoy, becomeLeader, tellNewConvoy_eq, convoyTold,
    convoyTold]
  dsimp only [post_cvy, State.setCvy_cvy]
  split <;> rw [membership_empty (by simp) rfl, haltEndsByBeacon_eq, if_pos hconvoy] <;> rfl

theorem beaconApplied_alone (hsolo : s.cvy.role = .solo)
    (hnamed : ¬(b.pred = ownStation s ∧ b.convoy = ownStation s)) :
    beaconApplied st b tm s = { s with cvy := { s.cvy with foreign := foreignAfter st b s.cvy.foreign } } := by
  rw [beaconApplied, leadOrPropagate_alone hsolo hnamed, membership_solo hsolo, haltEndsByBeacon_eq]
  rfl

/-- A node that has left lifts no halt, and takes no member. -/
theorem haltEndsByBeacon_leave (cause : LeaveCause) :
    haltEndsByBeacon st b (leave cause s) = leave cause s := by
  rw [haltEndsByBeacon_eq, leave_cvy]
  simp only [List.filter_nil, ite_self]
  rfl

theorem beaconApplied_leaves (hrole : s.cvy.role = .follower) {convoy rank : Nat}
    (hderived : derived s.cvy.pred b = (convoy, rank)) (hrank : rank > 8) :
    beaconApplied s.cvy.pred b tm s = leave .rankLimit s := by
  rw [beaconApplied, leadOrPropagate_pred hrole, propagate_leaves hderived hrank, membership_solo rfl,
    haltEndsByBeacon_leave]

theorem beaconApplied_newConvoy (hrole : s.cvy.role = .follower) {convoy rank : Nat}
    (hderived : derived s.cvy.pred b = (convoy, rank)) (hrank : rank ≤ 8) (hconvoy : convoy ≠ s.cvy.convoy) :
    beaconApplied s.cvy.pred b tm s = convoyTold
      { s.cvy with
        convoy := convoy
        rank := rank
        members := if b.convoy = convoy then [Member.of s.cvy.pred b tm] else []
        foreign := [] }
      { s.mail with posts := s.mail.posts ++
        [⟨.cvy, .convoyJoined, .num s.cvy.pred, .num convoy, .num rank⟩] } s := by
  rw [beaconApplied, leadOrPropagate_pred hrole, propagate_newConvoy hderived hrank hconvoy, tellNewConvoy_eq,
    convoyTold, convoyTold]
  dsimp only [post_cvy, State.setCvy_cvy]
  split <;> rw [membership_empty (by simp [hrole]) rfl, haltEndsByBeacon_eq] <;>
    simp only [setMembers, State.setCvy_cvy, List.filter_nil, ite_self] <;> rfl

/-- In an unchanged convoy a pred's POSITION moves the rank, the roster and the foreign halts alone. -/
theorem beaconApplied_sameConvoy (hrole : s.cvy.role = .follower) {convoy rank : Nat}
    (hderived : derived s.cvy.pred b = (convoy, rank)) (hrank : rank ≤ 8) (hconvoy : convoy = s.cvy.convoy)
    {ms : List Member} (hms : membership s.cvy.pred b tm (s.setCvy { s.cvy with rank := rank }) =
      setMembers ms (s.setCvy { s.cvy with rank := rank })) :
    beaconApplied s.cvy.pred b tm s = { s with cvy := { s.cvy with
      rank := rank
      members := ms
      foreign := foreignAfter s.cvy.pred b s.cvy.foreign } } := by
  rw [beaconApplied, leadOrPropagate_pred hrole, propagate_sameConvoy hderived hrank hconvoy, hms,
    haltEndsByBeacon_eq]
  rfl

/-- A POSITION that leaves the role record alone and changes the members. -/
theorem beaconApplied_roster (hrole : s.cvy.role = .leader ∨ (s.cvy.role = .follower ∧ st ≠ s.cvy.pred))
    {ms : List Member} (hms : membership st b tm s = setMembers ms s) : beaconApplied st b tm s =
      { s with cvy := { s.cvy with members := ms, foreign := foreignAfter st b s.cvy.foreign } } := by
  rw [beaconApplied, leadOrPropagate_keeps hrole, hms, haltEndsByBeacon_eq]
  rfl

end Applied

/-- Settles O26: each clause is one outcome of the operations of R84, taken in their order. -/
theorem beaconsMakeLeadersAndMoveFollowers : Obligations.BeaconsMakeLeadersAndMoveFollowers := by
  intro st num b tm rest s hup hqueue own a fresh popped member lifted others known told posted convoy rank result
  have hstale (h : ¬fresh) : result = .next popped :=
    exec_cvyTakesPosition_stale hup hqueue fun hfresh => h (of_decide_eq_true hfresh)
  have hheard (h : fresh) : result = .next (beaconApplied st b tm (cvyPopped rest s)) :=
    exec_cvyTakesPosition_fresh hup hqueue (decide_eq_true h)
  have hderived : derived s.cvy.pred b = (convoy, rank) := derived_eq _ _
  refine ⟨hstale, fun hfresh hsolo hpred hconvoy => ?_, fun hfresh hsolo hnamed => ?_,
    fun hfresh hrole hst hrank => ?_, fun hfresh hrole hst hrank hconvoy => ?_, fun hfresh hrole hst hrank hconvoy => ?_⟩
  · exact (hheard hfresh).trans (congrArg _ (beaconApplied_leads (s := cvyPopped rest s) hsolo hpred hconvoy))
  · exact (hheard hfresh).trans (congrArg _ (beaconApplied_alone (s := cvyPopped rest s) hsolo hnamed))
  · subst hst
    exact (hheard hfresh).trans (congrArg _ (beaconApplied_leaves (s := cvyPopped rest s) hrole hderived hrank))
  · subst hst
    exact (hheard hfresh).trans
      (congrArg _ (beaconApplied_newConvoy (s := cvyPopped rest s) hrole hderived hrank hconvoy))
  · subst hst
    let moved := (cvyPopped rest s).setCvy { s.cvy with rank := rank }
    have hfollows : moved.cvy.role = .follower := hrole
    obtain ⟨ms, hms⟩ := membership_follower_eq hfollows s.cvy.pred b tm
    have hmembers {ms' : List Member} (h : membership s.cvy.pred b tm moved = setMembers ms' moved) : ms = ms' :=
      congrArg (fun t : State => t.cvy.members) (hms.symm.trans h)
    refine ⟨_, (hheard hfresh).trans (congrArg _ (beaconApplied_sameConvoy (s := cvyPopped rest s) hrole hderived
      hrank hconvoy hms)), rfl, rfl, fun hother => ?_, fun hsame hroom => ?_,
      fun hsame hnew hfull front last hlast => ?_⟩
    · exact hmembers (membership_follower_departed hfollows (hconvoy ▸ hother))
    · exact hmembers (membership_follower hfollows (hsame.trans hconvoy) hroom)
    · exact hmembers (membership_follower_full hfollows (hsame.trans hconvoy) hnew hfull hlast)

/-! ## The order of the roster (R91) -/

theorem progress_eq (sections : List SectionEntry) (sec : Nat) (f : Facing) (d : Nat) :
    progress sections sec f d = if f = .fwd then (d : Int) else
      (if (sectionAt sections sec).kind = .absent then 0 else ((sectionAt sections sec).length : Int)) - d := by
  cases f with
  | fwd => rfl
  | rev => simp only [progress, reduceCtorEq, if_false, Nat.cast_ite, Nat.cast_zero]

theorem memberBefore_iff (sections : List SectionEntry) (a b : Member) : a.before sections b = true ↔
    a.rank < b.rank ∨ (a.rank = b.rank ∧
      (progress sections a.sec a.facing a.distance > progress sections b.sec b.facing b.distance ∨
        (progress sections a.sec a.facing a.distance = progress sections b.sec b.facing b.distance ∧
          a.station < b.station))) :=
  decide_eq_true_iff

/-- A member before another stands before all that stand behind that one. -/
theorem memberBefore_trans {sections : List SectionEntry} {m x y : Member} (hmx : m.before sections x = true)
    (hxy : y.before sections x = false) : y.before sections m = false := by
  rw [Bool.eq_false_iff, Ne, memberBefore_iff] at hxy ⊢
  rw [memberBefore_iff] at hmx
  omega

theorem memberBefore_self (sections : List SectionEntry) (m : Member) : m.before sections m = false := by
  rw [Bool.eq_false_iff, Ne, memberBefore_iff]
  omega

/-- The first of two members in roster order does not stand behind the second. -/
def InRosterOrder (sections : List SectionEntry) (a b : Member) : Prop := b.before sections a = false

theorem insertMember_inOrder {sections : List SectionEntry} {m : Member} {ms : List Member}
    (h : ms.Pairwise (InRosterOrder sections)) :
    (insertMember sections m ms).Pairwise (InRosterOrder sections) := by
  induction ms with
  | nil => exact List.pairwise_singleton _ _
  | cons x xs ih =>
    obtain ⟨hx, hxs⟩ := List.pairwise_cons.mp h
    unfold insertMember
    split
    · next hmx =>
      refine List.pairwise_cons.mpr ⟨fun y hy => ?_, h⟩
      rcases List.mem_cons.mp hy with rfl | hy
      · exact memberBefore_trans hmx (memberBefore_self _ _)
      · exact memberBefore_trans hmx (hx y hy)
    · next hmx =>
      refine List.pairwise_cons.mpr ⟨fun y hy => ?_, ih hxs⟩
      rcases List.mem_cons.mp ((insertMember_perm sections m xs).mem_iff.mp hy) with rfl | hy
      · exact Bool.eq_false_iff.mpr hmx
      · exact hx y hy

/-! ## Leaving for want of a follower (R87) -/

theorem beaconApplied_noFollower {s : State} {st : Nat} {b : Beacon} {tm : Time} (hrole : s.cvy.role = .leader)
    {ms : List Member} (hms : membership st b tm s = leaderTest (setMembers ms s))
    (hnone : ¬∃ m ∈ ms, m.pred = ownStation s ∧ memberFresh s m = true) :
    beaconApplied st b tm s = leave .noFollower (setMembers ms s) := by
  rw [beaconApplied, leadOrPropagate_keeps (.inl hrole), hms,
    leaderTest_leaves (s := setMembers ms s) hrole hnone, haltEndsByBeacon_leave]

/-- Settles O27: each clause is one outcome of the roster's membership with or without the leader test, and the
roster order is kept by an insertion. -/
theorem membershipFollowsTheConvoy : Obligations.MembershipFollowsTheConvoy := by
  refine ⟨?_, fun sections m ms => ⟨fun a b => ?_, insertMember_perm sections m ms, insertMember_inOrder⟩⟩
  · intro st num b tm rest s hup hqueue hfresh hrole member lifted others known popped roster leads left result
    let p := cvyPopped rest s
    have hheard : result = .next (beaconApplied st b tm p) := exec_cvyTakesPosition_fresh hup hqueue hfresh
    have hsolo : p.cvy.role ≠ .solo := by
      rcases hrole with h | ⟨h, -⟩ <;> simp [p, cvyPopped, h]
    have hroster {ms : List Member} (h : membership st b tm p = setMembers ms p) : result = roster ms :=
      hheard.trans (congrArg _ (beaconApplied_roster (s := p) hrole h))
    have hleft {ms : List Member} (hleader : s.cvy.role = .leader)
        (h : membership st b tm p = leaderTest (setMembers ms p)) (hnone : ¬leads ms) : result = left :=
      hheard.trans (congrArg _ (beaconApplied_noFollower (s := p) (ms := ms) hleader h hnone))
    have htest {ms : List Member} (h : s.cvy.role = .leader → leads ms) :
        leaderTest (setMembers ms p) = setMembers ms p :=
      leaderTest_stays (s := setMembers ms p) h
    refine ⟨fun hconvoy hnew => ?_, fun hconvoy hnew hroom => ?_,
      fun hconvoy hnew hfull front last hlast hrank => ?_,
      fun hconvoy hnew hfull front last hlast hrank hleads => ?_,
      fun hconvoy hnew hfull front last hlast hrank hleader hnone => ?_, fun hconvoy hknown hleads => ?_,
      fun hconvoy hknown hleads => ?_, fun hconvoy hknown hleader hnone => ?_,
      fun hconvoy hknown hleader hpred hnone => ?_⟩
    · exact hroster (membership_stranger hsolo hnew hconvoy)
    · exact hroster (membership_newcomer hsolo hnew hconvoy hroom)
    · exact hroster (membership_full_keeps hsolo hnew hconvoy hfull hlast hrank)
    · exact hroster ((membership_full_replaces hsolo hnew hconvoy hfull hlast hrank).trans (htest hleads))
    · exact hleft hleader (membership_full_replaces hsolo hnew hconvoy hfull hlast hrank) hnone
    · refine hroster (membership_refreshed_stays hsolo hknown hconvoy ?_)
      by_cases hsame : ∀ m ∈ s.cvy.members, m.station = st → m.pred = b.pred
      · exact .inr hsame
      · exact .inl (htest fun hleader => (hleads hleader).resolve_right hsame)
    · exact hroster ((membership_departed hsolo hknown hconvoy).trans (htest hleads))
    · exact hleft hleader (membership_departed hsolo hknown hconvoy) hnone
    · exact hleft hleader (membership_refreshed_tested hsolo hknown hconvoy hpred) hnone
  · simpa only [progress_eq] using memberBefore_iff sections a b

end Sys2Proof.Proofs
end

section
/-! PROOFS. The role check and the function change (R79 to R83): joining behind the rig ahead, and the leave
tests in their order. -/

namespace Sys2Proof.Proofs

open Sys2Proof.Machine Sys2Proof.Laws

/-! ## Joining (R80) -/

theorem joinable_iff (s : State) (a : Ahead) : joinable s a = true ↔
    s.drv.position = .convoy ∧ s.pos.record.validity = .valid ∧ haltSetEmpty s.cvy = true ∧
      a.gap ≤ s.node.settings.joinGap ∧ a.entry.parked = false ∧ a.entry.halted = false ∧ a.entry.rank < 8 ∧
      a.entry.convoy ≠ ownStation s ∧ a.entry.pred ≠ ownStation s := by
  simp only [joinable, Bool.and_eq_true, beq_iff_eq, bne_iff_ne, Bool.not_eq_true', decide_eq_true_eq, and_assoc]

theorem roleCheck_leader {s : State} (hrole : s.cvy.role = .leader) : roleCheck s = s := by
  rw [roleCheck, hrole]

theorem roleCheck_joins {s : State} {a : Ahead} (hsolo : s.cvy.role = .solo) (hahead : rigAhead s = some a)
    (hjoin : joinable s a = true) : roleCheck s = join a.entry s := by
  rw [roleCheck, hsolo]
  simp only [joinTest, hahead, hjoin, if_true]

theorem roleCheck_alone {s : State} (hsolo : s.cvy.role = .solo)
    (hnone : ∀ a, rigAhead s = some a → joinable s a ≠ true) : roleCheck s = s := by
  rw [roleCheck, hsolo]
  dsimp only [joinTest]
  split
  · rfl
  · next a hahead => exact if_neg (hnone a hahead)

/-! ## Leaving (R81, R82) -/

theorem roleCheck_leaves {s : State} {c : LeaveCause} (hrole : s.cvy.role = .follower)
    (hcause : leaveCause s = some c) : roleCheck s = leave c s := by
  rw [roleCheck, hrole]
  simp only [hcause]

theorem roleCheck_stays {s : State} (hrole : s.cvy.role = .follower) (hcause : leaveCause s = none) :
    roleCheck s = s := by
  rw [roleCheck, hrole]
  simp only [hcause]

/-- FUNCTION: the function position is not CONVOY. -/
theorem functionAway_iff (s : State) :
    (s.drv.position = .solo ∨ s.drv.position = .park) ↔ s.drv.position ≠ .convoy := by
  cases s.drv.position <;> decide

/-- PRED_LAPSED: pred has no fresh peer entry. -/
theorem predLapsed_iff (s : State) : (¬(peerOf s s.cvy.pred).any (peerFresh s) = true) ↔
    ∀ e, peerOf s s.cvy.pred = some e → peerFresh s e = false := by
  cases peerOf s s.cvy.pred <;> simp

/-- BREAK: pred is not ahead within the break gap. -/
theorem apart_iff (s : State) :
    (gapTo s s.cvy.pred).all (fun g => decide (g > s.node.settings.breakGap)) = true ↔
      ∀ g, gapTo s s.cvy.pred = some g → g > s.node.settings.breakGap := by
  cases gapTo s s.cvy.pred <;> simp

/-- CUT_IN: pred is not the rig ahead. -/
theorem cutIn_iff (s : State) : (¬(rigAhead s).any (fun a => a.entry.station == s.cvy.pred) = true) ↔
    ∀ a, rigAhead s = some a → a.entry.station ≠ s.cvy.pred := by
  cases rigAhead s <;> simp

section LeaveTests

variable {s : State}

theorem leaveCause_function (haway : s.drv.position ≠ .convoy) : leaveCause s = some .function :=
  if_pos ((functionAway_iff s).mpr haway)

variable (hconvoy : ¬s.drv.position ≠ .convoy)
include hconvoy

theorem leaveCause_predLapsed (hlapsed : ∀ e, peerOf s s.cvy.pred = some e → peerFresh s e = false) :
    leaveCause s = some .predLapsed :=
  (if_neg (mt (functionAway_iff s).mp hconvoy)).trans (if_pos ((predLapsed_iff s).mpr hlapsed))

variable (hheard : ¬∀ e, peerOf s s.cvy.pred = some e → peerFresh s e = false)
include hheard

theorem leaveCause_breakGap (hapart : ∀ g, gapTo s s.cvy.pred = some g → g > s.node.settings.breakGap) :
    leaveCause s = some .breakGap :=
  (if_neg (mt (functionAway_iff s).mp hconvoy)).trans <| (if_neg (mt (predLapsed_iff s).mp hheard)).trans <|
    if_pos ((apart_iff s).mpr hapart)

variable (hnear : ¬∀ g, gapTo s s.cvy.pred = some g → g > s.node.settings.breakGap)
include hnear

theorem leaveCause_cutIn (hcutIn : ∀ a, rigAhead s = some a → a.entry.station ≠ s.cvy.pred) :
    leaveCause s = some .cutIn :=
  (if_neg (mt (functionAway_iff s).mp hconvoy)).trans <| (if_neg (mt (predLapsed_iff s).mp hheard)).trans <|
    (if_neg (mt (apart_iff s).mp hnear)).trans <| if_pos ((cutIn_iff s).mpr hcutIn)

theorem leaveCause_none (hahead : ¬∀ a, rigAhead s = some a → a.entry.station ≠ s.cvy.pred) :
    leaveCause s = none :=
  (if_neg (mt (functionAway_iff s).mp hconvoy)).trans <| (if_neg (mt (predLapsed_iff s).mp hheard)).trans <|
    (if_neg (mt (apart_iff s).mp hnear)).trans <| if_neg (mt (cutIn_iff s).mp hahead)

end LeaveTests

/-! ## The function change (R81) -/

theorem exec_cvyFunctionChange {s : State} {c : FnChange} {rest : List FnChange} (hup : s.held = false)
    (hmail : s.mail.cvyChanges = c :: rest) :
    exec .cvyFunctionChange s = .next (followFunction c (s.setMail { s.mail with cvyChanges := rest })) := by
  refine (whileUp_up hup _).trans ?_
  simp only [cvyTakesChange, hmail]

/-- Settles O28: the join conditions are `joinable`, and the leave tests the branches of `leaveCause`. -/
theorem roleCheckJoinsAndLeaves : Obligations.RoleCheckJoinsAndLeaves := by
  intro s own joins left away lapsed apart cutIn
  refine ⟨roleCheck_leader, fun hsolo hnone => ?_, fun a hsolo hahead hjoins => ?_, fun hrole => ?_,
    fun c rest hup hmail => ?_⟩
  · exact roleCheck_alone hsolo fun a hahead hjoin => hnone a hahead ((joinable_iff s a).mp hjoin)
  · exact roleCheck_joins hsolo hahead ((joinable_iff s a).mpr hjoins)
  · exact ⟨fun haway => roleCheck_leaves hrole (leaveCause_function haway),
      fun hconvoy hlapsed => roleCheck_leaves hrole (leaveCause_predLapsed hconvoy hlapsed),
      fun hconvoy hheard hapart => roleCheck_leaves hrole (leaveCause_breakGap hconvoy hheard hapart),
      fun hconvoy hheard hnear hcutIn => roleCheck_leaves hrole (leaveCause_cutIn hconvoy hheard hnear hcutIn),
      fun hconvoy hheard hnear hahead => roleCheck_stays hrole (leaveCause_none hconvoy hheard hnear hahead)⟩
  · have htaken := exec_cvyFunctionChange hup hmail
    refine ⟨fun hrole haway => htaken.trans (congrArg _ (if_pos ⟨hrole, haway⟩)), fun hstays => ?_⟩
    exact htaken.trans (congrArg _ (if_neg fun ⟨hrole, haway⟩ => hstays.elim (· hrole) haway))

end Sys2Proof.Proofs
end

section
/-! PROOFS. The halt set (R93, R95 to R97): the own causes and the acknowledge gesture, the HALTs and RESUMEs
of others, and the notices of the HALT slot. -/

namespace Sys2Proof.Proofs

open Sys2Proof.Machine Sys2Proof.Laws

/-! ## The own entry -/

theorem eq_set_true_iff (o : OwnCauses) (c : HaltCause) : o = o.set c true ↔ o.has c = true := by
  cases o
  cases c <;> simp [OwnCauses.set, OwnCauses.has]

theorem eq_set_false_iff (o : OwnCauses) (c : HaltCause) : o = o.set c false ↔ o.has c = false := by
  cases o
  cases c <;> simp [OwnCauses.set, OwnCauses.has]

theorem ownAny_iff (o : OwnCauses) : o.any = true ↔ o ≠ OwnCauses.empty := by
  obtain ⟨t, l, i⟩ := o
  revert t l i
  decide

/-! ## Own causes (R95) -/

section Causes

variable {s : State} {cause : HaltCause}

theorem addCause_present (h : s.cvy.own.has cause = true) : addCause cause s = s := if_pos h

theorem addCause_solo (h : s.cvy.own.has cause ≠ true) (hsolo : s.cvy.role = .solo) :
    addCause cause s = s.setCvy { s.cvy with own := s.cvy.own.set cause true } :=
  (if_neg h).trans (if_pos hsolo)

theorem addCause_tells (h : s.cvy.own.has cause ≠ true) (hrole : s.cvy.role ≠ .solo) :
    addCause cause s = postHalt cause (s.setCvy { s.cvy with own := s.cvy.own.set cause true }) :=
  (if_neg h).trans (if_neg hrole)

theorem removeCause_absent (h : s.cvy.own.has cause = false) : removeCause cause s = s :=
  if_pos (Bool.eq_false_iff.mp h)

theorem removeCause_quiet (h : s.cvy.own.has cause ≠ false)
    (hquiet : s.cvy.role = .solo ∨ s.cvy.own.set cause false ≠ OwnCauses.empty) :
    removeCause cause s = s.setCvy { s.cvy with own := s.cvy.own.set cause false } :=
  (if_neg (not_not.mpr (Bool.eq_true_of_not_eq_false h))).trans (if_pos (hquiet.symm.imp_left (ownAny_iff _).mpr))

theorem removeCause_tells (h : s.cvy.own.has cause ≠ false) (hrole : s.cvy.role ≠ .solo)
    (hlast : s.cvy.own.set cause false = OwnCauses.empty) :
    removeCause cause s = postResume (s.setCvy { s.cvy with own := s.cvy.own.set cause false }) :=
  (if_neg (not_not.mpr (Bool.eq_true_of_not_eq_false h))).trans
    (if_neg fun hstands => hstands.elim (fun hany => (ownAny_iff _).mp hany hlast) hrole)

variable {src : CauseSource} {rest : List CauseRequest}

theorem exec_ownCauseAdd (hup : s.held = false) (hqueue : causesOf s.mail src = ⟨true, cause⟩ :: rest) :
    exec (.ownCauseAdd src) s = .next (addCause cause (s.setMail (s.mail.setCauses src rest))) := by
  refine (whileUp_up hup _).trans ?_
  simp only [takeCause, hqueue, if_true]

theorem exec_ownCauseRemove (hup : s.held = false) (hqueue : causesOf s.mail src = ⟨false, cause⟩ :: rest) :
    exec (.ownCauseRemove src) s = .next (removeCause cause (s.setMail (s.mail.setCauses src rest))) := by
  refine (whileUp_up hup _).trans ?_
  simp only [takeCause, hqueue, if_true, Bool.false_eq_true, if_false]

end Causes

/-! ## The acknowledge gesture (R96) -/

theorem exec_acknowledgeGesture {s : State} {n : Nat} (hup : s.held = false) (hgestures : s.mail.gestures = n + 1) :
    exec .acknowledgeGesture s = .next (acknowledge (s.setMail { s.mail with gestures := n })) := by
  refine (whileUp_up hup _).trans ?_
  simp only [takeGesture, hgestures, Nat.add_one_ne_zero, if_false, Nat.add_sub_cancel]

theorem acknowledge_quiet {s : State} (h : s.cvy.own = OwnCauses.empty ∨ s.cvy.role = .solo) :
    acknowledge s = s.setCvy { s.cvy with own := OwnCauses.empty, foreign := [] } :=
  if_neg fun ⟨hany, hrole⟩ => h.elim ((ownAny_iff _).mp hany) hrole

theorem acknowledge_tells {s : State} (hown : s.cvy.own ≠ OwnCauses.empty) (hrole : s.cvy.role ≠ .solo) :
    acknowledge s = postResume (s.setCvy { s.cvy with own := OwnCauses.empty, foreign := [] }) :=
  if_pos ⟨(ownAny_iff _).mpr hown, hrole⟩

/-- Settles O30: an own cause is a flag, and each clause is one branch of the add, the remove or the gesture. -/
theorem ownCausesRaiseAndLiftHalts : Obligations.OwnCausesRaiseAndLiftHalts := by
  intro src cause rest s hup taken queue own quiet telling without withIt
  refine ⟨fun hqueue => ?_, fun hqueue => ?_, fun n hgestures => ?_⟩
  · have htaken := exec_ownCauseAdd hup hqueue
    refine ⟨fun hpresent => ?_, fun habsent hsolo => ?_, fun habsent hrole => ?_⟩
    · exact htaken.trans (congrArg _ (addCause_present ((eq_set_true_iff own cause).mp hpresent)))
    · exact htaken.trans (congrArg _ (addCause_solo (mt (eq_set_true_iff own cause).mpr habsent) hsolo))
    · exact htaken.trans (congrArg _ (addCause_tells (mt (eq_set_true_iff own cause).mpr habsent) hrole))
  · have htaken := exec_ownCauseRemove hup hqueue
    refine ⟨fun habsent => ?_, fun hpresent hquiet => ?_, fun hpresent hrole hlast => ?_⟩
    · exact htaken.trans (congrArg _ (removeCause_absent ((eq_set_false_iff own cause).mp habsent)))
    · exact htaken.trans (congrArg _ (removeCause_quiet (mt (eq_set_false_iff own cause).mpr hpresent) hquiet))
    · exact htaken.trans (congrArg _ (removeCause_tells (mt (eq_set_false_iff own cause).mpr hpresent) hrole hlast))
  · have htaken := exec_acknowledgeGesture hup hgestures
    exact ⟨fun hquiet => htaken.trans (congrArg _ (acknowledge_quiet hquiet)),
      fun hown hrole => htaken.trans (congrArg _ (acknowledge_tells hown hrole))⟩

/-! ## The HALTs of others (R93) -/

section Heard

variable {s : State} {st num : Nat} {tm : Time} {rest : List Received} {cause : HaltCause}

theorem exec_cvyTakesHalt (hup : s.held = false) (hqueue : s.air.cvyQueue = ⟨⟨st, num, .halt cause⟩, tm⟩ :: rest) :
    exec .cvyTakesHalt s = .next
      (if num = s.cvy.convoy then recordHalt st cause (cvyPopped rest s) else cvyPopped rest s) := by
  refine (whileUp_up hup _).trans ?_
  simp only [cvyTakes, hqueue]
  rfl

theorem exec_cvyTakesResume (hup : s.held = false) (hqueue : s.air.cvyQueue = ⟨⟨st, num, .resume⟩, tm⟩ :: rest) :
    exec .cvyTakesResume s = .next
      (if num = s.cvy.convoy then liftHalt st (cvyPopped rest s) else cvyPopped rest s) := by
  refine (whileUp_up hup _).trans ?_
  simp only [cvyTakes, hqueue]
  rfl

/-- The HALT_HEARD record. -/
def postHeard (st : Nat) (cause : HaltCause) : State → State :=
  post .cvy .haltHeard (.num st) (.halt cause) noDetail

theorem foreignKnown_iff (foreign : List (Nat × HaltCause)) (st : Nat) :
    foreign.any (fun x => x.1 == st) = true ↔ ∃ x ∈ foreign, x.1 = st := by
  simp only [List.any_eq_true, beq_iff_eq]

/-- A source in the set takes its new cause in its place. -/
theorem recordHalt_known (hknown : ∃ x ∈ s.cvy.foreign, x.1 = st) : recordHalt st cause s =
    postHeard st cause (s.setCvy { s.cvy with
      foreign := s.cvy.foreign.map (fun x => if x.1 = st then (st, cause) else x) }) :=
  if_pos ((foreignKnown_iff _ st).mpr hknown)

theorem recordHalt_added (hnew : ¬∃ x ∈ s.cvy.foreign, x.1 = st) (hroom : s.cvy.foreign.length < 7) :
    recordHalt st cause s =
      postHeard st cause (s.setCvy { s.cvy with foreign := s.cvy.foreign ++ [(st, cause)] }) :=
  (if_neg (mt (foreignKnown_iff _ st).mp hnew)).trans (if_pos hroom)

/-- A full set records nothing and says so, in either order (log entry 14). -/
theorem recordHalt_full (hnew : ¬∃ x ∈ s.cvy.foreign, x.1 = st) (hfull : s.cvy.foreign.length ≥ 7) :
    recordHalt st cause s =
      postEitherOrder (postHeard st cause) (post .cvy .haltSetFull (.num st) noDetail noDetail) s :=
  (if_neg (mt (foreignKnown_iff _ st).mp hnew)).trans (if_neg (Nat.not_lt.mpr hfull))

/-- Two posts in either order: which comes first is a free value. -/
theorem postEitherOrder_posts (p q : Post) (s : State) : ∃ both, (both = [p, q] ∨ both = [q, p]) ∧
    postEitherOrder (post p.block p.kind p.first p.second p.third) (post q.block q.kind q.first q.second q.third) s =
      { s with mail := { s.mail with posts := s.mail.posts ++ both }, draws := s.draws + 1 } := by
  unfold postEitherOrder
  dsimp only
  split
  · refine ⟨[p, q], .inl rfl, ?_⟩
    rw [← List.singleton_append, ← List.append_assoc]
    rfl
  · refine ⟨[q, p], .inr rfl, ?_⟩
    rw [← List.singleton_append, ← List.append_assoc]
    rfl

end Heard

/-! ## The notices of the HALT slot (R97) -/

theorem exec_cvyHaltNotice {s : State} {n : Notice} {rest : List Notice} (hup : s.held = false)
    (hmail : s.mail.haltNotices = n :: rest) :
    exec .cvyHaltNotice s = .next (onHaltNotice n (s.setMail { s.mail with haltNotices := rest })) := by
  refine (whileUp_up hup _).trans ?_
  simp only [takeNotice, noticesOf, hmail]
  rfl

section Repost

variable {s : State}

theorem repostHalt_done {content : Option Content} (h : s.cvy.retryUsed = true ∨ s.cvy.role = .solo) :
    repostHalt content s = s :=
  if_pos h

variable (hunused : s.cvy.retryUsed = false) (hrole : s.cvy.role ≠ .solo)
include hunused hrole

theorem not_repostHalt_done : ¬(s.cvy.retryUsed = true ∨ s.cvy.role = .solo) := by simp [hunused, hrole]

/-- A HALT is reposted with the first cause that is present now. -/
theorem repostHalt_halt (c : HaltCause) {c' : HaltCause} (hfirst : s.cvy.own.first = some c') :
    repostHalt (some (.halt c)) s =
      postRequest .halt (.add (.halt c')) (s.setCvy { s.cvy with retryUsed := true }) := by
  rw [repostHalt, if_neg (not_repostHalt_done hunused hrole), hfirst]

theorem repostHalt_halt_lifted (c : HaltCause) (hfirst : s.cvy.own.first = none) :
    repostHalt (some (.halt c)) s = s := by
  rw [repostHalt, if_neg (not_repostHalt_done hunused hrole), hfirst]

theorem repostHalt_resume (hfirst : s.cvy.own.first = none) : repostHalt (some .resume) s =
    postRequest .halt (.add .resume) (s.setCvy { s.cvy with retryUsed := true }) := by
  rw [repostHalt, if_neg (not_repostHalt_done hunused hrole), hfirst]

theorem repostHalt_resume_halted {c : HaltCause} (hfirst : s.cvy.own.first = some c) :
    repostHalt (some .resume) s = s := by
  rw [repostHalt, if_neg (not_repostHalt_done hunused hrole), hfirst]

end Repost

/-- Settles O29: a HALT, a RESUME and a notice each by the branches of what CVY does with it. -/
theorem haltsAreHeardAndReposted : Obligations.HaltsAreHeardAndReposted := by
  constructor
  · intro st num tm rest s hup popped known
    constructor
    · intro cause hqueue heard full recorded result
      have htaken := exec_cvyTakesHalt hup hqueue
      have hconvoyed {t : State} (hconvoy : num = s.cvy.convoy) (h : recordHalt st cause (cvyPopped rest s) = t) :
          result = .next t :=
        htaken.trans (congrArg _ ((if_pos hconvoy).trans h))
      refine ⟨fun hother => htaken.trans (congrArg _ (if_neg hother)),
        fun hconvoy hknown => hconvoyed hconvoy (recordHalt_known (s := cvyPopped rest s) hknown),
        fun hconvoy hnew hroom => hconvoyed hconvoy (recordHalt_added (s := cvyPopped rest s) hnew hroom),
        fun hconvoy hnew hfull => ?_⟩
      obtain ⟨both, horder, hboth⟩ := postEitherOrder_posts heard full (cvyPopped rest s)
      exact ⟨both, horder, hconvoyed hconvoy ((recordHalt_full (s := cvyPopped rest s) hnew hfull).trans hboth)⟩
    · intro hqueue
      have htaken := exec_cvyTakesResume hup hqueue
      exact ⟨fun hother => htaken.trans (congrArg _ (if_neg hother)),
        fun hconvoy => htaken.trans (congrArg _ (if_pos hconvoy))⟩
  · intro n rest s hup hmail taken nothing repost own first result
    let t := s.setMail taken
    have htaken : result = .next (onHaltNotice n t) := exec_cvyHaltNotice hup hmail
    have hdoes {o : SlotOutcome} {u : State} (ho : n.outcome = o) (h : onHaltNotice { n with outcome := o } t = u) :
        result = .next u := by
      subst ho
      exact htaken.trans (congrArg _ h)
    refine ⟨fun hsent => hdoes hsent rfl, fun hidle => hidle.elim (hdoes · rfl) (hdoes · rfl),
      fun haborted hdone => hdoes haborted (repostHalt_done (s := t) hdone), fun haborted hunused hrole => ?_⟩
    have hreposts {c : Content} {u : State} (hc : n.content = some c) (h : repostHalt (some c) t = u) :
        result = .next u :=
      hdoes haborted (hc ▸ h)
    refine ⟨fun c c' hcontent hfirst => hreposts hcontent (repostHalt_halt (s := t) hunused hrole c hfirst),
      fun c hcontent hfirst => hreposts hcontent (repostHalt_halt_lifted (s := t) hunused hrole c hfirst),
      fun hcontent hfirst => hreposts hcontent (repostHalt_resume (s := t) hunused hrole hfirst),
      fun hcontent hfirst => ?_⟩
    obtain ⟨c, hc⟩ := Option.ne_none_iff_exists'.mp hfirst
    exact hreposts hcontent (repostHalt_resume_halted (s := t) hunused hrole hc)

end Sys2Proof.Proofs
end

section
/-! PROOFS. One governor update (R79, R132, R140, R143, R145 to R147, R164, R166): the role check, the direction,
the rate limit, the motor width, and what DRV and the journal are told. -/

namespace Sys2Proof.Proofs

open Sys2Proof.Machine Sys2Proof.Laws

/-! ## After the role check (R79) -/

/-- The role check changes CVY's record and posts, and nothing else. -/
theorem roleCheck_eq (s : State) :
    roleCheck s = { s with cvy := (roleCheck s).cvy, mail := (roleCheck s).mail } := by
  unfold roleCheck
  split
  · unfold joinTest
    split
    · rfl
    · split <;> rfl
  · split <;> rfl
  · rfl

section RoleChecked

variable (s : State)

theorem roleCheck_gov : (roleCheck s).gov = s.gov := blank_gov (roleCheck_frame (G := footCvy) rfl s) rfl
theorem roleCheck_pos : (roleCheck s).pos = s.pos := blank_pos (roleCheck_frame (G := footCvy) rfl s) rfl
theorem roleCheck_air : (roleCheck s).air = s.air := blank_air (roleCheck_frame (G := footCvy) rfl s) rfl
theorem roleCheck_drv : (roleCheck s).drv = s.drv := blank_drv (roleCheck_frame (G := footCvy) rfl s) rfl
theorem roleCheck_trl : (roleCheck s).trl = s.trl := blank_trl (roleCheck_frame (G := footCvy) rfl s) rfl
theorem roleCheck_node : (roleCheck s).node = s.node := blank_node (roleCheck_frame (G := footCvy) rfl s) rfl
theorem roleCheck_time : (roleCheck s).time = s.time := blank_time (roleCheck_frame (G := footCvy) rfl s) rfl

end RoleChecked

theorem exec_governorUpdate {s : State} (hup : s.held = false) (hrunning : s.node.mode = .running)
    (htimer : s.gov.timer.isSome) : exec .governorUpdate s = .next (governorStep s) :=
  (whileUp_up hup _).trans (congrArg _ (if_pos ⟨hrunning, htimer⟩))

/-! ## Direction and target (R141 to R144) -/

theorem updateDirection_moving {s : State} (h : s.gov.speed ≠ 0) : updateDirection s = s.gov.direction := if_neg h

theorem updateDirection_standing {s : State} (h : s.gov.speed = 0) : updateDirection s = .reverse ↔
    demand reverseDemand s ≠ 0 ∧ reversePermission s = true := by
  rw [updateDirection, if_pos h]
  split
  · next hback => exact iff_of_true rfl hback
  · next hback => exact iff_of_false (by decide) hback

theorem targetOf_eq (s : State) : targetOf s =
    if updateDirection s = .forward then forwardTarget s else reverseTarget s := by
  unfold targetOf
  cases updateDirection s <;> rfl

/-! ## The rate limit (R145, R146) -/

theorem brakes_iff (t : Term) : t.brakes = true ↔ t = .gap ∨ t = .stop ∨ t = .halt := by
  cases t <;> decide

section RateLimit

variable {g : Gov} {target : NamedTerm}

theorem limitedSpeed_rises (h : g.speed < target.value) :
    limitedSpeed g target = min target.value (g.speed + g.stepUp) := if_pos h

theorem limitedSpeed_brakes (h : target.value < g.speed) (hbrakes : target.name.brakes = true) :
    limitedSpeed g target = max target.value (g.speed - g.stepBrake) := by
  rw [limitedSpeed, if_neg h.not_gt, if_pos hbrakes]

theorem limitedSpeed_eases (h : target.value < g.speed) (hbrakes : ¬target.name.brakes = true) :
    limitedSpeed g target = max target.value (g.speed - g.stepDown) := by
  rw [limitedSpeed, if_neg h.not_gt, if_neg hbrakes]

theorem limitedSpeed_holds (h : g.speed = target.value) : limitedSpeed g target = g.speed := by
  rw [limitedSpeed, if_neg h.not_lt, ← h]
  exact max_eq_left (Nat.sub_le _ _)

end RateLimit

/-! ## The motor width (R147) and DRV (R164, R166) -/

theorem motorWidth_eq (g : Settings) (v : Nat) (d : Travel) : motorWidth g v d =
    if v = 0 then 1500
    else if d = .forward then max 1000 (min 2000 (1500 + (g.escStart + v * g.escGain / 256)))
    else max 1000 (min 2000 (1500 - (g.escStart + v * g.escGain / 256))) := by
  cases d
  · simp only [motorWidth, clampTo, Nat.add_assoc, if_true]
  · simp only [motorWidth, clampTo, Nat.sub_sub, reduceCtorEq, if_false]

/-- DRV after a hand-over: the width and the lamps as the governor's record says, a pulse under way left to
end (R164). -/
def handedOver (g : Gov) (d : Drv) : Drv :=
  { d with
    heldWidth := g.width
    output := .governed
    frameTimer := if d.output = .neutral then none else d.frameTimer
    emitting := if d.emitting.isSome then d.emitting else some ⟨g.width, g.width⟩
    brakeLamp := g.lowered || g.speed == 0
    reverseLamp := g.direction == .reverse }

theorem motorHandOver_eq (s : State) : motorHandOver s = s.setDrv (handedOver s.gov s.drv) := by
  refine congrArg s.setDrv ?_
  generalize s.drv = d
  obtain ⟨_, _, _, _, _, _, _, _, _, output, _, emitting, _, _, _⟩ := d
  cases output <;> cases emitting <;> rfl

/-! ## Crawl (R140) -/

theorem beaconOverdue_iff (s : State) : beaconOverdue s = true ↔
    s.air.lastBeacon = none ∨ ∃ b, s.air.lastBeacon = some b ∧ age s.time b > 400 := by
  unfold beaconOverdue
  cases s.air.lastBeacon <;> simp

section Crawl

variable {s : State}

theorem crawlCause_position (h : s.pos.record.validity ≠ .valid) : crawlCause s = some .position := if_pos h

variable (hvalid : s.pos.record.validity = .valid)
include hvalid

theorem crawlCause_beacon (h : beaconOverdue s = true) : crawlCause s = some .beacon :=
  (if_neg (not_not.mpr hvalid)).trans (if_pos h)

theorem crawlCause_overlength (hbeacon : ¬beaconOverdue s = true) (h : s.trl.overlength = true) :
    crawlCause s = some .overlength :=
  (if_neg (not_not.mpr hvalid)).trans ((if_neg hbeacon).trans (if_pos h))

theorem crawlCause_none (hbeacon : ¬beaconOverdue s = true) (h : s.trl.overlength = false) : crawlCause s = none :=
  (if_neg (not_not.mpr hvalid)).trans ((if_neg hbeacon).trans (if_neg (Bool.eq_false_iff.mp h)))

end Crawl

/-- CRAWL_ON is a post, and touches nothing else. -/
theorem noteCrawl_eq (s : State) : noteCrawl s = { s with mail := (noteCrawl s).mail } := by
  unfold noteCrawl
  split
  · split <;> rfl
  · rfl

theorem noteCrawl_posts {s : State} {c : CrawlCause} (hcause : crawlCause s = some c) (hcrawl : s.gov.crawl = false) :
    noteCrawl s = post .gov .crawlOn (.crawl c) noDetail noDetail s := by
  simp only [noteCrawl, hcause, hcrawl, Bool.false_eq_true, if_false]

theorem noteCrawl_quiet {s : State} (h : crawlCause s = none ∨ s.gov.crawl = true) : noteCrawl s = s := by
  unfold noteCrawl
  split
  · next c hcause => exact if_pos (h.resolve_left (by simp [hcause]))
  · rfl

/-! ## The update -/

/-- An update changes GOV and DRV, and what the role check and CRAWL_ON change. -/
theorem governorStep_eq (s : State) : governorStep s = { s with
    gov := governed (roleCheck s)
    drv := handedOver (governed (roleCheck s)) s.drv
    cvy := (roleCheck s).cvy
    mail := (noteCrawl (roleCheck s)).mail } := by
  let g := governed (roleCheck s)
  have hdrv : (noteCrawl (roleCheck s)).drv = s.drv :=
    (congrArg State.drv (noteCrawl_eq (roleCheck s))).trans (roleCheck_drv s)
  calc governorStep s
      = ((noteCrawl (roleCheck s)).setGov g).setDrv (handedOver g (noteCrawl (roleCheck s)).drv) :=
        motorHandOver_eq _
    _ = ((noteCrawl (roleCheck s)).setGov g).setDrv (handedOver g s.drv) := by rw [hdrv]
    _ = { roleCheck s with gov := g, drv := handedOver g s.drv, mail := (noteCrawl (roleCheck s)).mail } :=
        congrArg (fun u : State => (u.setGov g).setDrv (handedOver g s.drv)) (noteCrawl_eq (roleCheck s))
    _ = _ := congrArg (fun u : State =>
        { u with gov := g, drv := handedOver g s.drv, mail := (noteCrawl (roleCheck s)).mail }) (roleCheck_eq s)

/-- Settles O45: an update is taken apart into role check, direction, target, rate limit, width and hand-over. -/
theorem governorUpdateIsRateLimited : Obligations.GovernorUpdateIsRateLimited := by
  intro s hup hrunning htimer u g old backward
  have hgov : u.gov = s.gov := roleCheck_gov s
  have hspeed : u.gov.speed = old := congrArg Gov.speed hgov
  have hvalidity : u.pos.record.validity = s.pos.record.validity := by rw [roleCheck_pos]
  have hstep := governorStep_eq s
  refine ⟨governorStep s, limitedSpeed s.gov (targetOf u), updateDirection u, exec_governorUpdate hup hrunning htimer,
    fun hmoving => ?_, fun hstanding => ?_, ?_⟩
  · exact (updateDirection_moving (hspeed ▸ hmoving)).trans (congrArg Gov.direction hgov)
  · exact updateDirection_standing (hspeed.trans hstanding)
  intro target braking
  have htarget : targetOf u = target := targetOf_eq u
  rw [htarget]
  refine ⟨limitedSpeed_rises, fun hfalls hbraking => limitedSpeed_brakes hfalls ((brakes_iff _).mpr hbraking),
    fun hfalls heasing => limitedSpeed_eases hfalls (mt (brakes_iff _).mp heasing), limitedSpeed_holds, ?_⟩
  intro far width crawl overdue
  have hnode : u.node = s.node := roleCheck_node s
  have hoverdue : beaconOverdue u = true ↔ overdue := by
    rw [beaconOverdue_iff, roleCheck_air, roleCheck_time]
  have hgoverned : governed u = { s.gov with
      speed := limitedSpeed s.gov target
      direction := updateDirection u
      lastTarget := target.value
      limiting := some target.name
      lowered := decide (target.value < old)
      crawl := crawl.isSome
      width := width
      timer := some 20 } := by
    simp only [governed, hgov, hnode, htarget, motorWidth_eq]
    rfl
  have hmail : (governorStep s).mail = (noteCrawl u).mail := (congrArg State.mail hstep).trans rfl
  refine ⟨fun hlost => crawlCause_position (hvalidity ▸ hlost),
    fun hvalid hdue => crawlCause_beacon (hvalidity ▸ hvalid) (hoverdue.mpr hdue),
    fun hvalid hsent hlong => crawlCause_overlength (hvalidity ▸ hvalid) (mt hoverdue.mp hsent) ?_,
    fun hvalid hsent hshort => crawlCause_none (hvalidity ▸ hvalid) (mt hoverdue.mp hsent) ?_,
    (congrArg State.gov hstep).trans hgoverned, (congrArg State.drv hstep).trans ?_, fun c hcause hcrawl => ?_,
    fun hquiet => ?_, ?_⟩
  · rwa [roleCheck_trl]
  · rwa [roleCheck_trl]
  · rw [hgoverned, Bool.decide_or]
    rfl
  · exact hmail.trans (congrArg State.mail (noteCrawl_posts hcause ((congrArg Gov.crawl hgov).trans hcrawl)))
  · exact hmail.trans (congrArg State.mail (noteCrawl_quiet (hquiet.imp_right (congrArg Gov.crawl hgov).trans)))
  · rw [hstep]

end Sys2Proof.Proofs
end

section
/-! PROOFS. The claim table fits the node's mode: outside RUNNING every entry is NONE, and a RUNNING node
that stands in a SINGLE section holds it or is in standoff there (R109, R116, R121, R128, R183). -/

namespace Sys2Proof.Proofs

open Sys2Proof.Machine Sys2Proof.Laws Sys2Proof.Safety

/-! ## An entry that fits -/

/-- The node holds the section, or is in standoff there, with no tail behind it (R116). -/
def Held (e : ClaimEntry) : Prop := (e.state = .holding ∨ e.state = .standoff) ∧ e.tail = 0

/-- The entry of the own section, where the node has a position and the table holds one, is held. -/
def OwnHeld (s : State) : Prop := ∀ e, claimEntry s s.pos.record.sec = some e → Held e

/-- What ModeInv asks of the claim table. -/
structure ClaimsFit (s : State) : Prop where
  unclaimed : s.node.mode ≠ .running → ∀ e ∈ s.clm.entries, e.state = .none
  occupied : s.node.mode = .running → s.pos.record.validity ≠ .none → OwnHeld s

/-- What ClaimsFit asks of one entry. -/
structure EntryFitsMode (s : State) (e : ClaimEntry) : Prop where
  unclaimed : s.node.mode ≠ .running → e.state = .none
  occupied : s.node.mode = .running → s.pos.record.validity ≠ .none → e.sec = s.pos.record.sec → Held e

theorem entryFitsMode_of_claimEntry {s : State} (h : ClaimsFit s) {y : Nat} {e : ClaimEntry}
    (he : claimEntry s y = some e) : EntryFitsMode s e where
  unclaimed hmode := h.unclaimed hmode e (mem_of_claimEntry he)
  occupied hmode hfix hsec := h.occupied hmode hfix e (by rw [← hsec, claimEntry_sec he, he])

/-- Replacing an entry of the own section by a held one leaves that section held. -/
theorem ownHeld_setClaimEntry {f : ClaimEntry} (hf : Held f) {s : State} (hsec : f.sec = s.pos.record.sec) :
    OwnHeld (setClaimEntry f s) := fun g hg => by
  change claimEntry (setClaimEntry f s) s.pos.record.sec = some g at hg
  rw [claimEntry_setClaimEntry, ← hsec] at hg
  obtain ⟨e, he, rfl⟩ := Option.map_eq_some_iff.mp hg
  rwa [if_pos (claimEntry_sec he)]

/-- Replacing an entry by one that fits. -/
theorem setClaimEntry_claimsFit {s : State} (h : ClaimsFit s) {f : ClaimEntry} (hf : EntryFitsMode s f) :
    ClaimsFit (setClaimEntry f s) where
  unclaimed hmode e he := (mem_setClaimEntry he).elim (fun heq => heq ▸ hf.unclaimed hmode) (h.unclaimed hmode e)
  occupied hmode hfix := by
    by_cases hsec : f.sec = s.pos.record.sec
    · exact ownHeld_setClaimEntry (hf.occupied hmode hfix hsec) hsec
    · intro g hg
      change claimEntry (setClaimEntry f s) s.pos.record.sec = some g at hg
      rw [claimEntry_setClaimEntry] at hg
      obtain ⟨e, he, rfl⟩ := Option.map_eq_some_iff.mp hg
      rw [if_neg (by rw [claimEntry_sec he]; exact Ne.symm hsec)]
      exact h.occupied hmode hfix e he

/-- What leaves NODE, POS and CLM out of its footprint leaves the table fitting. -/
theorem claimsFit_of_frame {F : Foot} {s t : State} (hframe : blank F t = blank F s) (hnode : F.node = false)
    (hpos : F.pos = false) (hclm : F.clm = false) (h : ClaimsFit s) : ClaimsFit t := by
  constructor
  · rw [blank_node hframe hnode, blank_clm hframe hclm]
    exact h.unclaimed
  · unfold OwnHeld
    rw [blank_node hframe hnode, blank_pos hframe hpos]
    simp only [claimEntry_congr (congrArg Clm.entries (blank_clm hframe hclm))]
    exact h.occupied

section Forms

variable {s : State} {e f : ClaimEntry} (h : EntryFitsMode s e)
include h

theorem running_of_inUse (hstate : e.state ≠ .none) : s.node.mode = .running :=
  by_contra fun hmode => hstate (h.unclaimed hmode)

/-- An entry in use that the node does not hold may take any form. -/
theorem entryFitsMode_of_notHeld (hstate : e.state ≠ .none) (hheld : s.pos.record.validity ≠ .none →
    e.sec = s.pos.record.sec → ¬Held e) (hsec : f.sec = e.sec) : EntryFitsMode s f where
  unclaimed hmode := absurd (running_of_inUse h hstate) hmode
  occupied hmode hfix hown :=
    absurd (h.occupied hmode hfix (hsec ▸ hown)) (hheld hfix (hsec ▸ hown))

/-- CLAIMING, RIDING and WAITING are never the own section's states. -/
theorem entryFitsMode_of_approaching (hstate : e.state = .claiming ∨ e.state = .riding ∨ e.state = .waiting)
    (hsec : f.sec = e.sec) : EntryFitsMode s f := by
  refine entryFitsMode_of_notHeld h ?_ (fun _ _ hheld => ?_) hsec
  · rcases hstate with hstate | hstate | hstate <;> simp [hstate]
  · obtain ⟨hheld, -⟩ := hheld
    rcases hstate with hstate | hstate | hstate <;> simp [hstate] at hheld

/-- The own section's entry is inside (R109). -/
theorem entryFitsMode_of_outside (hstate : e.state ≠ .none) (hout : ¬insideEntry s e = true)
    (hsec : f.sec = e.sec) : EntryFitsMode s f :=
  entryFitsMode_of_notHeld h hstate (fun hfix hown _ => hout (by simp [insideEntry, hfix, hown])) hsec

/-- A hold may become a standoff, and a standoff stay one. -/
theorem entryFitsMode_of_held (hstate : e.state ≠ .none) (hsec : f.sec = e.sec)
    (hf : f.state = .holding ∨ f.state = .standoff) (htail : f.tail = e.tail) : EntryFitsMode s f where
  unclaimed hmode := absurd (running_of_inUse h hstate) hmode
  occupied hmode hfix hown := ⟨hf, htail.trans (h.occupied hmode hfix (hsec ▸ hown)).2⟩

/-- Changing the records of other stations alone. -/
theorem entryFitsMode_of_sameOwn (hsame : SameOwn e f) : EntryFitsMode s f := by
  obtain ⟨hsec, hstate, htail, -⟩ := hsame
  refine ⟨fun hmode => hstate.trans (h.unclaimed hmode), fun hmode hfix hown => ?_⟩
  have hheld := h.occupied hmode hfix (hsec ▸ hown)
  rwa [Held, ← hstate, ← htail] at hheld

end Forms

/-! ## Operations on the state -/

/-- An operation leaves the table fitting. -/
def KeepsFit (f : State → State) : Prop := ∀ s : State, ClaimsFit s → ClaimsFit (f s)

/-- An operation on an entry that fits leaves the table fitting. -/
def EntryKeepsFit (f : ClaimEntry → State → State) : Prop :=
  ∀ {e : ClaimEntry} {s : State}, ClaimsFit s → EntryFitsMode s e → ClaimsFit (f e s)

theorem foldl_keepsFit {α : Type} {f : State → α → State} (hf : ∀ a, KeepsFit (fun s => f s a)) (l : List α) :
    KeepsFit (fun s => l.foldl f s) := fun _ h =>
  List.foldlRecOn (motive := ClaimsFit) l f h fun t ht a _ => hf a t ht

theorem onEntry_keepsFit {f : ClaimEntry → State → State} (hf : EntryKeepsFit f) (sec : Nat) :
    KeepsFit (onEntry sec f) := fun s h => by
  unfold onEntry
  split
  · next e he => exact hf h (entryFitsMode_of_claimEntry h he)
  · exact h

theorem onEveryEntry_keepsFit {f : ClaimEntry → State → State} (hf : EntryKeepsFit f) :
    KeepsFit (onEveryEntry f) := fun s h =>
  foldl_keepsFit (fun sec => onEntry_keepsFit hf sec) (claimSections s) s h

/-- Acting with one of several holders, where the operation leaves the table fitting with any of them. -/
theorem withHolder_claimsFit {f : Nat → State → State} {s : State} (h : ClaimsFit s)
    (hf : ∀ station u, u.clm = s.clm → u.pos = s.pos → u.node = s.node → ClaimsFit u → ClaimsFit (f station u))
    (hs : List Holder) : ClaimsFit (withHolder hs f s) := by
  have hframe : blank { draws := true } (pickHolder hs s).2 = blank { draws := true } s := pickHolder_frame rfl hs s
  have hu : ClaimsFit (pickHolder hs s).2 := claimsFit_of_frame hframe rfl rfl rfl h
  unfold withHolder
  split
  · next holder u hpick =>
    rw [hpick] at hu hframe
    exact hf holder.station u (blank_clm hframe rfl) (blank_pos hframe rfl) (blank_node hframe rfl) hu
  · next u hpick =>
    rw [hpick] at hu
    exact hu

theorem startClaim_claimsFit {s : State} (h : ClaimsFit s) {e : ClaimEntry}
    (he : ∀ f : ClaimEntry, f.sec = e.sec → EntryFitsMode s f) : ClaimsFit (startClaim e s) := by
  have hset := setClaimEntry_claimsFit h (he { e with
    state := .claiming, size := convoySize s, window := some (newWindow s), repostUsed := false } rfl)
  exact { hset with }

theorem goStandoff_claimsFit {s : State} (h : ClaimsFit s) {e : ClaimEntry} (c : StandoffCause)
    (he : EntryFitsMode s { e with state := .standoff, cause := some c, window := none }) (station : Nat)
    (role : StandoffRole) : ClaimsFit (goStandoff e c station role s) := by
  have hset := setClaimEntry_claimsFit h he
  unfold goStandoff
  dsimp only
  split <;> exact { hset with }

/-! ## Reviews (R109) -/

theorem reviewRiding_keepsFit : EntryKeepsFit reviewRiding := fun h he => by
  unfold reviewRiding
  split
  · next hcond => exact startClaim_claimsFit h fun _ => entryFitsMode_of_approaching he (.inr (.inl hcond.1))
  · exact h

theorem reviewHeld_keepsFit : EntryKeepsFit reviewHeld := fun {e s} h he => by
  unfold reviewHeld
  split
  · next hcond =>
    obtain ⟨hstate, hout⟩ := hcond
    refine withHolder_claimsFit h (fun station u _ hpos hnode hu => ?_) _
    have he' : EntryFitsMode u e.toWaiting := by
      have hfit := entryFitsMode_of_outside (f := e.toWaiting) he (by simp [hstate]) hout rfl
      exact ⟨hnode ▸ hfit.unclaimed, hnode ▸ hpos ▸ hfit.occupied⟩
    have hset := setClaimEntry_claimsFit hu he'
    exact { hset with }
  · exact h

theorem reviewInside_keepsFit : EntryKeepsFit reviewInside := fun {e s} h he => by
  unfold reviewInside
  split
  · next hcond =>
    obtain ⟨hstate, -⟩ := hcond
    have hheld {f : ClaimEntry} {u : State} (hpos : u.pos = s.pos) (hnode : u.node = s.node)
        (hsec : f.sec = e.sec) (hf : f.state = .holding ∨ f.state = .standoff) (htail : f.tail = e.tail) :
        EntryFitsMode u f := by
      have hfit := entryFitsMode_of_held he (by simp [hstate]) hsec hf htail
      exact ⟨hnode ▸ hfit.unclaimed, hnode ▸ hpos ▸ hfit.occupied⟩
    dsimp only
    split
    · refine withHolder_claimsFit h (fun station u _ hpos hnode hu => ?_) _
      split
      · exact hu
      · have hset := setClaimEntry_claimsFit hu
          (hheld (f := { e with noted := some station }) hpos hnode rfl (.inl hstate) rfl)
        exact { hset with }
    · refine withHolder_claimsFit h (fun station u _ hpos hnode hu => ?_) _
      exact goStandoff_claimsFit hu .standoff (hheld hpos hnode rfl (.inr rfl) rfl) station .loser
  · exact h

theorem reviewNoted_keepsFit : EntryKeepsFit reviewNoted := fun h he => by
  unfold reviewNoted
  split
  · exact setClaimEntry_claimsFit h (entryFitsMode_of_sameOwn he ⟨rfl, rfl, rfl, rfl⟩)
  · exact h

theorem reviewWaiting_keepsFit : EntryKeepsFit reviewWaiting := fun {e s} h he => by
  unfold reviewWaiting
  split
  · next hstate =>
    have hany {f : ClaimEntry} (hsec : f.sec = e.sec) : EntryFitsMode s f :=
      entryFitsMode_of_approaching he (.inr (.inr hstate)) hsec
    split
    · exact setClaimEntry_claimsFit h (hany rfl)
    · split
      · exact startClaim_claimsFit h fun _ => hany
      · exact h
  · exact h

theorem review_keepsFit (sec : Nat) : KeepsFit (review sec) := fun s h => by
  unfold review
  split
  · exact onEntry_keepsFit reviewWaiting_keepsFit sec _ <|
      onEntry_keepsFit reviewNoted_keepsFit sec _ <|
      onEntry_keepsFit reviewInside_keepsFit sec _ <|
      onEntry_keepsFit reviewHeld_keepsFit sec _ <|
      onEntry_keepsFit reviewRiding_keepsFit sec s h
  · exact h

theorem reviewAll_keepsFit : KeepsFit reviewAll := fun s h =>
  foldl_keepsFit (fun sec => review_keepsFit sec) (claimSections s) s h

/-! ## Own travel (R116, R122 to R125) -/

theorem leaveApproach_claimsFit {s : State} (h : ClaimsFit s) {e : ClaimEntry}
    (he : ∀ f : ClaimEntry, f.sec = e.sec → EntryFitsMode s f) : ClaimsFit (leaveApproach e s) := by
  have hset (f : ClaimEntry) (hsec : f.sec = e.sec) := setClaimEntry_claimsFit h (he f hsec)
  unfold leaveApproach
  split
  · exact { hset { e with state := .none, window := none } rfl with }
  · exact hset _ rfl
  · exact hset _ rfl
  · exact { hset { e with state := .none } rfl with }
  · exact h
  · exact h

/-- Leaving the approach is for CLAIMING, WAITING and RIDING, and for a hold that is not inside (R125). -/
theorem checkLeaving_eq (e : ClaimEntry) (s : State) : checkLeaving e s =
    if (e.state = .claiming ∨ e.state = .riding ∨ e.state = .waiting ∨
        (e.state = .holding ∧ ¬insideEntry s e = true)) ∧ hasLeftApproach s e.sec = true
    then leaveApproach e s else s := by
  unfold checkLeaving
  cases e.state <;> simp

theorem checkLeaving_keepsFit : EntryKeepsFit checkLeaving := fun {e s} h he => by
  rw [checkLeaving_eq]
  split
  · next hleaves =>
    obtain ⟨hclaiming | hriding | hwaiting | ⟨hholding, hout⟩, -⟩ := hleaves
    · exact leaveApproach_claimsFit h fun _ => entryFitsMode_of_approaching he (.inl hclaiming)
    · exact leaveApproach_claimsFit h fun _ => entryFitsMode_of_approaching he (.inr (.inl hriding))
    · exact leaveApproach_claimsFit h fun _ => entryFitsMode_of_approaching he (.inr (.inr hwaiting))
    · exact leaveApproach_claimsFit h fun _ => entryFitsMode_of_outside he (by simp [hholding]) hout
  · exact h

/-- An entry with a tail behind it is not the own section's. -/
theorem entryFitsMode_of_tail {s : State} {e f : ClaimEntry} (he : EntryFitsMode s e) (htail : e.tail ≠ 0)
    (hsec : f.sec = e.sec) (hf : e.state = .none → f.state = .none) : EntryFitsMode s f where
  unclaimed hmode := hf (he.unclaimed hmode)
  occupied hmode hfix hown := absurd (he.occupied hmode hfix (hsec ▸ hown)).2 htail

theorem dropCause_keepsFit (e : ClaimEntry) : KeepsFit (dropCause e) := fun _ h => by
  unfold dropCause
  split
  · exact h
  · split
    · exact h
    · exact { h with }

theorem endByTail_claimsFit {s : State} (h : ClaimsFit s) {e : ClaimEntry}
    (he : EntryFitsMode s { e with state := .none, waited := false, tail := 0, cause := none }) :
    ClaimsFit (endByTail e s) := by
  have hset := setClaimEntry_claimsFit h he
  have hreleased : ClaimsFit (postRelease e.sec (setClaimEntry
      { e with state := .none, waited := false, tail := 0, cause := none } s)) := { hset with }
  unfold endByTail
  dsimp only
  split
  · exact dropCause_keepsFit e _ hreleased
  · exact hreleased

theorem moveTail_keepsFit (mm : Nat) : EntryKeepsFit (moveTail mm) := fun {e s} h he => by
  unfold moveTail
  split
  · exact h
  · next htail =>
    split
    · split
      · exact endByTail_claimsFit h (entryFitsMode_of_tail he htail rfl fun _ => rfl)
      · exact setClaimEntry_claimsFit h (entryFitsMode_of_tail he htail rfl id)
    · exact setClaimEntry_claimsFit h (entryFitsMode_of_tail he htail rfl id)

theorem tailCountdown_keepsFit (move : Option Nat) : KeepsFit (tailCountdown move) := fun s h => by
  unfold tailCountdown
  split
  · exact onEveryEntry_keepsFit (moveTail_keepsFit _) s h
  · exact h

/-- The next section is not the own one (R19). -/
theorem nextElement_sec_ne {s : State} {x : ChainElement} (hx : nextElement s = some x) :
    x.sec ≠ s.pos.record.sec := by
  have hfix : s.pos.record.validity ≠ .none := fun hnone => by simp [nextElement, chain_noFix hnone] at hx
  exact (chain_sec_lt (chain_head hfix) hx Nat.zero_lt_one).symm

theorem approach_claimsFit {s : State} (hrunning : s.node.mode = .running) (h : ClaimsFit s) :
    ClaimsFit (approach s) := by
  unfold approach
  split
  · exact h
  · next x hx =>
    have hany {f : ClaimEntry} (hsec : f.sec = x.sec) : EntryFitsMode s f :=
      ⟨fun hmode => absurd hrunning hmode, fun _ _ hown => absurd (hsec.symm.trans hown) (nextElement_sec_ne hx)⟩
    unfold onEntry
    split
    · next e he =>
      have hsec : e.sec = x.sec := claimEntry_sec he
      dsimp only
      split
      · split
        · exact setClaimEntry_claimsFit h (hany hsec)
        · exact startClaim_claimsFit h fun _ hf => hany (hf.trans hsec)
      · exact h
    · exact h

/-- Whatever the table of R116 does with an entry of the own section, it leaves the section held. -/
theorem enterTable_ownHeld {s : State} {e : ClaimEntry} (hsec : e.sec = s.pos.record.sec) (htail : e.tail = 0)
    (d : Dir) : OwnHeld (enterTable e d s) := by
  have hset {f : ClaimEntry} (hf : f.sec = e.sec) (hstate : f.state = .holding ∨ f.state = .standoff)
      (hftail : f.tail = e.tail) : OwnHeld (setClaimEntry f s) :=
    ownHeld_setClaimEntry ⟨hstate, hftail.trans htail⟩ (hf.trans hsec)
  have hintrude : OwnHeld (intrude e d s) := by
    have hstands := hset (f := { e with
      state := .standoff, dir := d, cause := some .intrusion, window := none }) rfl (.inr rfl) rfl
    unfold intrude goStandoff
    dsimp only
    split <;> exact hstands
  unfold enterTable
  split
  · next hstate =>
    split
    · exact hset rfl (.inl hstate) rfl
    · exact hintrude
  · split
    · exact hset rfl (.inl rfl) rfl
    · exact hintrude
  · split
    · split
      · exact hset (f := { e with state := .holding, window := none }) rfl (.inl rfl) rfl
      · exact hintrude
    · exact hintrude
  · exact hintrude
  · exact hintrude
  · next hstate => exact hset rfl (.inr hstate) rfl

theorem enterEntry_ownHeld {s : State} {sec : Nat} (hsec : sec = s.pos.record.sec) : OwnHeld (enterEntry sec s) := by
  subst hsec
  have hpos : (makeRoom s.pos.record.sec s).pos = s.pos :=
    blank_pos (makeRoom_frame (G := footClm) rfl _ s) rfl
  unfold enterEntry
  split
  · next hnone => exact fun e he => absurd (hnone.symm.trans he) (by simp)
  · unfold onEntry
    split
    · next e he =>
      have hown : e.sec = (makeRoom s.pos.record.sec s).pos.record.sec := by rw [hpos, claimEntry_sec he]
      exact enterTable_ownHeld (e := { e with tail := 0 }) hown rfl _
    · next hnone =>
      intro e he
      rw [hpos] at he
      exact absurd (hnone.symm.trans he) (by simp)

/-- A change of section leaves the section come into held (R116, R121). -/
theorem crossing_ownHeld {s : State} {before : Option Nat} (hcross : before ≠ some s.pos.record.sec) :
    OwnHeld (crossing before s) := by
  unfold crossing
  rw [if_neg hcross]
  refine enterEntry_ownHeld ?_
  cases before with
  | none => rfl
  | some p =>
    have hpos := blank_pos (onEntry_frame (G := footClm) (sec := p) (fun e s => exitEntry_frame rfl e s) s) rfl
    exact congrArg (fun q : Pos => q.record.sec) hpos.symm

/-- The position check leaves the table fitting, when the own section was held before it or has changed. -/
theorem positionCheck_claimsFit (before move : Option Nat) {s : State}
    (hrest : s.node.mode ≠ .running → ∀ e ∈ s.clm.entries, e.state = .none)
    (hstay : s.node.mode = .running → s.pos.record.validity ≠ .none → before = some s.pos.record.sec → OwnHeld s) :
    ClaimsFit (positionCheck before move s) := by
  unfold positionCheck
  split
  · next hcond =>
    obtain ⟨hrunning, hfix⟩ := hcond
    have hframe : blank footClm (crossing before s) = blank footClm s := crossing_frame rfl before s
    have hnode : (crossing before s).node = s.node := blank_node hframe rfl
    have hcrossed : ClaimsFit (crossing before s) := by
      refine ⟨fun hmode => absurd (by rw [hnode]; exact hrunning) hmode, fun _ _ => ?_⟩
      by_cases hcross : before = some s.pos.record.sec
      · unfold crossing
        rw [if_pos hcross]
        exact hstay hrunning hfix hcross
      · exact crossing_ownHeld hcross
    refine reviewAll_keepsFit _ (approach_claimsFit ?_ ?_)
    · rw [blank_node (onEveryEntry_frame (G := footClm) (fun e s => checkLeaving_frame rfl e s) _) rfl,
        blank_node (tailCountdown_frame (G := footClm) rfl move _) rfl, hnode]
      exact hrunning
    · exact onEveryEntry_keepsFit checkLeaving_keepsFit _ (tailCountdown_keepsFit move _ hcrossed)
  · next hcond =>
    exact ⟨hrest, fun hrunning hfix => absurd ⟨hrunning, hfix⟩ hcond⟩

/-! ## Learning, windows and notices (R101 to R106, R113, R126) -/

theorem learned_claimsFit {s : State} (h : ClaimsFit s) {e f : ClaimEntry} (he : EntryFitsMode s e)
    (hsame : SameOwn e f) : ClaimsFit (setClaimEntry f s) :=
  setClaimEntry_claimsFit h (entryFitsMode_of_sameOwn he hsame)

theorem learnHold_keepsFit (station : Nat) (b : Beacon) (received : Time) (hold : HoldEntry) :
    KeepsFit (learnHold station b received hold) := by
  refine onEntry_keepsFit (fun {e s} h he => ?_) _
  split
  · have hlearned := learned_claimsFit h he (learnHolder_sameOwn (Holder.of station b hold received) e)
    dsimp only
    split
    · exact { hlearned with }
    · exact hlearned
  · exact learned_claimsFit h he (learnClaimant_sameOwn _ (dropHolder station e))

theorem dropOmitted_keepsFit (station : Nat) (b : Beacon) : KeepsFit (dropOmitted station b) := by
  refine onEveryEntry_keepsFit fun {e s} h he => ?_
  split
  · exact h
  · exact learned_claimsFit h he ⟨rfl, rfl, rfl, rfl⟩

theorem reviewChanged_keepsFit (old : State) : KeepsFit (reviewChanged old) := fun s h =>
  foldl_keepsFit (fun sec => review_keepsFit sec) _ s h

theorem clmTakePosition_keepsFit (station : Nat) (b : Beacon) (received : Time) :
    KeepsFit (clmTakePosition station b received) := fun s h =>
  reviewChanged_keepsFit s _ <| dropOmitted_keepsFit station b _ <|
    foldl_keepsFit (fun hold => learnHold_keepsFit station b received hold) b.holds s h

theorem clmTakeClaim_keepsFit (sec : Nat) (c : Claimant) : KeepsFit (clmTakeClaim sec c) := fun s h => by
  refine reviewChanged_keepsFit s _ (onEntry_keepsFit (fun {e s} h he => ?_) sec s h)
  split
  · exact h
  · exact learned_claimsFit h he (learnClaimant_sameOwn c e)

theorem clmTakeRelease_keepsFit (station : Nat) (secs : List Nat) : KeepsFit (clmTakeRelease station secs) :=
  fun s h => by
    refine reviewChanged_keepsFit s _ (foldl_keepsFit (fun sec => onEntry_keepsFit ?_ sec) secs s h)
    exact fun {e s} h he => learned_claimsFit h he ⟨rfl, rfl, rfl, rfl⟩

theorem clmTakes_keepsFit {f : Received → Option (State → State)} (hf : ∀ r g, f r = some g → KeepsFit g) :
    KeepsFit (clmTakes f) := fun s h => by
  unfold clmTakes
  split
  · exact h
  · next r rest _ =>
    split
    · next g hg => exact hf r g hg _ { h with }
    · exact h

/-- The sweep rewrites the records of other stations alone (R106). -/
theorem sweepClaims_keepsFit : KeepsFit sweepClaims := fun s h => by
  refine reviewAll_keepsFit _ ⟨fun hmode => List.forall_mem_map.mpr (h.unclaimed hmode), fun hmode hfix e he => ?_⟩
  have hswept := claimEntry_claimsSwept s s.pos.record.sec
  obtain ⟨g, hg, rfl⟩ := Option.map_eq_some_iff.mp (hswept.symm.trans he)
  exact h.occupied hmode hfix g hg

theorem closeWindow_keepsFit : EntryKeepsFit closeWindow := fun {e s} h he => by
  unfold closeWindow
  split
  · next w hstate _ =>
    have hset (f : ClaimEntry) (hsec : f.sec = e.sec) : ClaimsFit (setClaimEntry f s) :=
      setClaimEntry_claimsFit h (entryFitsMode_of_approaching he (.inl hstate) hsec)
    split
    · exact { hset { e with state := .holding, window := none } rfl with }
    · exact { hset e.toWaiting rfl with }
  · exact h

theorem releaseHeard_keepsFit (sec : Nat) : KeepsFit (releaseHeard sec) := by
  refine onEntry_keepsFit (fun {e s} h _ => ?_) sec
  split
  · exact h
  · exact { h with }

theorem repostClaim_keepsFit (sec : Nat) : KeepsFit (repostClaim sec) := by
  refine onEntry_keepsFit (fun {e s} h he => ?_) sec
  split
  · have hset := learned_claimsFit (f := { e with repostUsed := true }) h he ⟨rfl, rfl, rfl, rfl⟩
    exact { hset with }
  · exact h

theorem onClaimPost_keepsFit (o : SlotOutcome) (p : ClaimPost) : KeepsFit (onClaimPost o p) := fun s h => by
  unfold onClaimPost
  split
  · exact h
  · exact h
  · exact releaseHeard_keepsFit p.sec s h
  · split
    · exact releaseHeard_keepsFit p.sec s h
    · exact repostClaim_keepsFit p.sec s h

theorem onClaimNotice_keepsFit (n : Notice) : KeepsFit (onClaimNotice n) := fun _ h =>
  foldl_keepsFit (fun p => onClaimPost_keepsFit n.outcome p) _ _ { h with }

theorem takeNotice_keepsFit (id : SlotId) {f : Notice → State → State} (hf : ∀ n, KeepsFit (f n)) :
    KeepsFit (takeNotice id f) := fun s h => by
  unfold takeNotice
  split
  · exact h
  · exact hf _ _ { h with }

end Sys2Proof.Proofs
end

section
/-! PROOFS. Every step keeps the settings in range, the record on the map, and every node but a RUNNING one
at rest (R7, R14 to R18, R131, R163, R166, R183, R188). With the claim table that makes the mode invariant. -/

namespace Sys2Proof.Proofs

open Sys2Proof.Machine Sys2Proof.Laws Sys2Proof.Safety

/-- What ModeInv asks of NODE, POS, GOV and DRV. -/
structure DriveInv (s : State) : Prop where
  settings : SettingsInRange s.node.settings
  loading : s.node.store ≠ .idle → s.node.mode = .starting
  noFix : s.node.mode = .starting ∨ s.node.mode = .unconfigured → s.pos.record.validity = .none
  position : PositionInv s.pos
  speed : s.gov.speed ≤ 1023
  width : 1000 ≤ s.gov.width ∧ s.gov.width ≤ 2000
  held : 1000 ≤ s.drv.heldWidth ∧ s.drv.heldWidth ≤ 2000
  rest : s.node.mode ≠ .running →
    s.gov.speed = 0 ∧ s.gov.timer = none ∧ s.gov.width = 1500 ∧ s.gov.direction = .forward
  neutral : s.node.mode ≠ .running →
    s.drv.output = .neutral ∧ s.drv.heldWidth = 1500 ∧ s.drv.brakeLamp = true ∧ s.drv.reverseLamp = false

theorem modeInv_iff (s : State) : ModeInv s ↔ DriveInv s ∧ ClaimsFit s :=
  ⟨fun h => ⟨{ h with }, { h with }⟩, fun ⟨hdrive, hfit⟩ => { hdrive, hfit with }⟩

/-- What leaves NODE, POS, GOV and DRV out of its footprint keeps them. -/
theorem driveInv_of_frame {F : Foot} {s t : State} (hframe : blank F t = blank F s) (hnode : F.node = false)
    (hpos : F.pos = false) (hgov : F.gov = false) (hdrv : F.drv = false) (h : DriveInv s) : DriveInv t := by
  have hnode := blank_node hframe hnode
  have hpos := blank_pos hframe hpos
  have hgov := blank_gov hframe hgov
  have hdrv := blank_drv hframe hdrv
  constructor
  · exact hnode ▸ h.settings
  · exact hnode ▸ h.loading
  · exact hnode ▸ hpos ▸ h.noFix
  · exact hpos ▸ h.position
  · exact hgov ▸ h.speed
  · exact hgov ▸ h.width
  · exact hdrv ▸ h.held
  · exact hnode ▸ hgov ▸ h.rest
  · exact hnode ▸ hdrv ▸ h.neutral

/-! ## Operations on the state -/

/-- An operation keeps the mode invariant. -/
def KeepsModes (f : State → State) : Prop := ∀ s : State, ModeInv s → ModeInv (f s)

/-- The meaning of a command keeps the mode invariant. -/
def StepKeepsModes (f : State → StepResult) : Prop :=
  ∀ {s t : State}, ModeInv s → f s = .next t → ModeInv t

/-- What touches none of the five blocks keeps the invariant. -/
theorem modeInv_of_frame {F : Foot} {s t : State} (h : ModeInv s) (hframe : blank F t = blank F s)
    (hF : (F.node || F.pos || F.gov || F.drv || F.clm) = false) : ModeInv t := by
  simp only [Bool.or_eq_false_iff] at hF
  obtain ⟨⟨⟨⟨hnode, hpos⟩, hgov⟩, hdrv⟩, hclm⟩ := hF
  obtain ⟨hdrive, hfit⟩ := (modeInv_iff s).mp h
  exact (modeInv_iff t).mpr
    ⟨driveInv_of_frame hframe hnode hpos hgov hdrv hdrive, claimsFit_of_frame hframe hnode hpos hclm hfit⟩

/-- A command of CLM. -/
theorem modeInv_of_claims {F : Foot} {f : State → State} {s t : State} (h : ModeInv s) (hf : KeepsFit f)
    (e : whileUp s f = .next t) (hframe : blank F t = blank F s)
    (hF : (F.node || F.pos || F.gov || F.drv) = false) : ModeInv t := by
  simp only [Bool.or_eq_false_iff] at hF
  obtain ⟨⟨⟨hnode, hpos⟩, hgov⟩, hdrv⟩ := hF
  obtain ⟨hdrive, hfit⟩ := (modeInv_iff s).mp h
  refine (modeInv_iff t).mpr ⟨driveInv_of_frame hframe hnode hpos hgov hdrv hdrive, ?_⟩
  unfold whileUp at e
  split at e <;> cases e
  · exact hfit
  · exact hf s hfit

/-- A command guarded by the hold of the node in reset. -/
theorem whileUp_keepsModes {f : State → State} (hf : KeepsModes f) : StepKeepsModes fun s => whileUp s f := by
  intro s t h e
  dsimp only at e
  unfold whileUp at e
  split at e <;> cases e
  · exact h
  · exact hf s h

/-- What an event does only on a condition. -/
theorem keepsModes_ite {p : State → Prop} [DecidablePred p] {f : State → State}
    (hf : ∀ s, p s → ModeInv s → ModeInv (f s)) : KeepsModes (fun s => if p s then f s else s) := fun s h => by
  dsimp only
  split
  · next hp => exact hf s hp h
  · exact h

theorem keepsFit_ite {p : State → Prop} [DecidablePred p] {f : State → State} (hf : KeepsFit f) :
    KeepsFit (fun s => if p s then f s else s) := fun s h => by
  dsimp only
  split
  · exact hf s h
  · exact h

/-! ## POS (R7 to R18) -/

theorem translateTag_place {windows : List TagWindow} {sections : List SectionEntry} {tag : TagNumber}
    {sec d : Nat} (h : translateTag windows sections tag = .place sec d) :
    sec < 32 ∧ (sectionAt sections sec).kind ≠ .absent ∧ d ≤ (sectionAt sections sec).length := by
  unfold translateTag at h
  split at h
  · cases h
  · dsimp only at h
    split at h
    · cases h
    · next hlow =>
      split at h
      · cases h
      · next hkind =>
        split at h
        · cases h
        · next hnear =>
          cases h
          exact ⟨by omega, hkind, by omega⟩

/-- The record a tag is accepted into stands where the tag does (R10). -/
theorem acceptTag_positionInv {p : Pos} (h : PositionInv p) {dir : Travel} {tag : TagNumber} {sec d : Nat}
    (hplace : translateTag p.windows p.sections tag = .place sec d) :
    PositionInv { p with record := acceptTag p.sections p.record dir tag sec d } :=
  { h with
    residue := Nat.zero_le _
    travel := Nat.zero_le _
    place := fun _ => translateTag_place hplace }

/-- A pulse moves the record within its section (R14, R15). -/
theorem pulsedRecord_positionInv {s : State} (h : PositionInv s.pos) (hfix : s.pos.record.validity ≠ .none)
    (v : Validity) : PositionInv { s.pos with record := pulsedRecord s v } :=
  { h with
    residue := Nat.le_of_lt_succ (Nat.mod_lt _ (by decide))
    travel := Nat.min_le_left _ _
    place := fun _ => ⟨(h.place hfix).1, (h.place hfix).2.1, Nat.min_le_left _ _⟩ }

theorem countPulse_positionInv {p : Pos} (h : PositionInv p) :
    PositionInv { p with bins := countPulse p.bins } := by
  obtain ⟨hlength, hbins⟩ := h.bins
  refine { h with bins := ?_ }
  dsimp only
  cases hp : p.bins with
  | nil => simp [hp] at hlength
  | cons b bs =>
    rw [hp] at hlength hbins
    exact ⟨hlength, List.forall_mem_cons.mpr
      ⟨Nat.min_le_left _ _, fun x hx => hbins x (List.mem_cons_of_mem _ hx)⟩⟩

theorem binExpires_positionInv {s : State} (h : PositionInv s.pos) : PositionInv (binExpires s).pos := by
  obtain ⟨hlength, hbins⟩ := h.bins
  refine { h with bins := ⟨?_, ?_⟩, speed := Nat.min_le_left _ _, still := ?_ }
  · simp [binExpires, rotateBins, hlength]
  · exact List.forall_mem_cons.mpr ⟨Nat.zero_le _, fun x hx => hbins x (List.dropLast_subset _ hx)⟩
  · simp only [binExpires, State.setPos_pos]
    split
    · exact Nat.min_le_left _ _
    · exact Nat.zero_le _

/-- A position check on a state whose own section is as before, or has changed. -/
theorem positionCheck_modeInv (before move : Option Nat) {s : State} (hdrive : DriveInv s)
    (hrest : s.node.mode ≠ .running → ∀ e ∈ s.clm.entries, e.state = .none)
    (hstay : s.node.mode = .running → s.pos.record.validity ≠ .none → before = some s.pos.record.sec → OwnHeld s) :
    ModeInv (positionCheck before move s) :=
  (modeInv_iff _).mpr ⟨driveInv_of_frame (positionCheck_frame (G := footClm) rfl before move s) rfl rfl rfl rfl hdrive,
    positionCheck_claimsFit before move hrest hstay⟩

theorem raise_keepsModes (id : CounterId) : KeepsModes (raise id) := fun s h =>
  modeInv_of_frame h (raise_frame (G := footRaise) rfl id s) rfl

/-- A tag is accepted on the layout only, and the section it names is the own one or is entered (R6, R10). -/
theorem tagPlaced_modeInv {tag : TagNumber} {sec d : Nat} {s : State} (hon : onLayout s = true) (h : ModeInv s)
    (hplace : translateTag s.pos.windows s.pos.sections tag = .place sec d) : ModeInv (tagPlaced tag sec d s) := by
  unfold tagPlaced
  split
  · exact h
  · split
    · exact raise_keepsModes _ s h
    · refine positionCheck_modeInv _ _ ?_ h.unclaimed fun hrunning hfix hsame => ?_
      · refine { (modeInv_iff s).mp h |>.1 with
          noFix := fun hoff => absurd hoff ?_
          position := acceptTag_positionInv h.position hplace }
        rcases (onLayout_iff s).mp hon with hmode | hmode | hmode <;> simp [hmode]
      · unfold ownSection at hsame
        split at hsame
        · cases hsame
        · next hstands =>
          have hsec : sec = s.pos.record.sec := (Option.some.inj hsame).symm
          subst hsec
          exact h.occupied hrunning hstands

theorem tagArrives_modeInv (tag : TagNumber) {s : State} (hon : onLayout s = true) (h : ModeInv s) :
    ModeInv (tagArrives tag s) := by
  unfold tagArrives
  split
  · exact raise_keepsModes _ s h
  · exact raise_keepsModes _ s h
  · next sec d hplace => exact tagPlaced_modeInv hon h hplace

theorem movedRecord_eq (s : State) : ∃ v, v ≠ .none ∧
    (s.pos.record.validity ≠ .none → movedRecord s = pulsedRecord s v) := by
  unfold movedRecord
  dsimp only
  rw [odometerMove_eq]
  by_cases hfix : s.pos.record.validity = .none
  · exact ⟨.lost, by decide, fun h => absurd hfix h⟩
  · split
    · exact ⟨.lost, by decide, fun _ => rfl⟩
    · exact ⟨s.pos.record.validity, hfix, fun _ => rfl⟩

/-- A move stays in the own section, which a RUNNING node holds (R15, R116). -/
theorem movePosition_modeInv {s : State} (hfix : s.pos.record.validity ≠ .none) (h : ModeInv s) :
    ModeInv (movePosition s) := by
  obtain ⟨v, -, hmoved⟩ := movedRecord_eq s
  have hdrive : DriveInv (s.setPos { s.pos with record := movedRecord s }) := by
    refine { (modeInv_iff s).mp h |>.1 with noFix := fun hoff => absurd (h.noFix hoff) hfix, position := ?_ }
    rw [hmoved hfix]
    exact pulsedRecord_positionInv h.position hfix v
  have hown (hrunning : s.node.mode = .running) : OwnHeld (s.setPos { s.pos with record := movedRecord s }) := by
    rw [hmoved hfix]
    exact h.occupied hrunning hfix
  unfold movePosition noteLost
  dsimp only
  split
  · exact positionCheck_modeInv _ _ { hdrive with } h.unclaimed fun hrunning _ _ => hown hrunning
  · exact positionCheck_modeInv _ _ hdrive h.unclaimed fun hrunning _ _ => hown hrunning

theorem pulseArrives_keepsModes : KeepsModes pulseArrives := fun s h => by
  have hcounted : ModeInv (s.setPos { s.pos with bins := countPulse s.pos.bins }) :=
    { h with position := countPulse_positionInv h.position }
  by_cases hfix : s.pos.record.validity = .none
  · rwa [pulseArrives_noFix hfix]
  · rw [pulseArrives_fix hfix]
    exact movePosition_modeInv hfix hcounted

theorem binTimer_keepsModes : StepKeepsModes execBinTimer := by
  refine whileUp_keepsModes (keepsModes_ite (p := fun s => runs s.pos.binTimer) fun s _ h => ?_)
  exact { h with position := binExpires_positionInv h.position }

/-! ## GOV (R130 to R147) -/

theorem smallestTerm_le (best : NamedTerm) (l : List NamedTerm) : (smallestTerm best l).value ≤ best.value := by
  induction l generalizing best with
  | nil => exact Nat.le_refl _
  | cons t ts ih =>
    refine (ih _).trans ?_
    split
    · next hless => exact hless.le
    · exact Nat.le_refl _

theorem demand_forward_le (s : State) : demand forwardDemand s ≤ s.node.settings.vmax := by
  unfold demand forwardDemand
  split
  · exact Nat.zero_le _
  · split
    · exact Nat.min_le_left _ _
    · exact Nat.zero_le _

theorem demand_reverse_le (s : State) : demand reverseDemand s ≤ s.node.settings.reverseCap := by
  unfold demand reverseDemand
  split
  · exact Nat.zero_le _
  · split
    · exact Nat.min_le_left _ _
    · exact Nat.zero_le _

theorem firstTerm_le (s : State) : (firstTerm s).value ≤ s.node.settings.vmax := by
  unfold firstTerm
  split
  · exact demand_forward_le s
  · exact demand_forward_le s
  · exact Nat.le_refl _

/-- No target exceeds vmax, the reverse cap and the crawl cap (R133, R140). -/
theorem targetOf_le {s : State} (h : SettingsInRange s.node.settings) : (targetOf s).value ≤ 1023 := by
  obtain ⟨-, hvmax⟩ := h.vmax
  obtain ⟨-, hreverse⟩ := h.reverse
  obtain ⟨-, hcrawl⟩ := h.crawl
  unfold targetOf
  split
  · unfold forwardTarget
    split
    · exact (smallestTerm_le _ _).trans ((firstTerm_le s).trans hvmax)
    · exact Nat.zero_le _
  · have hdemand := demand_reverse_le s
    unfold reverseTarget
    dsimp only
    split
    · split
      · exact hcrawl.trans (by decide)
      · exact (hdemand.trans hreverse).trans (by decide)
    · split <;> exact Nat.zero_le _

theorem limitedSpeed_le {g : Gov} {target : NamedTerm} (hspeed : g.speed ≤ 1023) (htarget : target.value ≤ 1023) :
    limitedSpeed g target ≤ 1023 := by
  unfold limitedSpeed
  split
  · exact (Nat.min_le_left _ _).trans htarget
  · exact max_le htarget ((Nat.sub_le _ _).trans hspeed)

theorem motorWidth_bounds (g : Settings) (v : Nat) (d : Travel) :
    1000 ≤ motorWidth g v d ∧ motorWidth g v d ≤ 2000 := by
  rw [motorWidth_eq]
  split
  · decide
  · split <;> omega

/-- An update happens in RUNNING alone, and leaves speed and width in their ranges (R131, R146, R147). -/
theorem governorStep_modeInv {s : State} (hrunning : s.node.mode = .running) (h : ModeInv s) :
    ModeInv (governorStep s) := by
  have hsettings : SettingsInRange (roleCheck s).node.settings := roleCheck_node s ▸ h.settings
  have hspeed : (governed (roleCheck s)).speed ≤ 1023 :=
    limitedSpeed_le (roleCheck_gov s ▸ h.speed) (targetOf_le hsettings)
  have hwidth := motorWidth_bounds (roleCheck s).node.settings
    (limitedSpeed (roleCheck s).gov (targetOf (roleCheck s))) (updateDirection (roleCheck s))
  rw [governorStep_eq]
  exact { h with
    speed := hspeed
    width := hwidth
    held := hwidth
    rest := fun hmode => absurd hrunning hmode
    neutral := fun hmode => absurd hrunning hmode }

theorem governorUpdate_keepsModes : StepKeepsModes execGovernorUpdate := by
  refine whileUp_keepsModes
    (keepsModes_ite (p := fun s => s.node.mode = .running ∧ runs s.gov.timer) fun s hdue h => ?_)
  exact governorStep_modeInv hdue.1 h

/-! ## DRV (R152 to R166) -/

/-- What ModeInv asks about stays in DRV: the output state, the held width and the two lamps. -/
structure SameOutput (c d : Drv) : Prop where
  output : d.output = c.output
  heldWidth : d.heldWidth = c.heldWidth
  brakeLamp : d.brakeLamp = c.brakeLamp
  reverseLamp : d.reverseLamp = c.reverseLamp

theorem SameOutput.refl (d : Drv) : SameOutput d d := ⟨rfl, rfl, rfl, rfl⟩

theorem modeInv_of_sameOutput {s : State} (h : ModeInv s) {d : Drv} (hd : SameOutput s.drv d) :
    ModeInv (s.setDrv d) := by
  obtain ⟨houtput, hwidth, hbrake, hreverse⟩ := hd
  refine { h with held := ?_, neutral := ?_ }
  · simpa only [State.setDrv_drv, hwidth] using h.held
  · simpa only [State.setDrv_drv, State.setDrv_node, houtput, hwidth, hbrake, hreverse] using h.neutral

/-- An operation of DRV that leaves the output as it is. -/
theorem modeInv_of_driver {s t : State} (h : ModeInv s) (hframe : blank footDrv t = blank footDrv s)
    (hd : SameOutput s.drv t.drv) : ModeInv t := by
  refine modeInv_of_frame (F := { mail := true, counters := true }) (modeInv_of_sameOutput h hd) ?_ rfl
  rw [blank_eq_iff] at hframe ⊢
  simpa [keep] using hframe

theorem throttle_sameOutput (width : Nat) (s : State) : SameOutput s.drv (throttle width s).drv := by
  unfold throttle
  split
  · exact .refl _
  · exact ⟨rfl, rfl, rfl, rfl⟩
  · unfold validThrottle
    dsimp only
    split
    · exact ⟨rfl, rfl, rfl, rfl⟩
    · split
      · exact ⟨rfl, rfl, rfl, rfl⟩
      · unfold endFailsafe
        dsimp only
        split <;> exact ⟨rfl, rfl, rfl, rfl⟩

theorem throttleSilent_sameOutput (s : State) : SameOutput s.drv (throttleSilent s).drv := by
  unfold throttleSilent
  split <;> exact ⟨rfl, rfl, rfl, rfl⟩

theorem functionInput_sameOutput (width : Nat) (s : State) : SameOutput s.drv (functionInput width s).drv := by
  unfold functionInput
  split
  · exact .refl _
  · exact .refl _
  · unfold validFunction
    dsimp only
    split
    · exact ⟨rfl, rfl, rfl, rfl⟩
    · split
      · exact ⟨rfl, rfl, rfl, rfl⟩
      · split <;> exact ⟨rfl, rfl, rfl, rfl⟩

theorem throttlePulse_keepsModes (width : Nat) : KeepsModes (throttle width) := fun s h =>
  modeInv_of_driver h (throttle_frame rfl width s) (throttle_sameOutput width s)

theorem silenceTimer_keepsModes : StepKeepsModes execSilenceTimer := by
  refine whileUp_keepsModes (keepsModes_ite (p := fun s => runs s.drv.silence) fun s _ h => ?_)
  exact modeInv_of_driver h (throttleSilent_frame rfl s) (throttleSilent_sameOutput s)

theorem functionPulse_keepsModes (width : Nat) : KeepsModes (functionInput width) := fun s h =>
  modeInv_of_driver h (functionInput_frame rfl width s) (functionInput_sameOutput width s)

theorem functionSilenceTimer_keepsModes : StepKeepsModes execFunctionSilenceTimer := by
  refine whileUp_keepsModes (keepsModes_ite (p := fun s => runs s.drv.fnSilence) fun s _ h => ?_)
  exact modeInv_of_sameOutput h ⟨rfl, rfl, rfl, rfl⟩

theorem frameTimer_keepsModes : StepKeepsModes execFrameTimer := by
  refine whileUp_keepsModes
    (keepsModes_ite (p := fun s => s.drv.output = .neutral ∧ runs s.drv.frameTimer) fun s _ h => ?_)
  exact modeInv_of_sameOutput h ⟨rfl, rfl, rfl, rfl⟩

/-! ## NODE (R183 to R195) -/

/-- Entering RUNNING counts as a change of own section, so that a SINGLE section come into is held (R192). -/
theorem enterRunning_modeInv {s : State} (hidle : s.node.store = .idle) (h : ModeInv s) :
    ModeInv (enterRunning s) := by
  refine positionCheck_modeInv _ _ ?_ (fun hnot => absurd rfl hnot) fun _ _ hsame => nomatch hsame
  exact { (modeInv_iff s).mp h |>.1 with
    loading := fun hstore => absurd hidle hstore
    noFix := fun hoff => hoff.elim nofun nofun
    rest := fun hnot => absurd rfl hnot
    neutral := fun hnot => absurd rfl hnot }

/-- No load is under way once STARTING is left (R186). -/
theorem store_idle {s : State} (h : ModeInv s) (hmode : s.node.mode ≠ .starting) : s.node.store = .idle :=
  by_contra fun hstore => hmode (h.loading hstore)

theorem listenExpires_keepsModes :
    KeepsModes (fun s => if s.node.mode = .listening ∧ runs s.node.listenTimer then enterRunning s else s) :=
  keepsModes_ite (p := fun s => s.node.mode = .listening ∧ runs s.node.listenTimer) fun _ hdue h =>
    enterRunning_modeInv (store_idle h (by simp [hdue.1])) h

/-- The park test parks a node at rest with every claim NONE (R193). -/
theorem parkTest_modeInv {s : State} (hrunning : s.node.mode = .running) (h : ModeInv s) : ModeInv (parkTest s) := by
  unfold parkTest
  split
  · exact { h with }
  · next hstill =>
    split
    · exact { h with }
    · split
      · exact { h with }
      · split
        · exact { h with }
        · split
          · exact { h with }
          · next hclaims =>
            have hnone : ∀ e ∈ s.clm.entries, e.state = .none := by simpa [claimsAnything] using hclaims
            have hspeed : s.gov.speed = 0 := by_contra fun hmoving => hstill (.inl hmoving)
            exact { h with
              loading := fun hstore => absurd (store_idle h (by simp [hrunning])) hstore
              noFix := fun hoff => hoff.elim nofun nofun
              speed := h.speed
              width := (by decide : 1000 ≤ 1500 ∧ 1500 ≤ 2000)
              held := (by decide : 1000 ≤ 1500 ∧ 1500 ≤ 2000)
              rest := fun _ => ⟨hspeed, rfl, rfl, rfl⟩
              neutral := fun _ => ⟨rfl, rfl, rfl, rfl⟩
              unclaimed := fun _ => hnone
              occupied := nofun }

theorem nodeChange_keepsModes (c : FnChange) : KeepsModes (nodeChange c) := fun s h => by
  unfold nodeChange
  split
  · next hrunning =>
    split
    · exact parkTest_modeInv hrunning h
    · exact h
  · next hparked =>
    split
    · let u := s.setTrl { s.trl with timer := shortenCycle s.trl.timer }
      have hframe : blank footDraw (armBeacon 0 u) = blank footDraw u := armBeacon_frame rfl 0 u
      have hstore : s.node.store = .idle := store_idle h (by simp [hparked])
      have hidle : (armBeacon 0 u).node.store = .idle :=
        (congrArg Node.store (blank_node hframe rfl)).trans hstore
      exact enterRunning_modeInv hidle (modeInv_of_frame (s := u) { h with } hframe rfl)
    · exact h
  · exact h
  · exact h
  · exact h

theorem nodeTakesChange_keepsModes : KeepsModes nodeTakesChange := fun s h => by
  unfold nodeTakesChange
  split
  · exact h
  · exact nodeChange_keepsModes _ _ { h with }

/-! ## The load (R186 to R191) -/

theorem clampTo_bounds {lo hi : Nat} (h : lo ≤ hi) (n : Nat) : lo ≤ clampTo lo hi n ∧ clampTo lo hi n ≤ hi := by
  unfold clampTo
  omega

/-- Every setting is brought into its range (R188). -/
theorem settingsOf_inRange (img : List Byte) : SettingsInRange (settingsOf img) where
  tractor := clampTo_bounds (by decide) _
  coupling := (clampTo_bounds (by decide) _).2
  allowance := (clampTo_bounds (by decide) _).2
  pulse := clampTo_bounds (by decide) _
  lost := clampTo_bounds (by decide) _
  trim := clampTo_bounds (by decide) _
  deadband := clampTo_bounds (by decide) _
  vmax := clampTo_bounds (by decide) _
  reverse := clampTo_bounds (by decide) _
  standstill := clampTo_bounds (by decide) _
  headway := clampTo_bounds (by decide) _
  up := clampTo_bounds (by decide) _
  down := clampTo_bounds (by decide) _
  brake := clampTo_bounds (by decide) _
  crawl := clampTo_bounds (by decide) _
  escStart := (clampTo_bounds (by decide) _).2
  escGain := clampTo_bounds (by decide) _
  beacon := clampTo_bounds (by decide) _
  contention := (clampTo_bounds (by decide) _).2
  lapse := clampTo_bounds (by decide) _
  join := clampTo_bounds (by decide) _
  apart := by
    have hown := clampTo_bounds (lo := 500) (hi := 6000) (by decide) (imageWord img 39)
    have hjoin := clampTo_bounds (lo := 300) (hi := 3000) (by decide) (imageWord img 37)
    have hbreak : (settingsOf img).breakGap =
      max (clampTo 500 6000 (imageWord img 39)) (clampTo 300 3000 (imageWord img 37) + 300) := rfl
    have hjoinGap : (settingsOf img).joinGap = clampTo 300 3000 (imageWord img 37) := rfl
    rw [hbreak, hjoinGap]
    omega
  approach := clampTo_bounds (by decide) _
  window := clampTo_bounds (by decide) _
  margin := clampTo_bounds (by decide) _
  watermark := (clampTo_bounds (by decide) _).2

/-- A load that fails ends in UNCONFIGURED, at rest as it was in STARTING (R187). -/
theorem loadFails_modeInv (cause : FaultCause) (detail : Nat) {s : State} (hstarting : s.node.mode = .starting)
    (h : ModeInv s) : ModeInv (loadFails cause detail s) := by
  have hat : s.node.mode ≠ .running := by simp [hstarting]
  have hfailed : ModeInv (s.setNode { s.node with
      mode := .unconfigured, faultCause := some cause, faultDetail := detail, store := .idle, retryTimer := none }) :=
    { h with
      loading := fun hstore => absurd rfl hstore
      noFix := fun _ => h.noFix (.inl hstarting)
      rest := fun _ => h.rest hat
      neutral := fun _ => h.neutral hat
      unclaimed := fun _ => h.unclaimed hat
      occupied := nofun }
  have hforgot := modeInv_of_frame hfailed (forgetAll_frame (G := footLine) rfl _) rfl
  exact { hforgot with }

theorem readFailed_modeInv {s : State} (hreading : s.node.store = .reading) (h : ModeInv s) :
    ModeInv (readFailed s) := by
  have hstarting : s.node.mode = .starting := h.loading (by simp [hreading])
  unfold readFailed
  split
  · exact { h with loading := fun _ => hstarting }
  · exact loadFails_modeInv _ _ hstarting h

/-- The blocks take their parts while the node still stands nowhere and claims nothing (R189). -/
theorem handSettings_modeInv (img : List Byte) {s : State} (hstarting : s.node.mode = .starting) (h : ModeInv s) :
    ModeInv (handSettings img s) :=
  { h with
    settings := settingsOf_inRange img
    position := { h.position with place := fun hfix => absurd (h.noFix (.inl hstarting)) hfix }
    unclaimed := fun _ => List.forall_mem_map.mpr fun _ _ => rfl
    occupied := fun hrunning => nomatch hstarting.symm.trans hrunning }

theorem enterListening_modeInv {s : State} (hstarting : s.node.mode = .starting) (h : ModeInv s) :
    ModeInv (enterListening s) := by
  have hforgot := modeInv_of_frame h (forgetAll_frame (G := footLine) rfl s) rfl
  have hnode : (forgetAll s).node = s.node := blank_node (forgetAll_frame (G := footLine) rfl s) rfl
  have hat : (forgetAll s).node.mode ≠ .running := by simp [hnode, hstarting]
  refine modeInv_of_frame ?_ (armBeacon_frame (G := footDraw) rfl 0 _) rfl
  exact { hforgot with
    loading := fun hstore => absurd rfl hstore
    noFix := fun hoff => hoff.elim nofun nofun
    rest := fun _ => hforgot.rest hat
    neutral := fun _ => hforgot.neutral hat
    unclaimed := fun _ => hforgot.unclaimed hat
    occupied := nofun }

theorem readCompletes_modeInv (img : List Byte) {s : State} (hreading : s.node.store = .reading) (h : ModeInv s) :
    ModeInv (readCompletes img s) := by
  have hstarting : s.node.mode = .starting := h.loading (by simp [hreading])
  unfold readCompletes
  split
  · exact loadFails_modeInv _ _ hstarting h
  · have hframe : blank footPost (postClamped img s) = blank footPost s :=
      foldl_frame (fun s _ => post_frame rfl _ _ _ _ _ s) _ s
    have hat : (postClamped img s).node.mode = .starting := (congrArg Node.mode (blank_node hframe rfl)).trans hstarting
    exact enterListening_modeInv hat (handSettings_modeInv img hat (modeInv_of_frame h hframe rfl))

theorem storeReadComplete_keepsModes (image : List Byte) : StepKeepsModes (execStoreReadComplete image) := by
  intro s t h e
  unfold execStoreReadComplete at e
  split at e
  · exact whileUp_keepsModes (keepsModes_ite fun _ => readCompletes_modeInv image) h e
  · cases e

theorem loadRetry_keepsModes : StepKeepsModes execLoadRetry := by
  refine whileUp_keepsModes fun s h => ?_
  dsimp only
  split
  · next hretry => exact { h with loading := fun _ => h.loading (by simp [hretry]) }
  · exact h

/-! ## Resets (R184) -/

/-- Every reset leaves NODE in STARTING with the default settings, and the other blocks at their reset values
but for the motor pulse, which runs to its end (R165). -/
theorem modeInv_of_reset {t : State} (hmode : t.node.mode = .starting) (hsettings : t.node.settings = Settings.defaults)
    (hpos : t.pos = Pos.reset) (hgov : t.gov = Gov.reset)
    (hdrv : ∃ pulse, t.drv = { Drv.reset with emitting := pulse }) (hclm : t.clm = Clm.reset) : ModeInv t := by
  obtain ⟨pulse, hdrv⟩ := hdrv
  constructor
  · exact hsettings ▸ defaults_inRange
  · exact fun _ => hmode
  · exact fun _ => hpos ▸ rfl
  · exact hpos ▸ reset_positionInv
  · exact hgov ▸ Nat.zero_le _
  · exact hgov ▸ by decide
  · exact hdrv ▸ (by decide : 1000 ≤ Drv.reset.heldWidth ∧ Drv.reset.heldWidth ≤ 2000)
  · exact fun _ => hgov ▸ ⟨rfl, rfl, rfl, rfl⟩
  · exact fun _ => hdrv ▸ ⟨rfl, rfl, rfl, rfl⟩
  · exact fun _ => hclm ▸ fun _ he => absurd he List.not_mem_nil
  · exact fun hrunning => nomatch hmode.symm.trans hrunning

theorem resetNode_modeInv (cause : ResetCause) (count : Nat) (j : Journal) (c : Counters) (s : State) :
    ModeInv (resetNode cause count j c s) :=
  modeInv_of_reset rfl rfl rfl rfl ⟨_, rfl⟩ rfl

theorem serviceRestart_keepsModes : KeepsModes serviceRestart :=
  keepsModes_ite fun _ _ _ => resetNode_modeInv _ _ _ _ _

/-! ## Every command -/

theorem windowEnds_keepsFit (sec : Nat) : KeepsFit (fun s =>
    if (claimEntry s sec).any (fun e => e.state == .claiming && e.window.isSome) then
      review sec (onEntry sec closeWindow s)
    else s) :=
  keepsFit_ite (p := fun s => (claimEntry s sec).any (fun e => e.state == .claiming && e.window.isSome))
    fun s h => review_keepsFit sec _ (onEntry_keepsFit closeWindow_keepsFit sec s h)

/-- Every command keeps the mode invariant: those of CLM by what they do to the table, those of POS, GOV, DRV
and NODE by what they do there, a reset and the load by what they set, the others by their footprints. -/
theorem exec_keepsModes (c : Instr) {s t : State} (h : ModeInv s) (e : exec c s = .next t) : ModeInv t := by
  cases c with
  | powerOn => cases e; exact resetNode_modeInv _ _ _ _ _
  | supplyBelowDipThreshold => cases e; exact modeInv_of_reset rfl rfl rfl rfl ⟨_, rfl⟩ rfl
  | supplyDip lineHeld => cases e; exact resetNode_modeInv _ _ _ _ _
  | serviceRestart => exact whileUp_keepsModes serviceRestart_keepsModes h e
  | loadRetry => exact loadRetry_keepsModes h e
  | storeNoAck => exact whileUp_keepsModes (keepsModes_ite fun _ => readFailed_modeInv) h e
  | storeByteTimeout => exact whileUp_keepsModes (keepsModes_ite fun _ => readFailed_modeInv) h e
  | storeReadComplete image => exact storeReadComplete_keepsModes image h e
  | listenTimer => exact whileUp_keepsModes listenExpires_keepsModes h e
  | tagRead tag => exact whileUp_keepsModes (keepsModes_ite fun _ => tagArrives_modeInv tag) h e
  | wheelPulse => exact whileUp_keepsModes pulseArrives_keepsModes h e
  | binTimer => exact binTimer_keepsModes h e
  | receiveByte start byte => exact modeInv_of_frame h (execReceiveByte_frame (G := footAir) rfl start byte e) rfl
  | byteGapTimeout => exact modeInv_of_frame h (execByteGapTimeout_frame (G := footAir) rfl e) rfl
  | peerTakesPosition => exact modeInv_of_frame h (execPeerTakesPosition_frame (G := footPeerTake) rfl e) rfl
  | peerSweep => exact modeInv_of_frame h (execPeerSweep_frame (G := footPeer) rfl e) rfl
  | cvyTakesPosition => exact modeInv_of_frame h (execCvyTakesPosition_frame (G := footCvyTake) rfl e) rfl
  | cvyTakesHalt => exact modeInv_of_frame h (execCvyTakesHalt_frame (G := footCvyTake) rfl e) rfl
  | cvyTakesResume => exact modeInv_of_frame h (execCvyTakesResume_frame (G := footCvyTake) rfl e) rfl
  | cvySweep => exact modeInv_of_frame h (execCvySweep_frame (G := footCvy) rfl e) rfl
  | cvyFunctionChange => exact modeInv_of_frame h (execCvyFunctionChange_frame (G := footCvy) rfl e) rfl
  | ownCauseAdd source => exact modeInv_of_frame h (execOwnCauseAdd_frame (G := footCvy) rfl source e) rfl
  | ownCauseRemove source => exact modeInv_of_frame h (execOwnCauseRemove_frame (G := footCvy) rfl source e) rfl
  | acknowledgeGesture => exact modeInv_of_frame h (execAcknowledgeGesture_frame (G := footCvy) rfl e) rfl
  | cvyHaltNotice => exact modeInv_of_frame h (execCvyHaltNotice_frame (G := footCvy) rfl e) rfl
  | clmTakesPosition =>
    refine modeInv_of_claims h (clmTakes_keepsFit fun r g hg => ?_) e
      (execClmTakesPosition_frame (G := footClmTake) rfl e) rfl
    split at hg <;> cases hg
    exact clmTakePosition_keepsFit _ _ _
  | clmTakesClaim =>
    refine modeInv_of_claims h (clmTakes_keepsFit fun r g hg => ?_) e
      (execClmTakesClaim_frame (G := footClmTake) rfl e) rfl
    split at hg <;> cases hg
    exact clmTakeClaim_keepsFit _ _
  | clmTakesRelease =>
    refine modeInv_of_claims h (clmTakes_keepsFit fun r g hg => ?_) e
      (execClmTakesRelease_frame (G := footClmTake) rfl e) rfl
    split at hg <;> cases hg
    exact clmTakeRelease_keepsFit _ _
  | clmSweep =>
    exact modeInv_of_claims h (keepsFit_ite (p := fun s => runs s.clm.sweep) sweepClaims_keepsFit) e
      (execClmSweep_frame (G := footClm) rfl e) rfl
  | claimWindow sec =>
    exact modeInv_of_claims h (windowEnds_keepsFit sec) e (execClaimWindow_frame (G := footClm) rfl sec e) rfl
  | clmClaimNotice =>
    exact modeInv_of_claims h (takeNotice_keepsFit _ onClaimNotice_keepsFit) e
      (execClmClaimNotice_frame (G := footClm) rfl e) rfl
  | clmReleaseNotice => exact modeInv_of_frame h (whileUp_frame (takeNotice_frame (G := footPost) rfl fun _ _ => rfl) e) rfl
  | addRequest slot => exact modeInv_of_frame h (execAddRequest_frame (G := footAir) rfl slot e) rfl
  | releaseAddRequest => exact modeInv_of_frame h (execReleaseAddRequest_frame (G := footAir) rfl e) rfl
  | positionAddRequest => exact modeInv_of_frame h (execPositionAddRequest_frame (G := footAir) rfl e) rfl
  | cancelRequest slot => exact modeInv_of_frame h (execCancelRequest_frame (G := footAir) rfl slot e) rfl
  | beaconTimer => exact modeInv_of_frame h (execBeaconTimer_frame (G := footAir) rfl e) rfl
  | beaconNotice => exact modeInv_of_frame h (execBeaconNotice_frame (G := footAir) rfl e) rfl
  | carrierAppears => exact modeInv_of_frame h (execCarrierAppears_frame (G := footAir) rfl e) rfl
  | carrierAbsent => exact modeInv_of_frame h (execCarrierAbsent_frame (G := footAir) rfl e) rfl
  | quietTimer => exact modeInv_of_frame h (execQuietTimer_frame (G := footAir) rfl e) rfl
  | countdownTick => exact modeInv_of_frame h (execCountdownTick_frame (G := footAir) rfl e) rfl
  | doneSignal => exact modeInv_of_frame h (execDoneSignal_frame (G := footAir) rfl e) rfl
  | transceiverTimeout => exact modeInv_of_frame h (execTransceiverTimeout_frame (G := footAir) rfl e) rfl
  | governorUpdate => exact governorUpdate_keepsModes h e
  | frameTimer => exact frameTimer_keepsModes h e
  | motorPulseEnd => cases e; exact modeInv_of_sameOutput h ⟨rfl, rfl, rfl, rfl⟩
  | throttlePulse width => exact whileUp_keepsModes (throttlePulse_keepsModes width) h e
  | silenceTimer => exact silenceTimer_keepsModes h e
  | functionPulse width => exact whileUp_keepsModes (functionPulse_keepsModes width) h e
  | functionSilenceTimer => exact functionSilenceTimer_keepsModes h e
  | nodeFunctionChange => exact whileUp_keepsModes nodeTakesChange_keepsModes h e
  | cycleTimer => exact modeInv_of_frame h (execCycleTimer_frame (G := footTrl) rfl e) rfl
  | poll r => exact modeInv_of_frame h (execPoll_frame (G := footTrl) rfl r e) rfl
  | discovery r => exact modeInv_of_frame h (execDiscovery_frame (G := footTrl) rfl r e) rfl
  | assign r => exact modeInv_of_frame h (execAssign_frame (G := footTrl) rfl r e) rfl
  | journalPost block => exact modeInv_of_frame h (execJournalPost_frame (G := footPostTake) rfl block e) rfl
  | status => exact modeInv_of_frame h (execStatus_frame (G := footService) rfl e) rfl
  | peers => exact modeInv_of_frame h (execPeers_frame (G := footService) rfl e) rfl
  | claims => exact modeInv_of_frame h (execClaims_frame (G := footService) rfl e) rfl
  | roster => exact modeInv_of_frame h (execRoster_frame (G := footService) rfl e) rfl
  | trailers => exact modeInv_of_frame h (execTrailers_frame (G := footService) rfl e) rfl
  | journal => exact modeInv_of_frame h (execJournal_frame (G := footService) rfl e) rfl
  | counters => exact modeInv_of_frame h (execCounters_frame (G := footService) rfl e) rfl
  | ack index => exact modeInv_of_frame h (execAck_frame (G := footAck) rfl index e) rfl
  | clearCounters => exact modeInv_of_frame h (execClearCounters_frame (G := footClear) rfl e) rfl
  | restart => exact modeInv_of_frame h (execRestart_frame (G := footService) rfl e) rfl
  | unknown => exact modeInv_of_frame h (execUnknown_frame (G := footService) rfl e) rfl
  | busy => exact modeInv_of_frame h (execBusy_frame (G := footService) rfl e) rfl
  | tagGainsLine gain => exact modeInv_of_frame h (execTagGainsLine_frame (G := footTrl) rfl gain e) rfl
  | tagLosesLine place => exact modeInv_of_frame h (execTagLosesLine_frame (G := footTrl) rfl place e) rfl
  | answerEnded => exact modeInv_of_frame h (execAnswerEnded_frame (G := footService) rfl e) rfl

/-! ## The idle node -/

/-- A millisecond runs timers down, and a stopped timer stays stopped (R131). -/
theorem tick_keepsModes : KeepsModes tick := fun s h => by
  unfold tick
  split
  · exact modeInv_of_sameOutput h ⟨rfl, rfl, rfl, rfl⟩
  · exact { h with
      position := { h.position with }
      rest := fun hmode => by
        obtain ⟨hspeed, htimer, hwidth, hdirection⟩ := h.rest hmode
        exact ⟨hspeed, congrArg tickTimer htimer, hwidth, hdirection⟩ }

theorem idle_keepsModes : KeepsModes idle := fun s h => by
  unfold idle
  split
  · split
    · exact modeInv_of_frame h (popResumes_frame (G := footTrl) rfl s) rfl
    · exact tick_keepsModes s h
  · exact { h with }

/-- Settles O58: a step is the idle node's or the command's at the front of the queue, and either keeps
the invariant. -/
theorem stepsKeepTheModes : Obligations.StepsKeepTheModes := by
  intro s t h e
  unfold step at e
  split at e
  · cases e
    exact idle_keepsModes s h
  · next c rest _ => exact exec_keepsModes c (s := s.setPending rest) { h with } e

end Sys2Proof.Proofs
end

section
/-! PROOFS. The claim table read and written entry by entry, and what the tests of CLM say in terms of its
records: freshness, locks, keys, riding, courtesy (R99, R107, R108, R113 to R115). -/

namespace Sys2Proof.Proofs

open Sys2Proof.Machine Sys2Proof.Laws

/-! ## Reading and replacing entries (R99) -/

theorem onEntry_of_claimEntry {s : State} {sec : Nat} {e : ClaimEntry} (he : claimEntry s sec = some e)
    (f : ClaimEntry → State → State) : onEntry sec f s = f e s := by
  simp only [onEntry, he]

theorem onEntry_absent {s : State} {sec : Nat} (he : claimEntry s sec = none) (f : ClaimEntry → State → State) :
    onEntry sec f s = s := by
  simp only [onEntry, he]

theorem claimEntry_setClaimEntry_same {s : State} {e f : ClaimEntry} (he : claimEntry s f.sec = some e) :
    claimEntry (setClaimEntry f s) f.sec = some f := by
  rw [claimEntry_setClaimEntry, he, Option.map_some, if_pos (claimEntry_sec he)]

theorem claimEntry_setClaimEntry_ne {s : State} {f : ClaimEntry} {y : Nat} (hy : y ≠ f.sec) :
    claimEntry (setClaimEntry f s) y = claimEntry s y := by
  rw [claimEntry_setClaimEntry]
  cases hg : claimEntry s y with
  | none => rfl
  | some g => exact congrArg some (if_neg (by rwa [claimEntry_sec hg]))

theorem claimEntry_setClaimEntry_none {s : State} {f : ClaimEntry} {y : Nat} :
    claimEntry (setClaimEntry f s) y = none ↔ claimEntry s y = none := by
  rw [claimEntry_setClaimEntry, Option.map_eq_none_iff]

/-- Of two replacements in one section the later stands. -/
theorem setClaimEntry_setClaimEntry {f g : ClaimEntry} (h : g.sec = f.sec) (s : State) :
    setClaimEntry g (setClaimEntry f s) = setClaimEntry g s := by
  have hentries : (setClaimEntry g (setClaimEntry f s)).clm.entries = (setClaimEntry g s).clm.entries := by
    simp only [setClaimEntry, State.setClm_clm, List.map_map]
    refine List.map_congr_left fun x _ => ?_
    simp only [Function.comp_apply, replaced_sec]
    split
    · rfl
    · next hx => exact if_neg (h ▸ hx)
  exact congrArg (fun es => s.setClm { s.clm with entries := es }) hentries

theorem claimSections_setClaimEntry (f : ClaimEntry) (s : State) :
    claimSections (setClaimEntry f s) = claimSections s := by
  simp only [claimSections, setClaimEntry, State.setClm_clm, List.map_map, Function.comp_def, replaced_sec]

section Table

variable {s : State} (hnodup : (s.clm.entries.map (·.sec)).Nodup)
include hnodup

/-- In a table with one entry for each section an entry is the one its section reads. -/
theorem claimEntry_of_mem {e : ClaimEntry} (he : e ∈ s.clm.entries) : claimEntry s e.sec = some e := by
  cases hfound : claimEntry s e.sec with
  | none => exact absurd (beq_self_eq_true e.sec) (List.find?_eq_none.mp hfound e he)
  | some f =>
    exact congrArg some (List.inj_on_of_nodup_map hnodup (mem_of_claimEntry hfound) he (claimEntry_sec hfound))

/-- Replacing an entry by itself. -/
theorem setClaimEntry_self {e : ClaimEntry} (he : claimEntry s e.sec = some e) : setClaimEntry e s = s := by
  have hentries : s.clm.entries.map (fun f => if f.sec = e.sec then e else f) = s.clm.entries := by
    refine (List.map_congr_left fun f hf => ?_).trans (List.map_id _)
    split
    · next hsec => exact Option.some.inj (he.symm.trans (hsec ▸ claimEntry_of_mem hnodup hf))
    · rfl
  unfold setClaimEntry
  rw [hentries]
  rfl

end Table

/-! ## Directions and freshness -/

/-- The opposite direction. -/
def other (d : Dir) : Dir := if d = .ab then .ba else .ab

theorem flip_eq (d : Dir) : d.flip = other d := by
  cases d <;> rfl

theorem eq_flip_iff (d d' : Dir) : d = d'.flip ↔ d ≠ d' := by
  cases d <;> cases d' <;> decide

theorem dirOf_eq (f : Facing) : dirOf f = if f = .fwd then .ab else .ba := by
  cases f <;> rfl

theorem heard_eq (e : ClaimEntry) (d : Dir) : e.heard d = if d = .ab then e.heardAB else e.heardBA := by
  cases d <;> rfl

/-- A time recorded by CLM is fresh (R107). -/
def Fresh (s : State) (t : Time) : Prop := age s.time t ≤ s.node.settings.peerLapse ∧ age s.time t ≤ 32767

theorem clmFresh_iff (s : State) (t : Time) : clmFresh s t = true ↔ Fresh s t := by
  rw [clmFresh, isFresh, decide_eq_true_iff, Fresh]

/-- The node is inside the section (R109). -/
def Inside (s : State) (e : ClaimEntry) : Prop :=
  (s.pos.record.validity ≠ .none ∧ s.pos.record.sec = e.sec) ∨ 0 < e.tail

theorem insideEntry_iff (s : State) (e : ClaimEntry) : insideEntry s e = true ↔ Inside s e := by
  simp [insideEntry, Inside]

/-! ## Records of other stations -/

/-- A fresh holder in the opposite direction. -/
def Opposes (s : State) (e : ClaimEntry) (h : Holder) : Prop :=
  h ∈ e.holders ∧ h.dir ≠ e.dir ∧ Fresh s h.lastHeard

/-- A holder with a better holder key than the node (R108). -/
def BeatsOwn (s : State) (h : Holder) : Prop :=
  h.size > convoySize s ∨ (h.size = convoySize s ∧ h.station < ownStation s)

/-- A direction is locked, by a holder or by last-hold-heard (R107). -/
def LockedIn (s : State) (e : ClaimEntry) (d : Dir) : Prop :=
  (∃ h ∈ e.holders, h.dir = d ∧ Fresh s h.lastHeard) ∨
    ∃ t, (if d = .ab then e.heardAB else e.heardBA) = some t ∧ Fresh s t

/-- A fresh claimant in the opposite direction (R113). -/
def Rival (s : State) (e : ClaimEntry) (c : Claimant) : Prop :=
  c ∈ e.claimants ∧ c.dir = other e.dir ∧ Fresh s c.received

/-- The node follows a pred that holds the section the same way (R110, R115). -/
def Rides (s : State) (e : ClaimEntry) : Prop :=
  s.cvy.role = .follower ∧ ∃ h ∈ e.holders, h.station = s.cvy.pred ∧ h.dir = e.dir ∧ Fresh s h.lastHeard

/-- The node is a convoy rider: a holder the same way stands in its roster (R113). -/
def ConvoyRider (s : State) (e : ClaimEntry) : Prop :=
  s.cvy.role ≠ .solo ∧ ∃ h ∈ e.holders, h.dir = e.dir ∧ Fresh s h.lastHeard ∧
    (h.station = ownStation s ∨ ∃ m ∈ s.cvy.members, m.station = h.station)

/-- Courtesy holds the node back (R113). -/
def Polite (s : State) (e : ClaimEntry) : Prop :=
  LockedIn s e e.dir ∧ (∃ c, Rival s e c) ∧ ¬ConvoyRider s e

/-- An opposing claimant has a better key than a waited claim of the convoy size of now (R114). -/
def BeatenWaiting (s : State) (e : ClaimEntry) : Prop :=
  ∃ c, Rival s e c ∧ c.waited = true ∧
    (c.size > convoySize s ∨ (c.size = convoySize s ∧ c.station < ownStation s))

/-- An opposing claimant heard within the window has a better key than the claim (R113). -/
def BeatenClaiming (s : State) (e : ClaimEntry) (w : Window) : Prop :=
  ∃ c, Rival s e c ∧ age s.time c.received ≤ age s.time w.start ∧
    ((c.waited = true ∧ e.waited = false) ∨
      (c.waited = e.waited ∧ (c.size > e.size ∨ (c.size = e.size ∧ c.station < ownStation s))))

theorem better_iff (a b : ClaimKey) : a.better b = true ↔ (a.waited = true ∧ b.waited = false) ∨
    (a.waited = b.waited ∧ (a.size > b.size ∨ (a.size = b.size ∧ a.station < b.station))) := by
  unfold ClaimKey.better
  by_cases hwaited : a.waited = b.waited
  · by_cases hsize : a.size = b.size <;> cases hb : b.waited <;> simp [hwaited, hsize, hb]
  · cases ha : a.waited <;> cases hb : b.waited <;> simp_all

section Tests

variable {s : State} {e : ClaimEntry}

theorem locked_iff (d : Dir) : locked s e d = true ↔ LockedIn s e d := by
  simp [locked, LockedIn, Option.any_eq_true, clmFresh_iff, heard_eq]

theorem mem_opposingHolders {h : Holder} : h ∈ opposingHolders s e ↔ Opposes s e h := by
  simp [opposingHolders, Opposes, eq_flip_iff, clmFresh_iff]

theorem mem_opposingInside {h : Holder} : h ∈ opposingInside s e ↔ Opposes s e h ∧ h.inside = true := by
  rw [opposingInside, List.mem_filter, mem_opposingHolders]

theorem mem_opposingClaimants {c : Claimant} : c ∈ opposingClaimants s e ↔ Rival s e c := by
  simp [opposingClaimants, Rival, flip_eq, clmFresh_iff]

/-- A fresh holder in the opposite direction locks it. -/
theorem lockedIn_of_opposes {h : Holder} (hh : Opposes s e h) : LockedIn s e (other e.dir) := by
  obtain ⟨hmem, hdir, hfresh⟩ := hh
  exact .inl ⟨h, hmem, flip_eq e.dir ▸ (eq_flip_iff _ _).mpr hdir, hfresh⟩

theorem opposingHolders_noHolders (h : e.holders = []) : opposingHolders s e = [] := by
  simp [opposingHolders, h]

theorem opposingHolders_unlocked (h : ¬LockedIn s e (other e.dir)) : opposingHolders s e = [] :=
  List.eq_nil_iff_forall_not_mem.mpr fun _ hh => h (lockedIn_of_opposes (mem_opposingHolders.mp hh))

theorem opposingInside_nil (h : opposingHolders s e = []) : opposingInside s e = [] := by
  rw [opposingInside, h]
  rfl

theorem beatsOwn_iff (h : Holder) : beatsOwn s h = true ↔ BeatsOwn s h := by
  unfold beatsOwn holderKeyBetter BeatsOwn
  by_cases hsize : h.size = convoySize s <;> simp [hsize]

theorem canRide_iff : canRide s e = true ↔ Rides s e := by
  simp [canRide, Rides, clmFresh_iff, and_assoc]

theorem convoyRider_iff : convoyRider s e = true ↔ ConvoyRider s e := by
  have hroster (hrole : s.cvy.role ≠ .solo) (station : Nat) : inRoster s station = true ↔
      station = ownStation s ∨ ∃ m ∈ s.cvy.members, m.station = station := by
    simp [inRoster, hrole]
  unfold convoyRider ConvoyRider
  rw [Bool.and_eq_true, bne_iff_ne]
  refine and_congr_right fun hrole => ?_
  simp only [List.any_eq_true, Bool.and_eq_true, beq_iff_eq, hroster hrole, clmFresh_iff, and_assoc]

theorem courtesy_iff : courtesy s e = true ↔ Polite s e := by
  have hrivals : (!(opposingClaimants s e).isEmpty) = true ↔ ∃ c, Rival s e c := by
    simp only [Bool.not_eq_true', List.isEmpty_eq_false_iff_exists_mem, mem_opposingClaimants]
  have hrider : (!convoyRider s e) = true ↔ ¬ConvoyRider s e := by
    rw [Bool.not_eq_true', ← Bool.not_eq_true, convoyRider_iff]
  rw [courtesy, Bool.and_eq_true, Bool.and_eq_true, and_assoc, locked_iff, hrivals, hrider, Polite]

theorem mayClaimAgain_iff : mayClaimAgain s e = true ↔
    ¬LockedIn s e (other e.dir) ∧ ¬BeatenWaiting s e ∧ ¬Polite s e := by
  have hbeaten : (opposingClaimants s e).any (fun c => c.key.better ⟨true, convoySize s, ownStation s⟩) = true ↔
      BeatenWaiting s e := by
    simp [BeatenWaiting, mem_opposingClaimants, better_iff, Claimant.key]
  simp only [mayClaimAgain, Bool.and_eq_true, Bool.not_eq_true', ← Bool.not_eq_true, locked_iff, flip_eq, hbeaten,
    courtesy_iff, and_assoc]

end Tests

/-! ## Choosing a holder (log entry 12) -/

/-- Acting with one of several holders is acting with the station of one of them, once free values may have
been drawn. -/
theorem withHolder_mem {hs : List Holder} (hne : hs ≠ []) (f : Nat → State → State) (s : State) :
    ∃ h ∈ hs, ∃ n, withHolder hs f s = f h.station (s.setDraws n) := by
  match hs with
  | [] => exact absurd rfl hne
  | [h] => exact ⟨h, List.mem_singleton_self h, s.draws, rfl⟩
  | h :: g :: rest =>
    refine ⟨(h :: g :: rest).getD (Config.freePick s.draws % (h :: g :: rest).length) h, ?_, s.draws + 1, rfl⟩
    have hlt : Config.freePick s.draws % (h :: g :: rest).length < (h :: g :: rest).length :=
      Nat.mod_lt _ (Nat.succ_pos _)
    rw [List.getD_eq_getElem _ _ hlt]
    exact List.getElem_mem hlt

end Sys2Proof.Proofs
end

section
/-! PROOFS. What a review does with an entry, by its state: the branch it takes, and what then stands in the
table and in the mail (R109, R114, R115, R117, R119, R120). -/

namespace Sys2Proof.Proofs

open Sys2Proof.Machine Sys2Proof.Laws

/-! ## The tests read no part of the table -/

section Frame

variable {s t : State} (h : blank footClm t = blank footClm s) (e : ClaimEntry)
include h

theorem canRide_frame : canRide t e = canRide s e :=
  (congrArg (canRide · e) (eq_of_blank_footClm h)).trans rfl

theorem mayClaimAgain_frame : mayClaimAgain t e = mayClaimAgain s e :=
  (congrArg (mayClaimAgain · e) (eq_of_blank_footClm h)).trans rfl

theorem opposingInside_frame : opposingInside t e = opposingInside s e :=
  (congrArg (opposingInside · e) (eq_of_blank_footClm h)).trans rfl

end Frame

/-- A standoff is in the mail: an own-cause add, unless another entry stands so, and the STANDOFF record
(R119, R121). -/
theorem goStandoff_mail (e : ClaimEntry) (c : StandoffCause) (station : Nat) (role : StandoffRole) (s : State) :
    (goStandoff e c station role s).mail.clmCauses = s.mail.clmCauses ++
        (if ∃ g ∈ s.clm.entries, g.sec ≠ e.sec ∧ g.state = .standoff ∧ g.cause = some c then [] else [⟨true, c.halt⟩]) ∧
      (goStandoff e c station role s).mail.posts =
        s.mail.posts ++ [⟨.clm, .standoff, .num e.sec, .num station, .role role⟩] := by
  have hother : otherStandoff s e.sec c = true ↔
      ∃ g ∈ s.clm.entries, g.sec ≠ e.sec ∧ g.state = .standoff ∧ g.cause = some c := by
    simp [otherStandoff, and_assoc]
  simp only [← hother]
  unfold goStandoff
  dsimp only
  split
  · exact ⟨(List.append_nil _).symm, rfl⟩
  · exact ⟨rfl, rfl⟩

/-! ## The parts of a review, branch by branch -/

/-- The opposite holders that a hold outside yields to (R117). -/
def yieldsTo (s : State) (e : ClaimEntry) : List Holder :=
  (opposingHolders s e).filter (fun h => h.inside || beatsOwn s h)

/-- The opposite holders inside that a hold inside loses a standoff to (R119). -/
def losesTo (s : State) (e : ClaimEntry) : List Holder := (opposingInside s e).filter (beatsOwn s)

/-- A hold outside has yielded to a station (R117). -/
def yielded (e : ClaimEntry) (station : Nat) (s : State) : State :=
  post .clm .claimYielded (.num e.sec) (.num station) noDetail (postRelease e.sec (setClaimEntry e.toWaiting s))

/-- The winner of a standoff records a loser, once (R120). -/
def winnerNoted (e : ClaimEntry) (station : Nat) (s : State) : State :=
  if e.noted = some station then s
  else post .clm .standoff (.num e.sec) (.num station) (.role .winner) (setClaimEntry { e with noted := some station } s)

/-- The entry of a standoff (R119, R121). -/
def standing (c : StandoffCause) (e : ClaimEntry) : ClaimEntry :=
  { e with state := .standoff, cause := some c, window := none }

/-- The entry of a claim that begins (R110, R112). -/
def claimed (s : State) (e : ClaimEntry) : ClaimEntry :=
  { e with state := .claiming, size := convoySize s, window := some (newWindow s), repostUsed := false }

/-- The entry once standoff noted has been settled (R120). -/
def noteSettled (s : State) (e : ClaimEntry) : ClaimEntry :=
  { e with noted := if opposingInside s e = [] then none else e.noted }

section Parts

variable {s : State} {e : ClaimEntry}

theorem mem_yieldsTo {h : Holder} : h ∈ yieldsTo s e ↔ Opposes s e h ∧ (h.inside = true ∨ BeatsOwn s h) := by
  rw [yieldsTo, List.mem_filter, mem_opposingHolders, Bool.or_eq_true, beatsOwn_iff]

theorem mem_losesTo {h : Holder} : h ∈ losesTo s e ↔ (Opposes s e h ∧ h.inside = true) ∧ BeatsOwn s h := by
  rw [losesTo, List.mem_filter, mem_opposingInside, beatsOwn_iff]

theorem reviewRiding_keeps (h : e.state = .riding → Inside s e ∨ Rides s e) : reviewRiding e s = s := by
  refine if_neg fun ⟨hstate, hout, hlost⟩ => ?_
  exact (h hstate).elim (hout ∘ (insideEntry_iff s e).mpr) (hlost ∘ canRide_iff.mpr)

theorem reviewRiding_claims (hstate : e.state = .riding) (hout : ¬Inside s e) (hlost : ¬Rides s e) :
    reviewRiding e s = startClaim e s :=
  if_pos ⟨hstate, mt (insideEntry_iff s e).mp hout, mt canRide_iff.mp hlost⟩

theorem reviewHeld_keeps (h : e.state = .holding → Inside s e ∨ yieldsTo s e = []) : reviewHeld e s = s := by
  unfold reviewHeld
  split
  · next hcond =>
    obtain ⟨hstate, hout⟩ := hcond
    have hnone : yieldsTo s e = [] := (h hstate).resolve_left (hout ∘ (insideEntry_iff s e).mpr)
    rw [← yieldsTo, hnone]
    rfl
  · rfl

theorem reviewHeld_yields (hstate : e.state = .holding) (hout : ¬Inside s e) (hsome : yieldsTo s e ≠ []) :
    ∃ h ∈ yieldsTo s e, ∃ n, reviewHeld e s = yielded e h.station (s.setDraws n) := by
  rw [reviewHeld, if_pos ⟨hstate, mt (insideEntry_iff s e).mp hout⟩]
  exact withHolder_mem hsome (yielded e) s

theorem reviewInside_keeps (h : e.state = .holding → ¬Inside s e ∨ opposingInside s e = []) :
    reviewInside e s = s := by
  unfold reviewInside
  split
  · next hcond =>
    obtain ⟨hstate, hin⟩ := hcond
    have hnone : opposingInside s e = [] := (h hstate).resolve_left (not_not.mpr ((insideEntry_iff s e).mp hin))
    rw [hnone]
    rfl
  · rfl

theorem reviewInside_loses (hstate : e.state = .holding) (hin : Inside s e) (hsome : losesTo s e ≠ []) :
    ∃ h ∈ losesTo s e, ∃ n, reviewInside e s = goStandoff e .standoff h.station .loser (s.setDraws n) := by
  rw [reviewInside, if_pos ⟨hstate, (insideEntry_iff s e).mpr hin⟩, ← losesTo]
  dsimp only
  rw [if_neg (by rwa [List.isEmpty_iff])]
  exact withHolder_mem hsome (fun station => goStandoff e .standoff station .loser) s

theorem reviewInside_wins (hstate : e.state = .holding) (hin : Inside s e) (hnone : losesTo s e = [])
    (hsome : opposingInside s e ≠ []) :
    ∃ h ∈ opposingInside s e, ∃ n, reviewInside e s = winnerNoted e h.station (s.setDraws n) := by
  rw [reviewInside, if_pos ⟨hstate, (insideEntry_iff s e).mpr hin⟩, ← losesTo]
  dsimp only
  rw [if_pos (by rwa [List.isEmpty_iff])]
  exact withHolder_mem hsome (winnerNoted e) s

theorem reviewNoted_eq : reviewNoted e s = if opposingInside s e = [] then setClaimEntry { e with noted := none } s
    else s := by
  simp only [reviewNoted, List.isEmpty_iff]

theorem reviewNoted_keeps (h : opposingInside s e ≠ []) : reviewNoted e s = s := by
  rw [reviewNoted_eq, if_neg h]

theorem reviewNoted_clears (h : opposingInside s e = []) :
    reviewNoted e s = setClaimEntry { e with noted := none } s := by
  rw [reviewNoted_eq, if_pos h]

/-- Settling standoff noted is no message. -/
theorem reviewNoted_mail : (reviewNoted e s).mail = s.mail := by
  rw [reviewNoted_eq]
  split <;> rfl

theorem reviewNoted_draws : (reviewNoted e s).draws = s.draws := by
  rw [reviewNoted_eq]
  split <;> rfl

theorem claimEntry_reviewNoted (he : claimEntry s e.sec = some e) :
    claimEntry (reviewNoted e s) e.sec = some (noteSettled s e) := by
  by_cases h : opposingInside s e = []
  · rw [reviewNoted_clears h, noteSettled, if_pos h]
    exact claimEntry_setClaimEntry_same (f := { e with noted := none }) he
  · rw [reviewNoted_keeps h, noteSettled, if_neg h, he]

theorem reviewWaiting_notWaiting (h : e.state ≠ .waiting) : reviewWaiting e s = s := if_neg h

theorem reviewWaiting_rides (hstate : e.state = .waiting) (hrides : canRide s e = true) :
    reviewWaiting e s = setClaimEntry { e with state := .riding } s := by
  rw [reviewWaiting, if_pos hstate, if_pos hrides]

theorem reviewWaiting_claims (hstate : e.state = .waiting) (hrides : ¬canRide s e = true)
    (hmay : mayClaimAgain s e = true) : reviewWaiting e s = startClaim e s := by
  rw [reviewWaiting, if_pos hstate, if_neg hrides, if_pos hmay]

theorem reviewWaiting_waits (hstate : e.state = .waiting) (hrides : ¬canRide s e = true)
    (hmay : ¬mayClaimAgain s e = true) : reviewWaiting e s = s := by
  rw [reviewWaiting, if_pos hstate, if_neg hrides, if_neg hmay]

end Parts

/-! ## A review by the state of its entry -/

/-- The last two parts of a review, on a WAITING entry. -/
def waitReviewed (s : State) (e : ClaimEntry) : State := reviewWaiting (noteSettled s e) (reviewNoted e s)

section Review

variable {s : State} {e : ClaimEntry}

theorem review_absent {sec : Nat} (h : claimEntry s sec = none) : review sec s = s := by
  rw [review, h]
  rfl

/-- An entry in NONE is not reviewed (log entry 40). -/
theorem review_none {sec : Nat} (he : claimEntry s sec = some e) (hstate : e.state = .none) : review sec s = s := by
  rw [review, he]
  exact if_neg (by simp [hstate])

/-- The last two parts, on an entry that the first three leave in the table. -/
theorem review_ends {u : State} {f : ClaimEntry} (hf : claimEntry u f.sec = some f) :
    onEntry f.sec reviewWaiting (onEntry f.sec reviewNoted u) = reviewWaiting (noteSettled u f) (reviewNoted f u) := by
  rw [onEntry_of_claimEntry hf, onEntry_of_claimEntry (claimEntry_reviewNoted hf)]

variable (he : claimEntry s e.sec = some e)
include he

theorem review_parts (hstate : e.state ≠ .none) : review e.sec s =
    onEntry e.sec reviewWaiting (onEntry e.sec reviewNoted (onEntry e.sec reviewInside
      (onEntry e.sec reviewHeld (reviewRiding e s)))) := by
  rw [review, he, if_pos (by simpa using hstate), onEntry_of_claimEntry he]

/-- A review whose first three parts find nothing to do. -/
theorem review_quiet (hstate : e.state ≠ .none) (hriding : e.state = .riding → Inside s e ∨ Rides s e)
    (hheld : e.state = .holding → Inside s e ∨ yieldsTo s e = [])
    (hinside : e.state = .holding → ¬Inside s e ∨ opposingInside s e = []) :
    review e.sec s = reviewWaiting (noteSettled s e) (reviewNoted e s) := by
  rw [review_parts he hstate, reviewRiding_keeps hriding, onEntry_of_claimEntry he, reviewHeld_keeps hheld,
    onEntry_of_claimEntry he, reviewInside_keeps hinside, review_ends he]

theorem review_waiting (hstate : e.state = .waiting) : review e.sec s = waitReviewed s e :=
  review_quiet he (by simp [hstate]) (by simp [hstate]) (by simp [hstate]) (by simp [hstate])

/-- A hold outside with nobody to yield to, and a hold inside that meets nobody, stay. -/
theorem review_holds (hstate : e.state = .holding) (hheld : Inside s e ∨ yieldsTo s e = [])
    (hinside : ¬Inside s e ∨ opposingInside s e = []) : review e.sec s = reviewNoted e s := by
  rw [review_quiet he (by simp [hstate]) (by simp [hstate]) (fun _ => hheld) (fun _ => hinside)]
  exact reviewWaiting_notWaiting (by simp [noteSettled, hstate])

/-- CLAIMING, STANDOFF and a ride that stands stay. -/
theorem review_stays (hstate : e.state = .claiming ∨ e.state = .standoff ∨
    (e.state = .riding ∧ (Inside s e ∨ Rides s e))) : review e.sec s = reviewNoted e s := by
  have hquiet : review e.sec s = reviewWaiting (noteSettled s e) (reviewNoted e s) := by
    rcases hstate with hstate | hstate | ⟨hstate, hrides⟩
    · exact review_quiet he (by simp [hstate]) (by simp [hstate]) (by simp [hstate]) (by simp [hstate])
    · exact review_quiet he (by simp [hstate]) (by simp [hstate]) (by simp [hstate]) (by simp [hstate])
    · exact review_quiet he (by simp [hstate]) (fun _ => hrides) (by simp [hstate]) (by simp [hstate])
  rw [hquiet]
  refine reviewWaiting_notWaiting ?_
  rcases hstate with hstate | hstate | ⟨hstate, -⟩ <;> simp [noteSettled, hstate]

theorem review_lostRide (hstate : e.state = .riding) (hout : ¬Inside s e) (hlost : ¬Rides s e) :
    review e.sec s = reviewNoted (claimed s e) (startClaim e s) := by
  have hclaimed : claimEntry (startClaim e s) (claimed s e).sec = some (claimed s e) :=
    claimEntry_setClaimEntry_same (f := claimed s e) he
  rw [review_parts he (by simp [hstate]), reviewRiding_claims hstate hout hlost]
  change onEntry (claimed s e).sec reviewWaiting (onEntry (claimed s e).sec reviewNoted
    (onEntry (claimed s e).sec reviewInside (onEntry (claimed s e).sec reviewHeld (startClaim e s)))) = _
  rw [onEntry_of_claimEntry hclaimed, reviewHeld_keeps (by simp [claimed]), onEntry_of_claimEntry hclaimed,
    reviewInside_keeps (by simp [claimed]), review_ends hclaimed]
  exact reviewWaiting_notWaiting nofun

theorem review_yields (hstate : e.state = .holding) (hout : ¬Inside s e) (hsome : yieldsTo s e ≠ []) :
    ∃ h ∈ yieldsTo s e, ∃ n, let u := yielded e h.station (s.setDraws n)
      claimEntry u e.sec = some e.toWaiting ∧
        review e.sec s = waitReviewed u e.toWaiting := by
  obtain ⟨h, hh, n, hyields⟩ := reviewHeld_yields hstate hout hsome
  have hwaiting : claimEntry (yielded e h.station (s.setDraws n)) e.sec = some e.toWaiting :=
    claimEntry_setClaimEntry_same (f := e.toWaiting) (s := s.setDraws n) he
  refine ⟨h, hh, n, hwaiting, ?_⟩
  rw [review_parts he (by simp [hstate]), reviewRiding_keeps (by simp [hstate]), onEntry_of_claimEntry he, hyields,
    onEntry_of_claimEntry hwaiting, reviewInside_keeps (by simp [ClaimEntry.toWaiting])]
  exact review_ends (f := e.toWaiting) hwaiting

theorem review_loses (hstate : e.state = .holding) (hin : Inside s e) (hsome : losesTo s e ≠ []) :
    ∃ h ∈ losesTo s e, ∃ n, let u := goStandoff e .standoff h.station .loser (s.setDraws n)
      claimEntry u e.sec = some (standing .standoff e) ∧ review e.sec s = reviewNoted (standing .standoff e) u := by
  obtain ⟨h, hh, n, hloses⟩ := reviewInside_loses hstate hin hsome
  have hstands : claimEntry (goStandoff e .standoff h.station .loser (s.setDraws n)) e.sec =
      some (standing .standoff e) := by
    rw [claimEntry_congr (congrArg Clm.entries (goStandoff_clm ..))]
    exact claimEntry_setClaimEntry_same (f := standing .standoff e) (s := s.setDraws n) he
  refine ⟨h, hh, n, hstands, ?_⟩
  rw [review_parts he (by simp [hstate]), reviewRiding_keeps (by simp [hstate]), onEntry_of_claimEntry he,
    reviewHeld_keeps fun _ => .inl hin, onEntry_of_claimEntry he, hloses]
  exact (review_ends (f := standing .standoff e) hstands).trans (reviewWaiting_notWaiting nofun)

theorem review_wins (hstate : e.state = .holding) (hin : Inside s e) (hnone : losesTo s e = [])
    (hsome : opposingInside s e ≠ []) : ∃ h ∈ opposingInside s e, ∃ n,
      claimEntry (winnerNoted e h.station (s.setDraws n)) e.sec = some { e with noted := some h.station } ∧
        review e.sec s = winnerNoted e h.station (s.setDraws n) := by
  obtain ⟨h, hh, n, hwins⟩ := reviewInside_wins hstate hin hnone hsome
  have hnoted : claimEntry (winnerNoted e h.station (s.setDraws n)) e.sec = some { e with noted := some h.station } := by
    unfold winnerNoted
    split
    · next hsame => exact he.trans (by rw [← hsame])
    · exact claimEntry_setClaimEntry_same (f := { e with noted := some h.station }) (s := s.setDraws n) he
  have hframe : blank footClm (winnerNoted e h.station (s.setDraws n)) = blank footClm s := by
    unfold winnerNoted
    split <;> simp (disch := decide)
  have hinside : opposingInside (winnerNoted e h.station (s.setDraws n)) { e with noted := some h.station } ≠ [] := by
    rw [opposingInside_frame hframe]
    exact hsome
  refine ⟨h, hh, n, hnoted, ?_⟩
  rw [review_parts he (by simp [hstate]), reviewRiding_keeps (by simp [hstate]), onEntry_of_claimEntry he,
    reviewHeld_keeps fun _ => .inl hin, onEntry_of_claimEntry he, hwins]
  refine (review_ends (f := { e with noted := some h.station }) hnoted).trans ?_
  rw [reviewNoted_keeps hinside]
  exact reviewWaiting_notWaiting (by simp [noteSettled, hstate])

end Review

/-! ## What a WAITING entry comes to (R114, R115) -/

section Waiting

variable {s : State} {e : ClaimEntry} (he : claimEntry s e.sec = some e) (hstate : e.state = .waiting)

theorem canRide_noted : canRide (reviewNoted e s) (noteSettled s e) = true ↔ Rides s e :=
  (Bool.eq_iff_iff.mp (canRide_frame (reviewNoted_frame rfl e s) _)).trans canRide_iff

theorem mayClaimAgain_noted : mayClaimAgain (reviewNoted e s) (noteSettled s e) = true ↔
    ¬LockedIn s e (other e.dir) ∧ ¬BeatenWaiting s e ∧ ¬Polite s e :=
  (Bool.eq_iff_iff.mp (mayClaimAgain_frame (reviewNoted_frame rfl e s) _)).trans mayClaimAgain_iff

include he hstate

theorem waitReviewed_rides (hrides : Rides s e) :
    claimEntry (waitReviewed s e) e.sec = some { noteSettled s e with state := .riding } ∧
      (waitReviewed s e).mail = s.mail := by
  rw [waitReviewed, reviewWaiting_rides (e := noteSettled s e) hstate (canRide_noted.mpr hrides)]
  exact ⟨claimEntry_setClaimEntry_same (f := { noteSettled s e with state := .riding }) (claimEntry_reviewNoted he),
    reviewNoted_mail⟩

theorem waitReviewed_waits (hrides : ¬Rides s e)
    (hback : LockedIn s e (other e.dir) ∨ BeatenWaiting s e ∨ Polite s e) :
    claimEntry (waitReviewed s e) e.sec = some (noteSettled s e) ∧ (waitReviewed s e).mail = s.mail := by
  have hmay : ¬mayClaimAgain (reviewNoted e s) (noteSettled s e) = true := fun hmay => by
    obtain ⟨hunlocked, hunbeaten, himpolite⟩ := mayClaimAgain_noted.mp hmay
    rcases hback with h | h | h <;> contradiction
  rw [waitReviewed, reviewWaiting_waits (e := noteSettled s e) hstate (mt canRide_noted.mp hrides) hmay]
  exact ⟨claimEntry_reviewNoted he, reviewNoted_mail⟩

theorem waitReviewed_claims (hrides : ¬Rides s e)
    (hfree : ¬LockedIn s e (other e.dir) ∧ ¬BeatenWaiting s e ∧ ¬Polite s e) :
    claimEntry (waitReviewed s e) e.sec = some (claimed s (noteSettled s e)) ∧
      (waitReviewed s e).mail = { s.mail with claimRequests := s.mail.claimRequests ++
        [.add (.claim e.sec e.dir e.waited (convoySize s))] } := by
  have hsame : claimed (reviewNoted e s) (noteSettled s e) = claimed s (noteSettled s e) :=
    (congrArg (claimed · (noteSettled s e)) (eq_of_blank_footClm (reviewNoted_frame rfl e s))).trans rfl
  have hthere : claimEntry (reviewNoted e s) (claimed (reviewNoted e s) (noteSettled s e)).sec =
      some (noteSettled s e) := claimEntry_reviewNoted he
  have hset := claimEntry_setClaimEntry_same hthere
  have hsize : convoySize (reviewNoted e s) = convoySize s := congrArg ClaimEntry.size hsame
  rw [waitReviewed, reviewWaiting_claims (e := noteSettled s e) hstate (mt canRide_noted.mp hrides) (mayClaimAgain_noted.mpr hfree)]
  refine ⟨hset.trans (congrArg some hsame), ?_⟩
  change { (reviewNoted e s).mail with claimRequests := (reviewNoted e s).mail.claimRequests ++
    [Request.add (.claim e.sec e.dir e.waited (convoySize (reviewNoted e s)))] } = _
  rw [reviewNoted_mail, hsize]

end Waiting

end Sys2Proof.Proofs
end

section
/-! PROOFS. A review settles an entry (R109, R112 to R115, R117, R119, R120). -/

namespace Sys2Proof.Proofs

open Sys2Proof.Machine Sys2Proof.Laws

/-- Settles O33: the branch a review takes by the state of its entry, and what then stands. -/
theorem reviewSettlesAnEntry : Obligations.ReviewSettlesAnEntry := by
  intro e s he fresh opposite own better rides oppositeDir heard lockedIn rival beaten rider polite inside t after
  have hyields_nil (h : ∀ h, opposite h → h.inside = false ∧ ¬better h) : yieldsTo s e = [] := by
    refine List.eq_nil_iff_forall_not_mem.mpr fun g hg => ?_
    obtain ⟨hopp, hgoes⟩ := mem_yieldsTo.mp hg
    obtain ⟨hout, hworse⟩ := h g hopp
    exact hgoes.elim (by simp [hout]) hworse
  have hinside_nil (h : ∀ h, opposite h → h.inside = false) : opposingInside s e = [] := by
    refine List.eq_nil_iff_forall_not_mem.mpr fun g hg => ?_
    obtain ⟨hopp, hin⟩ := mem_opposingInside.mp hg
    exact absurd (h g hopp) (by simp [hin])
  have hloses_nil (h : ∀ h, opposite h → h.inside = true → ¬better h) : losesTo s e = [] := by
    refine List.eq_nil_iff_forall_not_mem.mpr fun g hg => ?_
    obtain ⟨⟨hopp, hin⟩, hbeats⟩ := mem_losesTo.mp hg
    exact h g hopp hin hbeats
  have hstays (h : t = reviewNoted e s) : claimEntry t e.sec = some (noteSettled s e) ∧ t.mail = s.mail :=
    h ▸ ⟨claimEntry_reviewNoted he, reviewNoted_mail⟩
  refine ⟨?none, ?yields, ?holds, ?loses, ?stands, ?lostRide, ?rides, ?waitingRides, ?waits, ?claims⟩
  case none => exact review_none he
  case yields =>
    rintro hstate hout ⟨g, hg, hgoes⟩
    obtain ⟨h, hh, n, hwaiting, hreview⟩ :=
      review_yields he hstate hout (List.ne_nil_of_mem (mem_yieldsTo.mpr ⟨hg, hgoes⟩))
    obtain ⟨hopp, hbeats⟩ := mem_yieldsTo.mp hh
    by_cases hrides : rides
    · obtain ⟨hentry, hmail⟩ := waitReviewed_rides (e := e.toWaiting) hwaiting rfl hrides
      rw [← hreview] at hentry hmail
      exact ⟨⟨_, hentry, by rw [if_pos hrides], rfl⟩, (congrArg Mail.releaseRequests hmail).trans rfl, h, hopp, hbeats,
        (congrArg Mail.posts hmail).trans rfl⟩
    · obtain ⟨hentry, hmail⟩ := waitReviewed_waits (e := e.toWaiting) hwaiting rfl hrides (.inl (lockedIn_of_opposes hopp))
      rw [← hreview] at hentry hmail
      exact ⟨⟨_, hentry, by rw [if_neg hrides]; rfl, rfl⟩, (congrArg Mail.releaseRequests hmail).trans rfl, h, hopp,
        hbeats, (congrArg Mail.posts hmail).trans rfl⟩
  case holds =>
    intro hstate hout hnone
    obtain ⟨hentry, hmail⟩ := hstays (review_holds he hstate (.inr (hyields_nil hnone)) (.inl hout))
    exact ⟨⟨_, hentry, hstate⟩, hmail⟩
  case loses =>
    rintro hstate hin ⟨g, hg, hgin, hgbetter⟩
    obtain ⟨h, hh, n, hstands, hreview⟩ :=
      review_loses he hstate hin (List.ne_nil_of_mem (mem_losesTo.mpr ⟨⟨hg, hgin⟩, hgbetter⟩))
    obtain ⟨⟨hopp, hhin⟩, hbeats⟩ := mem_losesTo.mp hh
    have hentry := claimEntry_reviewNoted (e := standing .standoff e) hstands
    have hmail := reviewNoted_mail (e := standing .standoff e) (s := goStandoff e .standoff h.station .loser (s.setDraws n))
    obtain ⟨hcauses, hposts⟩ := goStandoff_mail e .standoff h.station .loser (s.setDraws n)
    rw [← hreview] at hentry hmail
    exact ⟨⟨_, hentry, rfl, rfl, rfl, rfl⟩, (congrArg Mail.clmCauses hmail).trans hcauses, h, hopp, hhin, hbeats,
      (congrArg Mail.posts hmail).trans hposts⟩
  case stands =>
    intro hstate hin hworse
    by_cases hmeets : ∃ h, opposite h ∧ h.inside = true
    · obtain ⟨g, hg, hgin⟩ := hmeets
      obtain ⟨h, hh, n, hentry, hreview⟩ := review_wins he hstate hin (hloses_nil hworse)
        (List.ne_nil_of_mem (mem_opposingInside.mpr ⟨hg, hgin⟩))
      obtain ⟨hopp, hhin⟩ := mem_opposingInside.mp hh
      change t = _ at hreview
      have hmail : t.mail = if e.noted = some h.station then s.mail else { s.mail with posts := s.mail.posts ++
          [⟨.clm, .standoff, .num e.sec, .num h.station, .role .winner⟩] } := by
        rw [hreview, winnerNoted]
        split <;> rfl
      rw [← hreview] at hentry
      refine ⟨⟨_, hentry, hstate⟩, ?_, fun hnobody => ?_, fun _ => ⟨h, hopp, hhin, ⟨_, hentry, rfl⟩, hmail⟩⟩
      · rw [hmail]
        split <;> rfl
      · exact absurd (hnobody g hg) (by simp [hgin])
    · have hnobody (g : Holder) (hg : opposite g) : g.inside = false :=
        Bool.eq_false_iff.mpr fun hgin => hmeets ⟨g, hg, hgin⟩
      have hnil := hinside_nil hnobody
      obtain ⟨hentry, hmail⟩ := hstays (review_holds he hstate (.inl hin) (.inr hnil))
      exact ⟨⟨_, hentry, hstate⟩, congrArg _ hmail, fun _ => ⟨⟨_, hentry, if_pos hnil⟩, hmail⟩,
        fun hsome => absurd hsome hmeets⟩
  case lostRide =>
    intro hstate hout hlost
    have hclaimed : claimEntry (startClaim e s) e.sec = some (claimed s e) :=
      claimEntry_setClaimEntry_same (f := claimed s e) he
    have hentry := claimEntry_reviewNoted (e := claimed s e) hclaimed
    have hmail := reviewNoted_mail (e := claimed s e) (s := startClaim e s)
    rw [← review_lostRide he hstate hout hlost] at hentry hmail
    exact ⟨⟨_, hentry, rfl, rfl⟩, (congrArg Mail.claimRequests hmail).trans rfl⟩
  case rides =>
    intro hstate hrides
    obtain ⟨hentry, hmail⟩ := hstays (review_stays he (.inr (.inr ⟨hstate, .inr hrides⟩)))
    exact ⟨⟨_, hentry, hstate⟩, hmail⟩
  case waitingRides =>
    intro hstate hrides
    obtain ⟨hentry, hmail⟩ := waitReviewed_rides he hstate hrides
    rw [← review_waiting he hstate] at hentry hmail
    exact ⟨⟨_, hentry, rfl⟩, hmail⟩
  case waits =>
    intro hstate hrides hback
    obtain ⟨hentry, hmail⟩ := waitReviewed_waits he hstate hrides hback
    rw [← review_waiting he hstate] at hentry hmail
    exact ⟨⟨_, hentry, hstate, rfl⟩, hmail⟩
  case claims =>
    intro hstate hrides hunlocked hunbeaten himpolite
    obtain ⟨hentry, hmail⟩ := waitReviewed_claims he hstate hrides ⟨hunlocked, hunbeaten, himpolite⟩
    rw [← review_waiting he hstate] at hentry hmail
    exact ⟨⟨_, hentry, rfl, rfl, rfl, rfl, rfl, rfl⟩, hmail⟩

end Sys2Proof.Proofs
end

section
/-! PROOFS. The evaluation of a claim window, in the order of R113, and the review that follows a wait. -/

namespace Sys2Proof.Proofs

open Sys2Proof.Machine Sys2Proof.Laws

/-! ## The three tests of a window -/

section Evaluation

variable {s : State} {e : ClaimEntry} {w : Window}

theorem beatenClaiming_iff : (opposingClaimants s e).any (fun c => heardWithin s w c && c.key.better (ownClaimKey s e)) =
    true ↔ BeatenClaiming s e w := by
  simp only [BeatenClaiming, List.any_eq_true, mem_opposingClaimants, Bool.and_eq_true, heardWithin, decide_eq_true_iff,
    better_iff, Claimant.key, ownClaimKey]

theorem evaluate_lock (h : LockedIn s e (other e.dir)) : evaluate s e w = some .lock :=
  if_pos (flip_eq e.dir ▸ (locked_iff _).mpr h)

variable (hunlocked : ¬LockedIn s e (other e.dir))
include hunlocked

theorem evaluate_unlocked : evaluate s e w =
    if (opposingClaimants s e).any (fun c => heardWithin s w c && c.key.better (ownClaimKey s e)) then some .key
    else if courtesy s e then some .courtesy else none :=
  if_neg (flip_eq e.dir ▸ mt (locked_iff _).mp hunlocked)

theorem evaluate_key (h : BeatenClaiming s e w) : evaluate s e w = some .key := by
  rw [evaluate_unlocked hunlocked, if_pos (beatenClaiming_iff.mpr h)]

theorem evaluate_courtesy (hunbeaten : ¬BeatenClaiming s e w) (h : Polite s e) : evaluate s e w = some .courtesy := by
  rw [evaluate_unlocked hunlocked, if_neg (mt beatenClaiming_iff.mp hunbeaten), if_pos (courtesy_iff.mpr h)]

theorem evaluate_none (hunbeaten : ¬BeatenClaiming s e w) (h : ¬Polite s e) : evaluate s e w = none := by
  rw [evaluate_unlocked hunlocked, if_neg (mt beatenClaiming_iff.mp hunbeaten), if_neg (mt courtesy_iff.mp h)]

end Evaluation

/-! ## The expiry -/

/-- The entry waits by a cause (R113). -/
def waitPosted (c : WaitCause) (e : ClaimEntry) (s : State) : State :=
  post .clm .claimWaited (.num e.sec) (.dir e.dir) (.wait c) (setClaimEntry e.toWaiting s)

section Expiry

variable {s : State} {e : ClaimEntry} {w : Window}

theorem closeWindow_waits {c : WaitCause} (hstate : e.state = .claiming) (hw : e.window = some w)
    (hcause : evaluate s e w = some c) : closeWindow e s = waitPosted c e s := by
  simp only [closeWindow, hstate, hw, hcause]
  rfl

theorem closeWindow_holds (hstate : e.state = .claiming) (hw : e.window = some w) (hfree : evaluate s e w = none) :
    closeWindow e s = holdEntry e s := by
  simp only [closeWindow, hstate, hw, hfree]

variable (he : claimEntry s e.sec = some e)
include he

theorem claimEntry_waitPosted (c : WaitCause) : claimEntry (waitPosted c e s) e.sec = some e.toWaiting :=
  claimEntry_setClaimEntry_same (f := e.toWaiting) he

/-- A hold reviewed as it begins keeps its state, and standoff noted is settled. -/
theorem review_holdEntry (hunlocked : ¬LockedIn s e (other e.dir)) : review e.sec (holdEntry e s) =
    post .clm .claimHeld (.num e.sec) (.dir e.dir) (.num e.size)
      (setClaimEntry { e with state := .holding, window := none, noted := none } s) := by
  have hnone : opposingHolders (holdEntry e s) { e with state := .holding, window := none } = [] :=
    opposingHolders_unlocked hunlocked
  have hyields : yieldsTo (holdEntry e s) { e with state := .holding, window := none } = [] :=
    congrArg (List.filter _) hnone
  have hheld : claimEntry (holdEntry e s) e.sec = some { e with state := .holding, window := none } :=
    claimEntry_setClaimEntry_same (f := { e with state := .holding, window := none }) he
  refine (review_holds (e := { e with state := .holding, window := none }) hheld rfl (.inr hyields)
    (.inr (opposingInside_nil hnone))).trans ((reviewNoted_clears (opposingInside_nil hnone)).trans ?_)
  exact congrArg (post .clm .claimHeld (.num e.sec) (.dir e.dir) (.num e.size)) (setClaimEntry_setClaimEntry
    (f := { e with state := .holding, window := none })
    (g := { e with state := .holding, window := none, noted := none }) rfl s)

variable (hup : s.held = false)
include hup

theorem exec_claimWindow (hstate : e.state = .claiming) (hw : e.window = some w) :
    exec (.claimWindow e.sec) s = .next (review e.sec (closeWindow e s)) := by
  refine (whileUp_up hup _).trans (congrArg _ ((if_pos ?_).trans ?_))
  · simp [he, hstate, hw]
  · rw [onEntry_of_claimEntry he]

theorem exec_claimWindow_idle (h : e.state ≠ .claiming ∨ e.window = none) :
    exec (.claimWindow e.sec) s = .next s := by
  refine (whileUp_up hup _).trans (congrArg _ (if_neg ?_))
  rcases h with h | h <;> simp [he, h]

end Expiry

/-- A review of a WAITING entry draws no free value. -/
theorem waitReviewed_draws (s : State) (e : ClaimEntry) : (waitReviewed s e).draws = s.draws := by
  have hnoted := reviewNoted_draws (s := s) (e := e)
  unfold waitReviewed reviewWaiting
  split
  · split
    · exact hnoted
    · split
      · exact hnoted
      · exact hnoted
  · exact hnoted

/-- It changes the table and the mail. -/
theorem waitReviewed_frame (s : State) (e : ClaimEntry) :
    waitReviewed s e = { s with clm := (waitReviewed s e).clm, mail := (waitReviewed s e).mail } := by
  have hframe : blank footClm (waitReviewed s e) = blank footClm s := by
    rw [waitReviewed, reviewWaiting_frame rfl, reviewNoted_frame rfl]
  exact (eq_of_blank_footClm hframe).trans (by rw [waitReviewed_draws])

/-- Settles O34: the tests of the window in their order, and the review of the WAITING entry. -/
theorem claimWindowIsEvaluatedInOrder : Obligations.ClaimWindowIsEvaluatedInOrder := by
  intro e w s hup he fresh heard lockedIn oppositeDir rival better beaten rider polite rides size still waiting waits
  have hreviewed (cause : WaitCause) : review e.sec (waiting cause) = waitReviewed (waiting cause) e.toWaiting :=
    review_waiting (e := e.toWaiting) (claimEntry_waitPosted he cause) rfl
  refine ⟨fun hstate hw => ?_, exec_claimWindow_idle he hup⟩
  have hwaits (cause : WaitCause) (hcause : evaluate s e w = some cause) (hpolite : cause = .courtesy → polite) :
      waits cause := by
    have hexec : exec (.claimWindow e.sec) s = .next (review e.sec (waiting cause)) :=
      (exec_claimWindow he hup hstate hw).trans
        (congrArg (fun t => Host.Outcome.next (review e.sec t)) (closeWindow_waits hstate hw hcause))
    have hthere := claimEntry_waitPosted he cause
    have hframe := waitReviewed_frame (waiting cause) e.toWaiting
    have hclaims {f : ClaimEntry} (hf : f.state = .claiming) (hfree : ¬still) :
        (cause = .courtesy → f.state ≠ .claiming) ∧ (lockedIn oppositeDir → f.state ≠ .claiming) :=
      ⟨fun hc => absurd (.inr (.inl (hpolite hc))) hfree, fun hl => absurd (.inl hl) hfree⟩
    rw [hreviewed] at hexec
    by_cases hrides : rides
    · obtain ⟨hentry, hmail⟩ := waitReviewed_rides (e := e.toWaiting) hthere rfl hrides
      exact ⟨_, _, hexec, (hreviewed cause).symm, hentry, rfl, fun _ => rfl, fun h => absurd hrides h,
        fun h => absurd hrides h, fun _ => nofun, .inr (.inl rfl), fun _ => nofun,
        fun hsolo => absurd (hsolo.symm.trans hrides.1) nofun, congrArg Mail.posts hmail, hframe⟩
    · by_cases hstill : still
      · have hback : LockedIn s e (other e.dir) ∨ BeatenWaiting s e ∨ Polite s e := by
          rcases hstill with h | h | h
          · exact .inl h
          · exact .inr (.inr h)
          · exact .inr (.inl h)
        obtain ⟨hentry, hmail⟩ := waitReviewed_waits (e := e.toWaiting) hthere rfl hrides hback
        exact ⟨_, _, hexec, (hreviewed cause).symm, hentry, rfl, fun h => absurd h hrides, fun _ _ => rfl,
          fun _ h => absurd hstill h, fun _ => nofun, .inl rfl, fun _ => nofun, fun _ => nofun,
          congrArg Mail.posts hmail, hframe⟩
      · obtain ⟨hunlocked, himpolite, hunbeaten⟩ : ¬lockedIn oppositeDir ∧ ¬polite ∧ ¬BeatenWaiting s e :=
          ⟨fun h => hstill (.inl h), fun h => hstill (.inr (.inl h)), fun h => hstill (.inr (.inr h))⟩
        obtain ⟨hentry, hmail⟩ := waitReviewed_claims (e := e.toWaiting) hthere rfl hrides
          ⟨hunlocked, hunbeaten, himpolite⟩
        exact ⟨_, _, hexec, (hreviewed cause).symm, hentry, rfl, fun h => absurd h hrides, fun _ h => absurd h hstill,
          fun _ _ => ⟨rfl, rfl⟩, (hclaims rfl hstill).1, .inr (.inr rfl), (hclaims rfl hstill).2, fun _ => nofun,
          (congrArg Mail.posts hmail).trans rfl, hframe⟩
  refine ⟨?lock, ?key, ?courtesy, ?holds⟩
  case lock => exact fun hlocked => hwaits .lock (evaluate_lock hlocked) nofun
  case key => exact fun hunlocked hbeaten => hwaits .key (evaluate_key hunlocked hbeaten) nofun
  case courtesy =>
    exact fun hunlocked hunbeaten hpolite => hwaits .courtesy (evaluate_courtesy hunlocked hunbeaten hpolite)
      fun _ => hpolite
  case holds =>
    intro hunlocked hunbeaten himpolite
    rw [exec_claimWindow he hup hstate hw, closeWindow_holds hstate hw (evaluate_none hunlocked hunbeaten himpolite),
      review_holdEntry he hunlocked]
    rfl

end Sys2Proof.Proofs
end

section
/-! PROOFS. What the halt set, the reverse permission and the claim table ask of the governor (R111, R128, R133,
R141, R143, R144). -/

namespace Sys2Proof.Proofs

open Sys2Proof.Machine Sys2Proof.Laws

/-! ## The reverse demand, permission and target -/

theorem demand_reverse_eq (s : State) : demand reverseDemand s =
    if s.drv.failsafe = true ∨ s.node.settings.centreTrim ≤ s.drv.throttleWidth + s.node.settings.deadband then 0
    else min s.node.settings.reverseCap ((s.node.settings.centreTrim - s.node.settings.deadband -
      s.drv.throttleWidth) * s.node.settings.reverseCap / (500 - s.node.settings.deadband)) := by
  unfold demand reverseDemand
  by_cases hfailsafe : s.drv.failsafe = true
  · rw [if_pos hfailsafe, if_pos (.inl hfailsafe)]
  · rw [if_neg hfailsafe]
    by_cases hband : s.node.settings.centreTrim ≤ s.drv.throttleWidth + s.node.settings.deadband
    · rw [if_neg (by omega), if_pos (.inr hband)]
    · rw [if_pos (by omega), if_neg (by simp [hfailsafe, hband])]

theorem inStandoff_iff (s : State) : inStandoff s = true ↔ ∃ e ∈ s.clm.entries, e.state = .standoff := by
  simp [inStandoff]

theorem reversePermission_iff (s : State) : reversePermission s = true ↔
    (s.cvy.role = .solo ∧ haltSetEmpty s.cvy = true) ∨ ∃ e ∈ s.clm.entries, e.state = .standoff := by
  rw [reversePermission, Bool.or_eq_true, Bool.and_eq_true, beq_iff_eq, inStandoff_iff]

/-- Reverse travel is held to the crawl cap. -/
theorem crawlsReverse_iff (s : State) : ((crawlCause s).isSome ∨ inStandoff s) ↔
    (crawlCause s ≠ none ∨ ∃ e ∈ s.clm.entries, e.state = .standoff) := by
  rw [inStandoff_iff, Option.isSome_iff_ne_none]

section Target

variable {s : State}

theorem forwardTarget_halted (h : haltSetEmpty s.cvy = false) : forwardTarget s = ⟨0, .halt⟩ :=
  if_neg (by simp [h])

theorem reverseTarget_refused (h : ¬reversePermission s = true) :
    reverseTarget s = if haltSetEmpty s.cvy then ⟨0, .driver⟩ else ⟨0, .halt⟩ :=
  if_neg h

theorem reverseTarget_permitted (h : reversePermission s = true) : reverseTarget s =
    if demand reverseDemand s ≠ 0 ∧ ((crawlCause s).isSome ∨ inStandoff s) ∧
      s.node.settings.crawlCap < demand reverseDemand s then ⟨s.node.settings.crawlCap, .crawl⟩
    else ⟨demand reverseDemand s, .driver⟩ :=
  if_pos h

end Target

/-! ## The stop requirement -/

section Stop

variable {s : State}

theorem winnerStops_iff (e : ClaimEntry) : winnerStops s e = true ↔
    e.state = .holding ∧ Inside s e ∧ ∃ h ∈ e.holders, h.dir ≠ e.dir ∧ h.inside = true ∧ Fresh s h.lastHeard := by
  have hmeets : (!(opposingInside s e).isEmpty) = true ↔
      ∃ h ∈ e.holders, h.dir ≠ e.dir ∧ h.inside = true ∧ Fresh s h.lastHeard := by
    simp only [Bool.not_eq_true', List.isEmpty_eq_false_iff_exists_mem, mem_opposingInside, Opposes]
    exact exists_congr fun h => ⟨fun ⟨⟨hmem, hdir, hfresh⟩, hin⟩ => ⟨hmem, hdir, hin, hfresh⟩,
      fun ⟨hmem, hdir, hin, hfresh⟩ => ⟨⟨hmem, hdir, hfresh⟩, hin⟩⟩
  rw [winnerStops, Bool.and_eq_true, Bool.and_eq_true, beq_iff_eq, and_assoc, insideEntry_iff, hmeets]

theorem approachHolds_iff {x : ChainElement} {e : ClaimEntry} {b : Nat} (hb : boundary s = some b) :
    approachHolds s x e = true ↔ x.kind = .single ∧ e.state = .none ∧ b ≤ s.node.settings.approachDistance := by
  simp [approachHolds, hb, and_assoc]

theorem stopsShort_iff {x : ChainElement} {e : ClaimEntry} {b : Nat} (hb : boundary s = some b) :
    stopsShort s x e = true ↔ e.state = .claiming ∨ e.state = .waiting ∨
      (x.kind = .single ∧ e.state = .none ∧ b ≤ s.node.settings.approachDistance ∧
        2 ≤ (othersActive s x.sec).length) := by
  simp only [stopsShort, Bool.or_eq_true, Bool.and_eq_true, beq_iff_eq, approachHolds_iff hb, decide_eq_true_iff,
    ge_iff_le, or_assoc, and_assoc]

theorem stopRequirement_now (h : inStandoff s = true ∨ s.clm.entries.any (winnerStops s) = true) :
    stopRequirement s = .now := by
  unfold stopRequirement
  split
  · rfl
  · next hlose => exact if_pos (h.resolve_left hlose)

variable (hlose : ¬inStandoff s = true) (hwin : ¬s.clm.entries.any (winnerStops s) = true)
include hlose hwin

/-- With nobody to stop for, the entry of the next section decides. -/
theorem stopRequirement_ahead {x : ChainElement} {b : Nat} (hx : nextElement s = some x) (hb : boundary s = some b) :
    stopRequirement s = if (claimEntry s x.sec).any (stopsShort s x) then
      .atMark ((b : Int) - s.node.settings.stopMargin) else .none := by
  rw [stopRequirement, if_neg hlose, if_neg hwin, hx, hb]

theorem stopRequirement_endOfLine (hx : nextElement s = none) : stopRequirement s = .none := by
  rw [stopRequirement, if_neg hlose, if_neg hwin, hx]

end Stop

/-- Settles O47: the targets by the permission and the halt set, and the stop requirement by the entries. -/
theorem haltStopsAndReverseNeedsPermission : Obligations.HaltStopsAndReverseNeedsPermission := by
  refine ⟨?targets, ?stop⟩
  case targets =>
    intro s g p wanted loser permitted crawls
    have hwanted : demand reverseDemand s = wanted := demand_reverse_eq s
    have hpermission : reversePermission s = true ↔ permitted := reversePermission_iff s
    refine ⟨forwardTarget_halted, fun hno hhalt => ?_, fun hno hclear => ?_, fun hyes hcrawls hover => ?_,
      fun hyes hfree => ?_⟩
    · rw [reverseTarget_refused (mt hpermission.mp hno), hhalt]
      rfl
    · rw [reverseTarget_refused (mt hpermission.mp hno), hclear]
      rfl
    · rw [reverseTarget_permitted (hpermission.mpr hyes), hwanted]
      exact if_pos ⟨Nat.ne_zero_of_lt hover, (crawlsReverse_iff s).mpr hcrawls, hover⟩
    · rw [reverseTarget_permitted (hpermission.mpr hyes), hwanted]
      refine if_neg fun ⟨_, hcrawls, hover⟩ => ?_
      exact hfree.elim (· ((crawlsReverse_iff s).mp hcrawls)) (Nat.not_le_of_lt hover)
  case stop =>
    intro s fresh inside loses wins busy short
    have hloses : inStandoff s = true ↔ loses := inStandoff_iff s
    have hwins : s.clm.entries.any (winnerStops s) = true ↔ wins := by
      simp only [List.any_eq_true, winnerStops_iff]
      rfl
    refine ⟨fun h => stopRequirement_now (h.imp hloses.mpr hwins.mpr), fun hlose hwin x y rest hchain => ?_,
      fun hlose hwin hshort => ?_⟩
    · have hnext : nextElement s = some y := congrArg (·[1]?) hchain
      have hboundary : boundary s = some x.span := congrArg (fun c => c.head?.map (·.span)) hchain
      rw [stopRequirement_ahead (mt hloses.mp hlose) (mt hwins.mp hwin) hnext hboundary]
      refine ⟨fun e he hstops => if_pos ?_, fun hnone => if_neg fun hany => ?_⟩
      · rw [he, Option.any_some, stopsShort_iff hboundary]
        exact hstops
      · obtain ⟨e, he, hstops⟩ := (Option.any_eq_true _ _).mp hany
        exact hnone e he ((stopsShort_iff hboundary).mp hstops)
    · exact stopRequirement_endOfLine (mt hloses.mp hlose) (mt hwins.mp hwin) (List.getElem?_eq_none hshort)

end Sys2Proof.Proofs
end

section
/-! PROOFS. The notices of the CLAIM slot, by the records they find in the claim-post list (R126, R127). -/

namespace Sys2Proof.Proofs

open Sys2Proof.Machine Sys2Proof.Laws

/-- The claim-post records a notice is about. -/
def answered (n : Notice) (s : State) : List ClaimPost := s.clm.posts.filter (fun p => n.numbers.contains p.number)

/-- The notice has been taken and its records have left the list. -/
def claimNoticeTaken (n : Notice) (rest : List Notice) (s : State) : State :=
  { s with
    clm := { s.clm with posts := s.clm.posts.filter (fun p => !n.numbers.contains p.number) }
    mail := { s.mail with claimNotices := rest } }

theorem exec_clmReleaseNotice {s : State} {n : Notice} {rest : List Notice} (hup : s.held = false)
    (hmail : s.mail.releaseNotices = n :: rest) :
    exec .clmReleaseNotice s = .next { s with mail := { s.mail with releaseNotices := rest } } := by
  refine (whileUp_up hup _).trans ?_
  simp only [takeNotice, noticesOf, hmail]
  rfl

theorem exec_clmClaimNotice {s : State} {n : Notice} {rest : List Notice} (hup : s.held = false)
    (hmail : s.mail.claimNotices = n :: rest) : exec .clmClaimNotice s =
      .next ((answered n s).foldl (fun s p => onClaimPost n.outcome p s) (claimNoticeTaken n rest s)) := by
  refine (whileUp_up hup _).trans ?_
  simp only [takeNotice, noticesOf, hmail]
  rfl

/-! ## The effect on one record -/

theorem onClaimPost_ends {o : SlotOutcome} (h : o = .sent ∨ o = .cancelled) (p : ClaimPost) (s : State) :
    onClaimPost o p s = s := by
  rcases h with rfl | rfl <;> rfl

theorem onClaimPost_heard {o : SlotOutcome} {p : ClaimPost}
    (h : o = .sentDespiteCancel ∨ (o = .aborted ∧ p.cancelled = true)) (s : State) :
    onClaimPost o p s = releaseHeard p.sec s := by
  rcases h with rfl | ⟨rfl, hcancelled⟩
  · rfl
  · exact if_pos hcancelled

theorem onClaimPost_again {o : SlotOutcome} {p : ClaimPost} (h : o = .aborted ∧ p.cancelled = false) (s : State) :
    onClaimPost o p s = repostClaim p.sec s := by
  obtain ⟨rfl, hcancelled⟩ := h
  exact if_neg (by simp [hcancelled])

theorem keepsClaim_iff (c : ClaimState) :
    keepsClaim c = true ↔ c = .claiming ∨ c = .holding ∨ c = .riding ∨ c = .standoff := by
  cases c <;> decide

section Entry

variable {s : State} {sec : Nat} {e : ClaimEntry} (he : claimEntry s sec = some e)
include he

theorem releaseHeard_keeps (h : keepsClaim e.state = true) : releaseHeard sec s = s := by
  rw [releaseHeard, onEntry_of_claimEntry he, if_pos h]

theorem releaseHeard_releases (h : ¬keepsClaim e.state = true) : releaseHeard sec s = postRelease sec s := by
  rw [releaseHeard, onEntry_of_claimEntry he, if_neg h]

theorem repostClaim_done (h : ¬(e.state = .claiming ∧ e.repostUsed = false)) : repostClaim sec s = s := by
  rw [repostClaim, onEntry_of_claimEntry he, if_neg h]

theorem repostClaim_posts (h : e.state = .claiming ∧ e.repostUsed = false) :
    repostClaim sec s = postClaim e (setClaimEntry { e with repostUsed := true } s) := by
  rw [repostClaim, onEntry_of_claimEntry he, if_pos h]

end Entry

/-- A list with room keeps what it holds. -/
theorem joinPosts_room {posts : List ClaimPost} (h : posts.length ≤ 1) (p : ClaimPost) :
    joinPosts p posts = posts ++ [p] :=
  if_pos (Nat.lt_succ_of_le h)

/-- Settles O37: a notice that finds no record, or whose outcome asks for nothing, ends there; of one record
found the section's entry decides. -/
theorem claimNoticesAreActedOn : Obligations.ClaimNoticesAreActedOn := by
  intro n rest s hup
  refine ⟨exec_clmReleaseNotice hup, ?_⟩
  intro hmail left taken result
  have hresult : result = .next ((answered n s).foldl (fun s p => onClaimPost n.outcome p s) taken) :=
    exec_clmClaimNotice hup hmail
  refine ⟨?ends, ?nothing, ?one⟩
  case ends =>
    intro hends
    have hfold : (answered n s).foldl (fun s p => onClaimPost n.outcome p s) taken = taken :=
      List.foldlRecOn (motive := fun t => t = taken) _ _ rfl fun _ ht p _ => (onClaimPost_ends hends p _).trans ht
    rw [hresult, hfold]
  case nothing =>
    intro hnone
    have hempty : answered n s = [] := List.filter_eq_nil_iff.mpr fun p hp => by simpa using hnone p hp
    rw [hresult, hempty]
    rfl
  case one =>
    intro p e hfound he keeps heard again
    have hone : result = .next (onClaimPost n.outcome p taken) := by
      rw [hresult, answered, hfound]
      rfl
    have hentry : claimEntry taken p.sec = some e := he
    refine ⟨fun hheard hkeeps => ?_, fun hheard hloose => ?_, fun hagain hdone => ?_, fun hagain hstate hunused hroom => ?_⟩
    · rw [hone, onClaimPost_heard hheard, releaseHeard_keeps hentry ((keepsClaim_iff _).mpr hkeeps)]
    · rw [hone, onClaimPost_heard hheard, releaseHeard_releases hentry (mt (keepsClaim_iff _).mp hloose)]
      rfl
    · rw [hone, onClaimPost_again hagain, repostClaim_done hentry hdone]
    · rw [hone, onClaimPost_again hagain, repostClaim_posts hentry ⟨hstate, hunused⟩]
      simp only [postClaim, setClaimEntry, State.setClm_clm]
      rw [joinPosts_room hroom]
      rfl

end Sys2Proof.Proofs
end

section
/-! PROOFS. Learning: what a telegram writes into the entries of the claim table, read entry by entry (R101 to
R105), and the CLAIM and RELEASE telegrams (R103, R104). -/

namespace Sys2Proof.Proofs

open Sys2Proof.Machine Sys2Proof.Laws

/-! ## Operations that rewrite entries -/

/-- An operation on the standing entry of a section leaves the table as if it replaced the entry by `g` of it. -/
def Rewrites (f : ClaimEntry → State → State) (g : ClaimEntry → ClaimEntry) : Prop :=
  ∀ {e : ClaimEntry} {s : State}, claimEntry s e.sec = some e →
    ∀ y, claimEntry (f e s) y = claimEntry (setClaimEntry (g e) s) y

theorem rewrites_set (g : ClaimEntry → ClaimEntry) : Rewrites (fun e => setClaimEntry (g e)) g := fun _ _ => rfl

theorem claimEntry_setClaimEntry_self {s : State} {e : ClaimEntry} (he : claimEntry s e.sec = some e) (y : Nat) :
    claimEntry (setClaimEntry e s) y = claimEntry s y := by
  by_cases hy : y = e.sec
  · rw [hy, claimEntry_setClaimEntry_same he, he]
  · exact claimEntry_setClaimEntry_ne hy

section Rewriting

variable {α : Type} {sec : α → Nat} {f : α → ClaimEntry → State → State} {g : α → ClaimEntry → ClaimEntry}

theorem claimEntry_onEntry {f : ClaimEntry → State → State} {g : ClaimEntry → ClaimEntry} (hf : Rewrites f g)
    (hsec : ∀ e, (g e).sec = e.sec) (sec y : Nat) (s : State) :
    claimEntry (onEntry sec f s) y = (claimEntry s y).map (fun x => if x.sec = sec then g x else x) := by
  unfold onEntry
  split
  · next e he =>
    have hthere : e.sec = sec := claimEntry_sec he
    rw [hf (hthere ▸ he), claimEntry_setClaimEntry, hsec, hthere]
    refine Option.map_congr fun x hx => ?_
    split
    · next hxsec => rw [Option.some.inj (he.symm.trans (hxsec ▸ claimEntry_sec hx ▸ hx))]
    · rfl
  · next habsent =>
    cases hy : claimEntry s y with
    | none => rfl
    | some x =>
      refine congrArg some (if_neg fun hxsec => ?_).symm
      rw [← hxsec, claimEntry_sec hy, hy] at habsent
      cases habsent

/-- What a list of items, each about one section, makes of an entry. -/
def toldOf (sec : α → Nat) (g : α → ClaimEntry → ClaimEntry) (l : List α) (x : ClaimEntry) : ClaimEntry :=
  (l.filter (fun a => sec a = x.sec)).foldl (fun x a => g a x) x

theorem toldOf_cons (hsec : ∀ a e, (g a e).sec = e.sec) (a : α) (l : List α) (x : ClaimEntry) :
    toldOf sec g (a :: l) x = toldOf sec g l (if x.sec = sec a then g a x else x) := by
  unfold toldOf
  by_cases h : x.sec = sec a
  · rw [if_pos h, hsec, List.filter_cons, if_pos (decide_eq_true h.symm), List.foldl_cons]
  · rw [if_neg h, List.filter_cons, if_neg (by simpa using Ne.symm h)]

theorem claimEntry_foldl_onEntry (hf : ∀ a, Rewrites (f a) (g a)) (hsec : ∀ a e, (g a e).sec = e.sec) (l : List α)
    (y : Nat) (s : State) :
    claimEntry (l.foldl (fun s a => onEntry (sec a) (f a) s) s) y = (claimEntry s y).map (toldOf sec g l) := by
  induction l generalizing s with
  | nil => exact Option.map_id'.symm ▸ rfl
  | cons a l ih =>
    rw [List.foldl_cons, ih, claimEntry_onEntry (hf a) (hsec a), Option.map_map]
    exact congrArg (Option.map · _) (funext fun x => (toldOf_cons hsec a l x).symm)

theorem toldOf_unnamed {l : List α} {x : ClaimEntry} (h : ∀ a ∈ l, sec a ≠ x.sec) : toldOf sec g l x = x := by
  rw [toldOf, List.filter_eq_nil_iff.mpr fun a ha => by simpa using h a ha]
  rfl

/-- Items about different sections: the one about the entry's section acts on it. -/
theorem toldOf_named {l : List α} {x : ClaimEntry} {a : α} (hnodup : (l.map sec).Nodup) (ha : a ∈ l)
    (hx : sec a = x.sec) : toldOf sec g l x = g a x := by
  have hone : l.filter (fun b => sec b = x.sec) = [a] := by
    induction l with
    | nil => cases ha
    | cons b l ih =>
      obtain ⟨hfresh, hrest⟩ := List.nodup_cons.mp hnodup
      by_cases hb : sec b = x.sec
      · have hab : a = b := (List.mem_cons.mp ha).resolve_right fun hmem =>
          hfresh (List.mem_map.mpr ⟨a, hmem, hx.trans hb.symm⟩)
        rw [List.filter_cons, if_pos (decide_eq_true hb), hab, List.filter_eq_nil_iff.mpr]
        intro c hc hcsec
        exact hfresh (List.mem_map.mpr ⟨c, hc, (of_decide_eq_true hcsec).trans hb.symm⟩)
      · have hmem : a ∈ l := (List.mem_cons.mp ha).resolve_left fun hab => hb (hab ▸ hx)
        rw [List.filter_cons, if_neg (by simpa using hb), ih hrest hmem]
  rw [toldOf, hone]
  rfl

end Rewriting

/-- One operation that may be repeated, on the entries of the sections named. -/
theorem claimEntry_foldl_onEntry_same {f : ClaimEntry → State → State} {g : ClaimEntry → ClaimEntry}
    (hf : Rewrites f g) (hsec : ∀ e, (g e).sec = e.sec) (hagain : ∀ e, g (g e) = g e) (secs : List Nat) (y : Nat)
    (s : State) : claimEntry (secs.foldl (fun s sec => onEntry sec f s) s) y =
      (claimEntry s y).map (fun x => if x.sec ∈ secs then g x else x) := by
  refine (claimEntry_foldl_onEntry (sec := id) (f := fun _ => f) (g := fun _ => g) (fun _ => hf) (fun _ => hsec) secs y
    s).trans (congrArg (Option.map · _) (funext fun x => ?_))
  induction secs generalizing x with
  | nil => rfl
  | cons a l ih =>
    rw [toldOf_cons (fun _ => hsec), ih]
    by_cases ha : x.sec = a
    · rw [id_eq, if_pos ha, if_pos (List.mem_cons.mpr (.inl ha)), hagain, ite_self]
    · simp only [id_eq, ha, if_false, List.mem_cons, false_or]

/-! ## Stations in the lists -/

theorem holdsStation_iff (station : Nat) (e : ClaimEntry) :
    holdsStation station e = true ↔ ∃ h ∈ e.holders, h.station = station := by
  simp [holdsStation]

theorem dropHolder_dropHolder (station : Nat) (e : ClaimEntry) :
    dropHolder station (dropHolder station e) = dropHolder station e := by
  simp [dropHolder]

/-! ## The worst claimant (R105, R108) -/

theorem better_asymm {a b : ClaimKey} (h : a.better b = true) : b.better a = false := by
  refine Bool.eq_false_iff.mpr fun h' => ?_
  rcases (better_iff a b).mp h with ⟨ha, hb⟩ | ⟨hab, hlt⟩ <;> rcases (better_iff b a).mp h' with ⟨hb', ha'⟩ | ⟨hba, hlt'⟩
  · simp [hb] at hb'
  · simp [ha, hb] at hba
  · simp [hb', ha'] at hab
  · omega

/-- A key better than another is better than any third, or the third is better than the other. -/
theorem better_split {a b : ClaimKey} (c : ClaimKey) (h : a.better b = true) :
    a.better c = true ∨ c.better b = true := by
  rw [better_iff] at h ⊢
  rw [better_iff]
  cases ha : a.waited <;> cases hb : b.waited <;> cases hc : c.waited <;> simp [ha, hb] at h ⊢ <;> omega

theorem worstClaimant_none {l : List Claimant} : worstClaimant l = none ↔ l = [] := by
  cases l with
  | nil => exact iff_of_true rfl rfl
  | cons c cs =>
    refine iff_of_false (fun h => ?_) nofun
    unfold worstClaimant at h
    split at h
    · cases h
    · split at h <;> cases h

/-- The worst claimant's key is better than no other's. -/
theorem worstClaimant_worst {l : List Claimant} {w : Claimant} (h : worstClaimant l = some w) :
    ∀ y ∈ l, w.key.better y.key = false := by
  have hirrefl (c : Claimant) : c.key.better c.key = false :=
    Bool.eq_false_iff.mpr fun hc => by simp [better_asymm hc] at hc
  induction l generalizing w with
  | nil => cases h
  | cons c cs ih =>
    unfold worstClaimant at h
    split at h
    · next hnone =>
      cases h
      rw [worstClaimant_none.mp hnone]
      exact fun y hy => List.mem_singleton.mp hy ▸ hirrefl c
    · next d hd =>
      split at h
      · next hcd =>
        cases h
        exact List.forall_mem_cons.mpr ⟨better_asymm hcd, ih hd⟩
      · next hcd =>
        cases h
        refine List.forall_mem_cons.mpr ⟨hirrefl c, fun y hy => Bool.eq_false_iff.mpr fun hcy => ?_⟩
        exact (better_split d.key hcy).elim hcd fun hdy => Bool.eq_false_iff.mp (ih hd y hy) hdy

/-- What a claimant's record does to a claimant list (R105). -/
structure ClaimantLearned (c : Claimant) (old new : List Claimant) : Prop where
  refreshed : (∃ x ∈ old, x.station = c.station) → new = old.map (fun x => if x.station = c.station then c else x)
  added : (∀ x ∈ old, x.station ≠ c.station) → old.length < 6 → new = old ++ [c]
  refused : (∀ x ∈ old, x.station ≠ c.station) → 6 ≤ old.length → (∀ x ∈ old, c.key.better x.key = false) → new = old
  replaced : (∀ x ∈ old, x.station ≠ c.station) → 6 ≤ old.length →
    ∀ x ∈ old, (∀ z ∈ old, z.station ≠ x.station → z.key.better x.key = true) → c.key.better x.key = true →
      new = old.filter (fun z => z.station != x.station) ++ [c]

theorem learnClaimant_learned (c : Claimant) (e : ClaimEntry) :
    ClaimantLearned c e.claimants (learnClaimant c e).claimants := by
  have hnew (h : ∀ x ∈ e.claimants, x.station ≠ c.station) : ¬e.claimants.any (fun x => x.station == c.station) = true := by
    simpa using h
  refine ⟨fun h => ?refreshed, fun h hroom => ?added, fun h hfull hworse => ?refused,
    fun h hfull x hx hworst hbetter => ?replaced⟩
  case refreshed => rw [learnClaimant, if_pos (by simpa using h)]
  case added => rw [learnClaimant, if_neg (hnew h), if_pos hroom]
  case refused =>
    rw [learnClaimant, if_neg (hnew h), if_neg (Nat.not_lt.mpr hfull)]
    split
    · rfl
    · next w hw => rw [if_neg (Bool.eq_false_iff.mp (hworse w (worstClaimant_mem hw)))]
  case replaced =>
    rw [learnClaimant, if_neg (hnew h), if_neg (Nat.not_lt.mpr hfull)]
    split
    · next hnone => simp [worstClaimant_none.mp hnone] at hfull
    · next w hw =>
      have hnot : w.key.better x.key = false := worstClaimant_worst hw x hx
      have hstation : w.station = x.station :=
        not_not.mp fun hne => Bool.eq_false_iff.mp hnot (hworst w (worstClaimant_mem hw) hne)
      have hwins : c.key.better w.key = true :=
        (better_split w.key hbetter).resolve_right (Bool.eq_false_iff.mp hnot)
      rw [if_pos hwins, hstation]

/-- Learning a claimant leaves the holders and last-hold-heard as they are. -/
theorem learnClaimant_others (c : Claimant) (e : ClaimEntry) : (learnClaimant c e).holders = e.holders ∧
    (learnClaimant c e).heardAB = e.heardAB ∧ (learnClaimant c e).heardBA = e.heardBA := by
  unfold learnClaimant
  split
  · exact ⟨rfl, rfl, rfl⟩
  · split
    · exact ⟨rfl, rfl, rfl⟩
    · split
      · exact ⟨rfl, rfl, rfl⟩
      · split <;> exact ⟨rfl, rfl, rfl⟩

theorem learnClaimant_sec (c : Claimant) (e : ClaimEntry) : (learnClaimant c e).sec = e.sec :=
  (learnClaimant_sameOwn c e).1

/-! ## The telegrams CLAIM and RELEASE -/

theorem reviewChanged_keepsRecords (old s : State) : KeepsRecords s (reviewChanged old s) :=
  foldl_keepsRecords (fun s sec => review_keepsRecords sec s) _ s

/-- Records told apart by name. -/
theorem recorded_inj {e f : ClaimEntry} (h : recorded f = recorded e) : f.holders = e.holders ∧
    f.claimants = e.claimants ∧ f.heardAB = e.heardAB ∧ f.heardBA = e.heardBA := by
  simpa only [recorded, Prod.mk.injEq] using h

/-- What the table reads after an operation that made `x` of an entry and a review of the lists it changed. -/
theorem claimEntry_reviewChanged {old s : State} {y : Nat} {x : ClaimEntry} (h : claimEntry s y = some x) :
    ∃ f, claimEntry (reviewChanged old s) y = some f ∧ f.holders = x.holders ∧ f.claimants = x.claimants ∧
      f.heardAB = x.heardAB ∧ f.heardBA = x.heardBA := by
  have hrec := (reviewChanged_keepsRecords old s).records y
  rw [h] at hrec
  obtain ⟨f, hf, hfx⟩ := Option.map_eq_some_iff.mp hrec
  exact ⟨f, hf, recorded_inj hfx⟩

section Exec

variable {s : State} {st num : Nat} {tm : Time} {rest : List Received} (hup : s.held = false)
include hup

theorem exec_clmTakesClaim {sec size : Nat} {dir : Dir} {waited : Bool}
    (hqueue : s.air.clmQueue = ⟨⟨st, num, .claim sec dir waited size⟩, tm⟩ :: rest) : exec .clmTakesClaim s =
      .next (clmTakeClaim sec ⟨st, dir, waited, size, tm⟩ { s with air := { s.air with clmQueue := rest } }) := by
  refine (whileUp_up hup _).trans ?_
  simp only [clmTakes, hqueue]
  rfl

theorem exec_clmTakesRelease {secs : List Nat}
    (hqueue : s.air.clmQueue = ⟨⟨st, num, .release secs⟩, tm⟩ :: rest) : exec .clmTakesRelease s =
      .next (clmTakeRelease st secs { s with air := { s.air with clmQueue := rest } }) := by
  refine (whileUp_up hup _).trans ?_
  simp only [clmTakes, hqueue]
  rfl

end Exec

/-- What a CLAIM makes of its section's entry: a source standing as holder is not entered (R103). -/
def claimLearned (c : Claimant) (e : ClaimEntry) : ClaimEntry :=
  if holdsStation c.station e then e else learnClaimant c e

theorem claimLearned_sec (c : Claimant) (e : ClaimEntry) : (claimLearned c e).sec = e.sec := by
  unfold claimLearned
  split
  · rfl
  · exact learnClaimant_sec c e

theorem rewrites_claimLearned (c : Claimant) :
    Rewrites (fun e s => if holdsStation c.station e then s else setClaimEntry (learnClaimant c e) s) (claimLearned c) := by
  intro e s he y
  dsimp only
  unfold claimLearned
  split
  · exact (claimEntry_setClaimEntry_self he y).symm
  · rfl

/-- Outside the claimant list a CLAIM changes nothing. -/
theorem claimLearned_others (c : Claimant) (e : ClaimEntry) : (claimLearned c e).holders = e.holders ∧
    (claimLearned c e).heardAB = e.heardAB ∧ (claimLearned c e).heardBA = e.heardBA := by
  unfold claimLearned
  split
  · exact ⟨rfl, rfl, rfl⟩
  · exact learnClaimant_others c e

/-- What a RELEASE makes of the entry of a section it names (R104). -/
def releaseLearned (st : Nat) (e : ClaimEntry) : ClaimEntry := dropClaimant st (dropHolder st e)

theorem releaseLearned_again (st : Nat) (e : ClaimEntry) :
    releaseLearned st (releaseLearned st e) = releaseLearned st e := by
  simp [releaseLearned, dropHolder, dropClaimant]

/-- Settles O35: the entry after the telegram, and a review that keeps the lists. -/
theorem claimsAndReleasesAreLearned : Obligations.ClaimsAndReleasesAreLearned := by
  intro st num tm rest s hup _ popped
  refine ⟨?claim, ?release⟩
  case claim =>
    intro sec dir waited size hqueue c
    refine ⟨clmTakeClaim sec c popped, exec_clmTakesClaim hup hqueue,
      eq_of_blank_footClm (clmTakeClaim_frame rfl sec c popped), fun y e he => ?_⟩
    have hlearned := claimEntry_onEntry (rewrites_claimLearned c) (claimLearned_sec c) sec y popped
    rw [show claimEntry popped y = some e from he, Option.map_some, claimEntry_sec he] at hlearned
    obtain ⟨f, hf, hholders, hclaimants, hheardAB, hheardBA⟩ := claimEntry_reviewChanged (old := popped) hlearned
    refine ⟨f, hf, ?_⟩
    by_cases hy : y = sec
    · rw [if_pos hy] at hholders hclaimants hheardAB hheardBA
      obtain ⟨hsameHolders, hsameAB, hsameBA⟩ := claimLearned_others c e
      refine ⟨hholders.trans hsameHolders, hheardAB.trans hsameAB, hheardBA.trans hsameBA, fun hkept => ?_, fun _ hout => ?_⟩
      · rw [hclaimants, claimLearned, if_pos ((holdsStation_iff st e).mpr (hkept.resolve_left (not_not.mpr hy)))]
      · have hnot : ¬holdsStation c.station e = true := fun hin => by
          obtain ⟨h, hmem, hst⟩ := (holdsStation_iff st e).mp hin
          exact hout h hmem hst
        have hrules := learnClaimant_learned c e
        rw [claimLearned, if_neg hnot] at hclaimants
        rw [← hclaimants] at hrules
        exact ⟨hrules.refreshed, hrules.added, fun hnew hfull => ⟨hrules.refused hnew hfull, hrules.replaced hnew hfull⟩⟩
    · rw [if_neg hy] at hholders hclaimants hheardAB hheardBA
      exact ⟨hholders, hheardAB, hheardBA, fun _ => hclaimants, fun h => absurd h hy⟩
  case release =>
    intro secs hqueue
    refine ⟨clmTakeRelease st secs popped, exec_clmTakesRelease hup hqueue,
      eq_of_blank_footClm (clmTakeRelease_frame rfl st secs popped), fun y e he => ?_⟩
    have hlearned := claimEntry_foldl_onEntry_same (rewrites_set (releaseLearned st)) (fun _ => rfl)
      (releaseLearned_again st) secs y popped
    rw [show claimEntry popped y = some e from he, Option.map_some, claimEntry_sec he] at hlearned
    obtain ⟨f, hf, hholders, hclaimants, hheardAB, hheardBA⟩ := claimEntry_reviewChanged (old := popped) hlearned
    refine ⟨f, hf, ?_⟩
    by_cases hy : y ∈ secs
    · rw [if_pos hy] at hholders hclaimants hheardAB hheardBA
      exact ⟨hheardAB, hheardBA, fun h => absurd hy h, fun _ => ⟨hholders, hclaimants⟩⟩
    · rw [if_neg hy] at hholders hclaimants hheardAB hheardBA
      exact ⟨hheardAB, hheardBA, fun _ => ⟨hholders, hclaimants⟩, fun h => absurd h hy⟩

end Sys2Proof.Proofs
end

section
/-! PROOFS. A POSITION's hold list, section by section, and the count of holder overflows (R101, R102, R105). -/

namespace Sys2Proof.Proofs

open Sys2Proof.Machine Sys2Proof.Laws

/-! ## A holder's record -/

/-- What a holder's record does to an entry (R101, R105). -/
structure HolderLearned (h : Holder) (e f : ClaimEntry) : Prop where
  heard : if h.dir = .ab then f.heardAB = some h.lastHeard ∧ f.heardBA = e.heardBA
    else f.heardBA = some h.lastHeard ∧ f.heardAB = e.heardAB
  claimants : f.claimants = e.claimants.filter (fun c => c.station != h.station)
  refreshed : (∃ x ∈ e.holders, x.station = h.station) →
    f.holders = e.holders.map (fun x => if x.station = h.station then h else x)
  added : (∀ x ∈ e.holders, x.station ≠ h.station) → e.holders.length < 8 → f.holders = e.holders ++ [h]
  overflown : (∀ x ∈ e.holders, x.station ≠ h.station) → 8 ≤ e.holders.length → f.holders = e.holders

/-- The entry that has heard a holder, before its record is entered. -/
def holderHeard (h : Holder) (e : ClaimEntry) : ClaimEntry :=
  dropClaimant h.station (e.setHeard h.dir (some h.lastHeard))

theorem holderHeard_holders (h : Holder) (e : ClaimEntry) : (holderHeard h e).holders = e.holders := by
  unfold holderHeard ClaimEntry.setHeard
  split <;> rfl

theorem learnHolder_eq (h : Holder) (e : ClaimEntry) : learnHolder h e =
    if holdsStation h.station e then
      { holderHeard h e with holders := e.holders.map (fun x => if x.station = h.station then h else x) }
    else if e.holders.length < 8 then { holderHeard h e with holders := e.holders ++ [h] }
    else holderHeard h e := by
  have hsame : holdsStation h.station (holderHeard h e) = holdsStation h.station e := by
    rw [holdsStation, holderHeard_holders, ← holdsStation]
  rw [← hsame, ← holderHeard_holders h e]
  rfl

theorem learnHolder_learned (h : Holder) (e : ClaimEntry) : HolderLearned h e (learnHolder h e) := by
  have hheard : (learnHolder h e).heardAB = (holderHeard h e).heardAB ∧
      (learnHolder h e).heardBA = (holderHeard h e).heardBA ∧
      (learnHolder h e).claimants = (holderHeard h e).claimants := by
    rw [learnHolder_eq]
    split
    · exact ⟨rfl, rfl, rfl⟩
    · split <;> exact ⟨rfl, rfl, rfl⟩
  obtain ⟨hAB, hBA, hclaimants⟩ := hheard
  have hnew (hout : ∀ x ∈ e.holders, x.station ≠ h.station) : ¬holdsStation h.station e = true := fun hin => by
    obtain ⟨x, hx, hst⟩ := (holdsStation_iff _ _).mp hin
    exact hout x hx hst
  refine ⟨?heard, ?claimants, fun hin => ?refreshed, fun hout hroom => ?added, fun hout hfull => ?overflown⟩
  case heard =>
    rw [hAB, hBA]
    cases hdir : h.dir <;> simp [holderHeard, dropClaimant, ClaimEntry.setHeard, hdir]
  case claimants =>
    rw [hclaimants, holderHeard]
    cases h.dir <;> rfl
  case refreshed => rw [learnHolder_eq, if_pos ((holdsStation_iff _ _).mpr hin)]
  case added => rw [learnHolder_eq, if_neg (hnew hout), if_pos hroom]
  case overflown => rw [learnHolder_eq, if_neg (hnew hout), if_neg (Nat.not_lt.mpr hfull), holderHeard_holders]

/-! ## One hold entry -/

theorem holds_eq (m : HoldMode) : m.holds = (m != .waiting) := by
  cases m <;> decide

/-- What a hold entry makes of its section's entry (R101, R102). -/
def holdLearned (st : Nat) (b : Beacon) (tm : Time) (h : HoldEntry) (e : ClaimEntry) : ClaimEntry :=
  if h.mode.holds then learnHolder (Holder.of st b h tm) e
  else learnClaimant ⟨st, h.dir, true, b.size, tm⟩ (dropHolder st e)

/-- The effect of a hold entry on the state, the count of overflows included. -/
def holdEffect (st : Nat) (b : Beacon) (tm : Time) (h : HoldEntry) (e : ClaimEntry) (s : State) : State :=
  if h.mode.holds ∧ ¬holdsStation st e ∧ e.holders.length ≥ 8 then
    raise .holderOverflow (setClaimEntry (holdLearned st b tm h e) s)
  else setClaimEntry (holdLearned st b tm h e) s

theorem holdLearned_sec (st : Nat) (b : Beacon) (tm : Time) (h : HoldEntry) (e : ClaimEntry) :
    (holdLearned st b tm h e).sec = e.sec := by
  unfold holdLearned
  split
  · exact (learnHolder_sameOwn _ e).1
  · exact learnClaimant_sec _ _

theorem learnHold_eq (st : Nat) (b : Beacon) (tm : Time) (h : HoldEntry) (s : State) :
    learnHold st b tm h s = onEntry h.sec (holdEffect st b tm h) s := by
  unfold learnHold
  refine congrArg (onEntry h.sec · s) (funext fun e => funext fun s => ?_)
  by_cases hholds : h.mode.holds = true
  · simp only [holdEffect, holdLearned, hholds, if_true, true_and]
  · simp only [holdEffect, holdLearned, hholds, if_false, false_and, Bool.false_eq_true]

theorem rewrites_holdLearned (st : Nat) (b : Beacon) (tm : Time) (h : HoldEntry) :
    Rewrites (holdEffect st b tm h) (holdLearned st b tm h) := by
  intro e s _ y
  unfold holdEffect
  split <;> rfl

theorem claimEntry_learnHold (st : Nat) (b : Beacon) (tm : Time) (h : HoldEntry) (s : State) (y : Nat) :
    claimEntry (learnHold st b tm h s) y =
      (claimEntry s y).map (fun x => if x.sec = h.sec then holdLearned st b tm h x else x) := by
  rw [learnHold_eq]
  exact claimEntry_onEntry (rewrites_holdLearned st b tm h) (holdLearned_sec st b tm h) h.sec y s

/-- Other sections keep their entries. -/
theorem claimEntry_learnHold_ne (st : Nat) (b : Beacon) (tm : Time) (h : HoldEntry) (s : State) {y : Nat}
    (hy : y ≠ h.sec) : claimEntry (learnHold st b tm h s) y = claimEntry s y := by
  rw [claimEntry_learnHold]
  cases he : claimEntry s y with
  | none => rfl
  | some e => exact congrArg some (if_neg (claimEntry_sec he ▸ hy))

/-! ## The whole list -/

/-- The hold entries of a telegram, in their order. -/
def holdsLearned (st : Nat) (b : Beacon) (tm : Time) (l : List HoldEntry) (s : State) : State :=
  l.foldl (fun s h => learnHold st b tm h s) s

theorem claimEntry_holdsLearned (st : Nat) (b : Beacon) (tm : Time) (l : List HoldEntry) (s : State) (y : Nat) :
    claimEntry (holdsLearned st b tm l s) y =
      (claimEntry s y).map (toldOf HoldEntry.sec (holdLearned st b tm) l) := by
  unfold holdsLearned
  simp only [learnHold_eq]
  exact claimEntry_foldl_onEntry (fun h => rewrites_holdLearned st b tm h) (fun h => holdLearned_sec st b tm h) l y s

/-- What the end of a hold list makes of an entry: a section not named loses the source as holder (R102). -/
def omittedDropped (st : Nat) (b : Beacon) (e : ClaimEntry) : ClaimEntry :=
  if b.holds.any (fun h => h.sec == e.sec) then e else dropHolder st e

theorem omittedDropped_sec (st : Nat) (b : Beacon) (e : ClaimEntry) : (omittedDropped st b e).sec = e.sec := by
  unfold omittedDropped
  split <;> rfl

theorem omittedDropped_again (st : Nat) (b : Beacon) (e : ClaimEntry) :
    omittedDropped st b (omittedDropped st b e) = omittedDropped st b e := by
  by_cases h : b.holds.any (fun h => h.sec == e.sec) = true
  · have hkept : omittedDropped st b e = e := if_pos h
    rw [hkept, hkept]
  · have hdropped : omittedDropped st b e = dropHolder st e := if_neg h
    rw [hdropped]
    exact (if_neg h).trans (dropHolder_dropHolder st e)

theorem rewrites_omittedDropped (st : Nat) (b : Beacon) :
    Rewrites (fun e s => if b.holds.any (fun h => h.sec == e.sec) then s else setClaimEntry (dropHolder st e) s)
      (omittedDropped st b) := by
  intro e s he y
  dsimp only
  unfold omittedDropped
  split
  · exact (claimEntry_setClaimEntry_self he y).symm
  · rfl

theorem claimEntry_dropOmitted {st : Nat} {b : Beacon} {s : State} {y : Nat} {e : ClaimEntry}
    (he : claimEntry s y = some e) : claimEntry (dropOmitted st b s) y = some (omittedDropped st b e) := by
  refine (claimEntry_foldl_onEntry_same (rewrites_omittedDropped st b) (omittedDropped_sec st b)
    (omittedDropped_again st b) (claimSections s) y s).trans ?_
  rw [he, Option.map_some, if_pos]
  exact List.mem_map.mpr ⟨e, mem_of_claimEntry he, rfl⟩

/-! ## The overflows (R105) -/

/-- A hold entry meets a full holder list without its source. -/
def holdOverflows (st : Nat) (s : State) (h : HoldEntry) : Bool :=
  h.mode.holds && (claimEntry s h.sec).any (fun e => !holdsStation st e && decide (8 ≤ e.holders.length))

theorem learnHold_counters (st : Nat) (b : Beacon) (tm : Time) (h : HoldEntry) (s : State) :
    (learnHold st b tm h s).svc.counters =
      if holdOverflows st s h then s.svc.counters.raise .holderOverflow else s.svc.counters := by
  rw [learnHold_eq, holdOverflows]
  cases he : claimEntry s h.sec with
  | none =>
    rw [onEntry_absent he, Option.any_none, Bool.and_false]
    rfl
  | some e =>
    rw [onEntry_of_claimEntry he, holdEffect, Option.any_some]
    by_cases hfull : h.mode.holds ∧ ¬holdsStation st e ∧ e.holders.length ≥ 8
    · rw [if_pos hfull, if_pos (by simpa using hfull)]
      rfl
    · rw [if_neg hfull, if_neg (by simpa using hfull)]
      rfl

/-- A counter raised a number of times stands at its limit or as many higher. -/
def overflowsCounted (c : Counters) (n : Nat) : Counters :=
  { c with holderOverflow := if n = 0 then c.holderOverflow else min 65535 (c.holderOverflow + n) }

theorem overflowsCounted_raise (c : Counters) (n : Nat) :
    overflowsCounted (c.raise .holderOverflow) n = overflowsCounted c (n + 1) := by
  have hsum : (if n = 0 then countUp c.holderOverflow else min 65535 (countUp c.holderOverflow + n)) =
      if n + 1 = 0 then c.holderOverflow else min 65535 (c.holderOverflow + (n + 1)) := by
    rw [if_neg (Nat.succ_ne_zero n), countUp]
    split <;> omega
  exact congrArg (fun k => { c with holderOverflow := k }) hsum

theorem holdsLearned_counters (st : Nat) (b : Beacon) (tm : Time) {l : List HoldEntry}
    (hnodup : (l.map (·.sec)).Nodup) (s : State) : (holdsLearned st b tm l s).svc.counters =
      overflowsCounted s.svc.counters (l.filter (holdOverflows st s)).length := by
  induction l generalizing s with
  | nil => rfl
  | cons h l ih =>
    obtain ⟨hfresh, hrest⟩ := List.nodup_cons.mp hnodup
    have hsame : l.filter (holdOverflows st (learnHold st b tm h s)) = l.filter (holdOverflows st s) := by
      refine List.filter_congr fun h' hmem => ?_
      have hne : h'.sec ≠ h.sec := fun heq => hfresh (List.mem_map.mpr ⟨h', hmem, heq⟩)
      rw [holdOverflows, claimEntry_learnHold_ne st b tm h s hne, ← holdOverflows]
    have hstep := ih hrest (learnHold st b tm h s)
    rw [hsame, learnHold_counters] at hstep
    refine hstep.trans ?_
    rw [List.filter_cons]
    split
    · exact overflowsCounted_raise _ _
    · rfl

/-! ## The telegram -/

theorem eq_of_blank_footLearn {s t : State} (h : blank footLearn t = blank footLearn s) :
    t = { s with
      clm := t.clm
      mail := t.mail
      draws := t.draws
      svc := { s.svc with counters := t.svc.counters } } :=
  calc t = { blank footLearn t with
        clm := t.clm
        mail := t.mail
        draws := t.draws
        svc := { (blank footLearn t).svc with counters := t.svc.counters } } := rfl
    _ = { blank footLearn s with
        clm := t.clm
        mail := t.mail
        draws := t.draws
        svc := { (blank footLearn s).svc with counters := t.svc.counters } } := by rw [h]
    _ = _ := rfl

/-- The oldest telegram has left CLM's queue. -/
def clmPopped (rest : List Received) (s : State) : State := { s with air := { s.air with clmQueue := rest } }

theorem exec_clmTakesPosition {s : State} {st num : Nat} {b : Beacon} {tm : Time} {rest : List Received}
    (hup : s.held = false) (hqueue : s.air.clmQueue = ⟨⟨st, num, .position b⟩, tm⟩ :: rest) :
    exec .clmTakesPosition s =
      .next (clmTakePosition st b tm (clmPopped rest s)) := by
  refine (whileUp_up hup _).trans ?_
  simp only [clmTakes, hqueue]
  rfl

theorem clmTakePosition_counters (st : Nat) {b : Beacon} (tm : Time) (hnodup : (b.holds.map (·.sec)).Nodup)
    (s : State) : (clmTakePosition st b tm s).svc.counters =
      overflowsCounted s.svc.counters (b.holds.filter (holdOverflows st s)).length := by
  have hreviewed : blank footClm (clmTakePosition st b tm s) = blank footClm (holdsLearned st b tm b.holds s) := by
    rw [clmTakePosition, reviewChanged_frame rfl, dropOmitted_frame rfl]
    rfl
  have hsvc := congrArg State.svc (eq_of_blank_footClm hreviewed)
  exact (congrArg Svc.counters hsvc).trans (holdsLearned_counters st b tm hnodup s)

/-- The overflows read from the table's entries. -/
theorem holdOverflows_eq {st : Nat} {s : State} (hnodup : (s.clm.entries.map (·.sec)).Nodup) (h : HoldEntry) :
    holdOverflows st s h = (h.mode != .waiting && s.clm.entries.any (fun e =>
      e.sec == h.sec && decide (8 ≤ e.holders.length) && e.holders.all (fun x => x.station != st))) := by
  have hall (e : ClaimEntry) : (!holdsStation st e) = e.holders.all (fun x => x.station != st) := by
    simp [holdsStation, List.any_eq_not_all_not, bne]
  rw [holdOverflows, holds_eq]
  refine congrArg (fun c => h.mode != .waiting && c) (Bool.eq_iff_iff.mpr ?_)
  simp only [Option.any_eq_true, List.any_eq_true, Bool.and_eq_true, beq_iff_eq, hall]
  constructor
  · rintro ⟨e, he, hout, hfull⟩
    exact ⟨e, mem_of_claimEntry he, ⟨claimEntry_sec he, hfull⟩, hout⟩
  · rintro ⟨e, he, ⟨hsec, hfull⟩, hout⟩
    exact ⟨e, hsec ▸ claimEntry_of_mem hnodup he, hout, hfull⟩

/-- Settles O36: what each hold entry makes of its section, the sections not named, and the count. -/
theorem holdListsAreLearned : Obligations.HoldListsAreLearned := by
  intro st num b tm rest s hup hqueue hholds hnodup full old counted
  have hfull : full = b.holds.filter (holdOverflows st s) :=
    (List.filter_congr fun h _ => holdOverflows_eq hnodup h).symm
  have hcounted : (clmTakePosition st b tm (clmPopped rest s)).svc.counters = counted := by
    refine (clmTakePosition_counters st tm hholds (clmPopped rest s)).trans ?_
    change overflowsCounted old (b.holds.filter (holdOverflows st s)).length = counted
    rw [← hfull]
    exact congrArg (fun k => { old with holderOverflow := k }) (if_congr (List.length_eq_zero_iff (l := full)) rfl rfl)
  refine ⟨clmTakePosition st b tm (clmPopped rest s), exec_clmTakesPosition hup hqueue, ?frame, fun y e he => ?entry⟩
  case frame =>
    rw [← hcounted]
    exact eq_of_blank_footLearn (clmTakePosition_frame rfl st b tm (clmPopped rest s))
  case entry =>
    have hsec : e.sec = y := claimEntry_sec he
    have hlearned := claimEntry_holdsLearned st b tm b.holds (clmPopped rest s) y
    rw [show claimEntry (clmPopped rest s) y = some e from he, Option.map_some] at hlearned
    obtain ⟨f, hf, hholders, hclaimants, hheardAB, hheardBA⟩ :=
      claimEntry_reviewChanged (old := clmPopped rest s) (claimEntry_dropOmitted (st := st) (b := b) hlearned)
    have hnamed {h : HoldEntry} (hmem : h ∈ b.holds) (hy : h.sec = y) :
        omittedDropped st b (toldOf HoldEntry.sec (holdLearned st b tm) b.holds e) = holdLearned st b tm h e := by
      rw [toldOf_named hholds hmem (hy.trans hsec.symm)]
      exact if_pos (List.any_eq_true.mpr ⟨h, hmem, by rw [holdLearned_sec, hy, hsec, beq_self_eq_true]⟩)
    refine ⟨f, hf, fun hunnamed => ?unnamed, fun h hmem hy hmode => ?holds, fun h hmem hy hmode => ?waits⟩
    case unnamed =>
      have hdropped : omittedDropped st b (toldOf HoldEntry.sec (holdLearned st b tm) b.holds e) = dropHolder st e := by
        rw [toldOf_unnamed fun h hmem => hsec ▸ hunnamed h hmem]
        exact if_neg (by simpa [hsec] using hunnamed)
      rw [hdropped] at hholders hclaimants hheardAB hheardBA
      exact ⟨hholders, hclaimants, hheardAB, hheardBA⟩
    case holds =>
      have hmodeHolds : h.mode.holds = true := by
        rw [holds_eq]
        exact bne_iff_ne.mpr hmode
      rw [hnamed hmem hy, holdLearned, if_pos hmodeHolds] at hholders hclaimants hheardAB hheardBA
      obtain ⟨hheard, hgone, hrefreshed, hadded, hoverflown⟩ := learnHolder_learned (Holder.of st b h tm) e
      subst hy
      refine ⟨?_, hclaimants.trans hgone, fun hin => hholders.trans (hrefreshed hin),
        fun hout hroom => hholders.trans (hadded hout hroom), fun hout hover => hholders.trans (hoverflown hout hover)⟩
      rw [hheardAB, hheardBA]
      exact hheard
    case waits =>
      have hmodeWaits : ¬h.mode.holds = true := by
        rw [hmode]
        decide
      rw [hnamed hmem hy, holdLearned, if_neg hmodeWaits] at hholders hclaimants hheardAB hheardBA
      obtain ⟨hsameHolders, hsameAB, hsameBA⟩ := learnClaimant_others ⟨st, h.dir, true, b.size, tm⟩ (dropHolder st e)
      have hrules := learnClaimant_learned ⟨st, h.dir, true, b.size, tm⟩ (dropHolder st e)
      rw [← hclaimants] at hrules
      exact ⟨hholders.trans hsameHolders, hheardAB.trans hsameAB, hheardBA.trans hsameBA, hrules.refreshed,
        hrules.added, fun hnew hover => ⟨hrules.refused hnew hover, hrules.replaced hnew hover⟩⟩

end Sys2Proof.Proofs
end

section
/-! PROOFS. The position check step by step: what each of its steps leaves as it is, and what one of them does
when a single entry is concerned (R109, R110, R123, R125). -/

namespace Sys2Proof.Proofs

open Sys2Proof.Machine Sys2Proof.Laws

/-! ## Acting on entries -/

theorem onEntry_id {f : ClaimEntry → State → State} {s : State} {sec : Nat}
    (h : ∀ e, claimEntry s sec = some e → f e s = s) : onEntry sec f s = s := by
  unfold onEntry
  split
  · next e he => exact h e he
  · rfl

theorem onEveryEntry_id {f : ClaimEntry → State → State} {s : State} (h : ∀ e ∈ s.clm.entries, f e s = s) :
    onEveryEntry f s = s :=
  List.foldlRecOn (motive := fun t => t = s) _ _ rfl fun t ht _ _ => by
    subst ht
    exact onEntry_id fun e he => h e (mem_of_claimEntry he)

/-- Acting on every entry, where all but one are left alone in every state. -/
theorem onEveryEntry_one {f : ClaimEntry → State → State} {s : State} {e : ClaimEntry}
    (hnodup : (s.clm.entries.map (·.sec)).Nodup) (he : claimEntry s e.sec = some e)
    (hothers : ∀ g ∈ s.clm.entries, g.sec ≠ e.sec → ∀ t, f g t = t)
    (hframe : ∀ y, y ≠ e.sec → claimEntry (f e s) y = claimEntry s y) : onEveryEntry f s = f e s := by
  have hquiet {l : List Nat} (hl : e.sec ∉ l) (t : State) (ht : ∀ y, y ≠ e.sec → claimEntry t y = claimEntry s y) :
      l.foldl (fun s sec => onEntry sec f s) t = t := by
    refine List.foldlRecOn (motive := fun u => u = t) l _ rfl fun u hu y hy => ?_
    have hne : y ≠ e.sec := fun heq => hl (heq ▸ hy)
    subst hu
    refine onEntry_id fun g hg => ?_
    rw [ht y hne] at hg
    exact hothers g (mem_of_claimEntry hg) (claimEntry_sec hg ▸ hne) u
  obtain ⟨before, after, hsections⟩ := List.append_of_mem (List.mem_map_of_mem (f := (·.sec)) (mem_of_claimEntry he))
  rw [hsections] at hnodup
  obtain ⟨-, htail, hdisjoint⟩ := List.nodup_append.mp hnodup
  have hbefore : e.sec ∉ before := fun hmem => hdisjoint _ hmem _ List.mem_cons_self rfl
  have hafter : e.sec ∉ after := (List.nodup_cons.mp htail).1
  rw [onEveryEntry, claimSections, hsections, List.foldl_append, List.foldl_cons, hquiet hbefore s fun _ _ => rfl,
    onEntry_of_claimEntry he, hquiet hafter _ hframe]

/-- What stands in a table after a replacement. -/
theorem mem_setClaimEntry_or {s : State} {f g : ClaimEntry} (h : g ∈ (setClaimEntry f s).clm.entries) :
    g = f ∨ (g ∈ s.clm.entries ∧ g.sec ≠ f.sec) := by
  obtain ⟨x, hx, rfl⟩ := List.mem_map.mp h
  split
  · exact .inl rfl
  · next hne => exact .inr ⟨hx, hne⟩

theorem nodup_setClaimEntry {s : State} (f : ClaimEntry) (h : (s.clm.entries.map (·.sec)).Nodup) :
    ((setClaimEntry f s).clm.entries.map (·.sec)).Nodup :=
  (congrArg List.Nodup (claimSections_setClaimEntry f s)).mpr h

/-! ## The review of every entry (R109) -/

/-- A review finds nothing to do with an entry. -/
def Settled (s : State) (e : ClaimEntry) : Prop :=
  e.state = .none ∨ (e.noted = none ∧ (e.state = .claiming ∨ e.state = .standoff ∨
    (e.state = .riding ∧ Rides s e) ∨ (e.state = .holding ∧ e.holders = [])))

section Review

variable {s : State} (hnodup : (s.clm.entries.map (·.sec)).Nodup)
include hnodup

theorem reviewNoted_unnoted {e : ClaimEntry} (he : claimEntry s e.sec = some e) (h : e.noted = none) :
    reviewNoted e s = s := by
  rw [reviewNoted_eq]
  split
  · rw [← h]
    exact setClaimEntry_self hnodup he
  · rfl

theorem review_settled {e : ClaimEntry} (he : claimEntry s e.sec = some e) (h : Settled s e) :
    review e.sec s = s := by
  rcases h with hnone | ⟨hnoted, hclaiming | hstandoff | ⟨hriding, hrides⟩ | ⟨hholding, halone⟩⟩
  · exact review_none he hnone
  · rw [review_stays he (.inl hclaiming), reviewNoted_unnoted hnodup he hnoted]
  · rw [review_stays he (.inr (.inl hstandoff)), reviewNoted_unnoted hnodup he hnoted]
  · rw [review_stays he (.inr (.inr ⟨hriding, .inr hrides⟩)), reviewNoted_unnoted hnodup he hnoted]
  · have hnobody : opposingHolders s e = [] := opposingHolders_noHolders halone
    have hyields : yieldsTo s e = [] := congrArg (List.filter _) hnobody
    rw [review_holds he hholding (.inr hyields) (.inr (opposingInside_nil hnobody)),
      reviewNoted_unnoted hnodup he hnoted]

theorem reviewAll_settled (h : ∀ e ∈ s.clm.entries, Settled s e) : reviewAll s = s := by
  refine List.foldlRecOn (motive := fun t => t = s) _ _ rfl fun t ht sec _ => ?_
  subst ht
  cases he : claimEntry t sec with
  | none => exact review_absent he
  | some e =>
    have hsec : e.sec = sec := claimEntry_sec he
    exact hsec ▸ review_settled hnodup (hsec ▸ he) (h e (mem_of_claimEntry he))

end Review

/-! ## Changes of section, tails, leaving, approaching -/

theorem crossing_same {s : State} {before : Option Nat} (h : before = some s.pos.record.sec) : crossing before s = s :=
  if_pos h

theorem enterEntry_absent {s : State} {sec : Nat} (h : claimEntry s sec = none) : enterEntry sec s = s := by
  rw [enterEntry, h]

/-- No change of section, or none between sections of the table. -/
theorem crossing_quiet {s : State} {before : Option Nat}
    (h : before = some s.pos.record.sec ∨ (before = none ∧ claimEntry s s.pos.record.sec = none)) :
    crossing before s = s := by
  rcases h with hsame | ⟨hfirst, habsent⟩
  · exact crossing_same hsame
  · rw [hfirst, crossing, if_neg nofun]
    exact enterEntry_absent habsent

theorem moveTail_none {e : ClaimEntry} (h : e.tail = 0) (mm : Nat) (s : State) : moveTail mm e s = s := if_pos h

theorem tailCountdown_quiet {s : State} {move : Option Nat} (h : move = none ∨ ∀ e ∈ s.clm.entries, e.tail = 0) :
    tailCountdown move s = s := by
  cases move with
  | none => rfl
  | some mm =>
    exact onEveryEntry_id fun e he => moveTail_none (h.resolve_left nofun e he) mm s

/-- Nothing makes an entry leave the approach. -/
def Stays (s : State) (e : ClaimEntry) : Prop :=
  e.state = .none ∨ e.state = .standoff ∨ (e.state = .holding ∧ Inside s e) ∨ hasLeftApproach s e.sec = false

theorem checkLeaving_stays {s : State} {e : ClaimEntry} (h : Stays s e) : checkLeaving e s = s := by
  rw [checkLeaving_eq]
  refine if_neg fun ⟨hstate, hleft⟩ => ?_
  rcases h with h | h | ⟨h, hin⟩ | h
  · simp [h] at hstate
  · simp [h] at hstate
  · simp [h, (insideEntry_iff s e).mpr hin] at hstate
  · simp [h] at hleft

theorem checkLeaving_unused {e : ClaimEntry} (h : e.state = .none) (s : State) : checkLeaving e s = s :=
  checkLeaving_stays (.inl h)

/-- Of the next section nothing is claimed. -/
def NoApproach (s : State) : Prop :=
  ∀ x e, nextElement s = some x → claimEntry s x.sec = some e →
    ¬(approachHolds s x e = true ∧ (othersActive s x.sec).length < 2)

theorem approach_none {s : State} (h : NoApproach s) : approach s = s := by
  unfold approach
  split
  · rfl
  · next x hx => exact onEntry_id fun e he => if_neg (h x e hx he)

theorem noApproach_of_absent {s : State} (h : ∀ x, nextElement s = some x → claimEntry s x.sec = none) :
    NoApproach s :=
  fun x _ hx he => absurd ((h x hx).symm.trans he) nofun

/-! ## The whole check -/

section Check

variable {s : State} (hrunning : s.node.mode = .running) (hfix : s.pos.record.validity ≠ .none)
include hrunning hfix

theorem positionCheck_eq (before move : Option Nat) : positionCheck before move s =
    reviewAll (approach (onEveryEntry checkLeaving (tailCountdown move (crossing before s)))) :=
  if_pos ⟨hrunning, hfix⟩

/-- A check that its first two steps settle. -/
theorem positionCheck_of_moved {before move : Option Nat} {u : State}
    (hmoved : tailCountdown move (crossing before s) = u) (hnodup : (u.clm.entries.map (·.sec)).Nodup)
    (hnext : NoApproach u) (hrest : ∀ e ∈ u.clm.entries, Stays u e ∧ Settled u e) :
    positionCheck before move s = u := by
  rw [positionCheck_eq hrunning hfix, hmoved, onEveryEntry_id fun e he => checkLeaving_stays (hrest e he).1,
    approach_none hnext, reviewAll_settled hnodup fun e he => (hrest e he).2]

end Check

/-! ## The next section as the record moves (R19) -/

/-- The next section follows from the own section and the facing, wherever in the section the node stands. -/
theorem nextElement_sec_of_moved {s t : State} (hsections : t.pos.sections = s.pos.sections)
    (hsec : t.pos.record.sec = s.pos.record.sec) (hfacing : t.pos.record.facing = s.pos.record.facing)
    (hfix : s.pos.record.validity ≠ .none) {x : ChainElement} (hx : nextElement t = some x) :
    ∃ y, nextElement s = some y ∧ y.sec = x.sec := by
  have hfixT : t.pos.record.validity ≠ .none := fun hnone => by simp [nextElement, chain_noFix hnone] at hx
  have hstep {u : State} (hu : u.pos.record.validity ≠ .none) :
      nextElement u = nextOnChain u.pos.sections [u.pos.record.sec] (ownElement u) := by
    have hone : sectionsUpTo u 0 = [u.pos.record.sec] := by
      have hhead := chain_head hu
      unfold sectionsUpTo
      cases hchain : chain u with
      | nil => simp [hchain] at hhead
      | cons z zs =>
        rw [hchain] at hhead
        obtain rfl : z = ownElement u := Option.some.inj hhead
        rfl
    exact (chain_step (chain_head hu)).trans (by rw [if_pos Nat.zero_lt_two, hone])
  rw [hstep hfixT, hsections, hsec] at hx
  obtain ⟨hyard, u, hlink, hnew, rfl⟩ := nextOnChain_eq_some.mp hx
  refine ⟨elementAfter s.pos.sections (ownElement s) u, ?_, rfl⟩
  rw [hstep hfix]
  simp only [ownElement, hsec, hfacing, hsections] at hyard hlink
  exact nextOnChain_eq_some.mpr ⟨hyard, u, hlink, hnew, rfl⟩

end Sys2Proof.Proofs
end

section
/-! PROOFS. The approach: the next section is claimed or ridden, deferred, or left again (R109 to R112, R125,
R128). -/

namespace Sys2Proof.Proofs

open Sys2Proof.Machine Sys2Proof.Laws

/-! ## Claiming and riding -/

/-- The boundary is within the approach distance (R110). -/
def Near (s : State) : Prop := ∃ b, boundary s = some b ∧ b ≤ s.node.settings.approachDistance

theorem approachHolds_near {s : State} {x : ChainElement} {e : ClaimEntry} :
    approachHolds s x e = true ↔ x.kind = .single ∧ e.state = .none ∧ Near s := by
  simp [approachHolds, Near, Option.any_eq_true, and_assoc]

section Acts

variable {s : State} {x : ChainElement} {e : ClaimEntry} (hx : nextElement s = some x)
  (he : claimEntry s x.sec = some e) (hholds : approachHolds s x e = true)
  (hroom : (othersActive s x.sec).length < 2)
include hx he hholds hroom

theorem approach_rides (hrides : Rides s { e with dir := dirOf x.facing }) :
    approach s = setClaimEntry { e with state := .riding, dir := dirOf x.facing } s := by
  simp only [approach, hx]
  rw [onEntry_of_claimEntry he, if_pos ⟨hholds, hroom⟩, if_pos (canRide_iff.mpr hrides)]

theorem approach_claims (hrides : ¬Rides s { e with dir := dirOf x.facing }) :
    approach s = startClaim { e with dir := dirOf x.facing } s := by
  simp only [approach, hx]
  rw [onEntry_of_claimEntry he, if_pos ⟨hholds, hroom⟩, if_neg (mt canRide_iff.mp hrides)]

end Acts

/-- A list of two claims at most keeps what it holds when it has room. -/
theorem joinPosts_ends (p : ClaimPost) (posts : List ClaimPost) :
    ∃ old, joinPosts p posts = old ++ [p] ∧ (posts.length ≤ 1 → old = posts) := by
  by_cases hroom : posts.length ≤ 1
  · exact ⟨posts, joinPosts_room hroom p, fun _ => rfl⟩
  · exact ⟨_, if_neg (by omega), fun h => absurd h hroom⟩

/-! ## Leaving the approach -/

theorem hasLeftApproach_iff (s : State) (sec : Nat) : hasLeftApproach s sec = true ↔
    (∀ x, nextElement s = some x → x.sec ≠ sec) ∨
      ∃ b, boundary s = some b ∧ s.node.settings.approachDistance + 100 < b := by
  simp [hasLeftApproach, Option.any_eq_true, Option.any_eq_false]

/-- Leaving the approach leaves the entry in NONE. -/
theorem leaveApproach_entries {e : ClaimEntry} (hnone : e.state ≠ .none) (hstandoff : e.state ≠ .standoff)
    (s : State) : ∃ f : ClaimEntry, f.sec = e.sec ∧ f.state = .none ∧
      (leaveApproach e s).clm.entries = (setClaimEntry f s).clm.entries := by
  unfold leaveApproach
  split
  · exact ⟨{ e with state := .none, window := none }, rfl, rfl, rfl⟩
  · exact ⟨{ e with state := .none }, rfl, rfl, rfl⟩
  · exact ⟨{ e with state := .none }, rfl, rfl, rfl⟩
  · exact ⟨{ e with state := .none }, rfl, rfl, rfl⟩
  · next h => exact absurd h hnone
  · next h => exact absurd h hstandoff

section Leaves

variable {before move : Option Nat} {e : ClaimEntry} {s : State} (hrunning : s.node.mode = .running)
  (hfix : s.pos.record.validity ≠ .none) (hmoved : tailCountdown move (crossing before s) = s)
  (hnodup : (s.clm.entries.map (·.sec)).Nodup) (he : claimEntry s e.sec = some e)
  (hothers : ∀ g ∈ s.clm.entries, g.sec ≠ e.sec → g.state = .none)
include hrunning hfix hmoved hnodup he hothers

/-- An entry that has left the approach, with no other in use and nothing to claim. -/
theorem positionCheck_leaves (hstate : e.state = .claiming ∨ e.state = .riding ∨ e.state = .waiting ∨
    (e.state = .holding ∧ ¬Inside s e)) (hleft : hasLeftApproach s e.sec = true)
    (hnext : ¬Near s ∨ ∀ x, nextElement s = some x → claimEntry s x.sec = none) :
    positionCheck before move s = leaveApproach e s := by
  have hinUse : e.state ≠ .none ∧ e.state ≠ .standoff := by
    rcases hstate with h | h | h | ⟨h, -⟩ <;> simp [h]
  obtain ⟨f, hsec, hnone, hentries⟩ := leaveApproach_entries hinUse.1 hinUse.2 s
  have hframe : blank footClm (leaveApproach e s) = blank footClm s := leaveApproach_frame rfl e s
  have hleave : checkLeaving e s = leaveApproach e s := by
    rw [← insideEntry_iff] at hstate
    exact (checkLeaving_eq e s).trans (if_pos ⟨hstate, hleft⟩)
  have hevery : onEveryEntry checkLeaving s = leaveApproach e s := by
    refine (onEveryEntry_one hnodup he (fun g hg hne => checkLeaving_unused (hothers g hg hne)) fun y hy => ?_).trans hleave
    rw [hleave, claimEntry_congr hentries]
    exact claimEntry_setClaimEntry_ne (hsec ▸ hy)
  have hnear : Near (leaveApproach e s) ↔ Near s := by
    rw [eq_of_blank_footClm hframe]
    rfl
  have hchain : nextElement (leaveApproach e s) = nextElement s := by
    rw [eq_of_blank_footClm hframe]
    rfl
  have hquiet : NoApproach (leaveApproach e s) := by
    rcases hnext with hfar | habsent
    · exact fun x g _ _ ⟨hholds, _⟩ => hfar (hnear.mp (approachHolds_near.mp hholds).2.2)
    · refine noApproach_of_absent fun x hx => ?_
      rw [claimEntry_congr hentries]
      exact claimEntry_setClaimEntry_none.mpr (habsent x (hchain ▸ hx))
  rw [positionCheck_eq hrunning hfix, hmoved, hevery, approach_none hquiet]
  refine reviewAll_settled ?_ fun g hg => .inl ?_
  · rw [hentries]
    exact nodup_setClaimEntry f hnodup
  · rw [hentries] at hg
    rcases mem_setClaimEntry_or hg with rfl | ⟨hmem, hne⟩
    · exact hnone
    · exact hothers g hmem (hsec ▸ hne)

end Leaves

/-! ## The approach with other sections held by their tails -/

/-- An entry that is clearing by its tail, or not in use. -/
def Clearing (e : ClaimEntry) : Prop :=
  e.noted = none ∧ (e.state = .none ∨ (e.state = .holding ∧ 0 < e.tail ∧ e.holders = []))

theorem clearing_rests {e : ClaimEntry} (h : Clearing e) (s : State) : Stays s e ∧ Settled s e := by
  obtain ⟨hnoted, hnone | ⟨hholding, htail, halone⟩⟩ := h
  · exact ⟨.inl hnone, .inl hnone⟩
  · exact ⟨.inr (.inr (.inl ⟨hholding, .inr htail⟩)), .inr ⟨hnoted, .inr (.inr (.inr ⟨hholding, halone⟩))⟩⟩

/-- What a section reads after its entry has been replaced, and what the others read. -/
theorem claimEntry_put {s : State} {sec : Nat} {e f : ClaimEntry} (he : claimEntry s sec = some e) (hf : f.sec = sec) :
    claimEntry (setClaimEntry f s) sec = some f ∧ ∀ y, y ≠ sec → claimEntry (setClaimEntry f s) y = claimEntry s y := by
  subst hf
  exact ⟨claimEntry_setClaimEntry_same he, fun y hy => claimEntry_setClaimEntry_ne hy⟩

section Deferred

variable {s : State} (hclear : ∀ e ∈ s.clm.entries, Clearing e)
include hclear

/-- The other entries in use are the holds. -/
theorem othersActive_clearing (hnodup : (s.clm.entries.map (·.sec)).Nodup) {e : ClaimEntry} {sec : Nat}
    (he : claimEntry s sec = some e) (hstate : e.state = .none) :
    othersActive s sec = s.clm.entries.filter (fun e => e.state == .holding) := by
  refine List.filter_congr fun g hg => Bool.eq_iff_iff.mpr ?_
  rw [Bool.and_eq_true, bne_iff_ne, bne_iff_ne, beq_iff_eq]
  constructor
  · rintro ⟨-, huse⟩
    exact (hclear g hg).2.elim (absurd · huse) And.left
  · intro hholding
    refine ⟨fun hsec => ?_, by simp [hholding]⟩
    have hsame : some g = some e := (hsec ▸ claimEntry_of_mem hnodup hg).symm.trans he
    rw [Option.some.inj hsame, hstate] at hholding
    cases hholding

/-- Nobody is met: there is nothing to stop for but the next section. -/
theorem clearing_stopsForNobody : ¬inStandoff s = true ∧ ¬s.clm.entries.any (winnerStops s) = true := by
  rw [inStandoff_iff, List.any_eq_true]
  constructor
  · rintro ⟨e, he, hstandoff⟩
    obtain ⟨-, hnone | ⟨hholding, -⟩⟩ := hclear e he <;> simp_all
  · rintro ⟨e, he, hwins⟩
    obtain ⟨hholding, -, h, hmem, -⟩ := (winnerStops_iff e).mp hwins
    obtain ⟨-, hnone | ⟨-, -, halone⟩⟩ := hclear e he
    · simp [hholding] at hnone
    · simp [halone] at hmem

/-- With one entry replaced by a settled one a review finds nothing to do. -/
theorem reviewAll_clearing (hnodup : (s.clm.entries.map (·.sec)).Nodup) {u : State} {f : ClaimEntry}
    (hentries : u.clm.entries = (setClaimEntry f s).clm.entries) (hf : Settled u f) : reviewAll u = u := by
  refine reviewAll_settled ?_ fun g hg => ?_
  · rw [hentries]
    exact nodup_setClaimEntry f hnodup
  · rw [hentries] at hg
    rcases mem_setClaimEntry_or hg with rfl | ⟨hmem, -⟩
    · exact hf
    · exact (clearing_rests (hclear g hmem) u).2

end Deferred

/-- Settles O31: which branch of the approach step and of the leaving step the check takes; the other steps find
nothing to do. -/
theorem approachClaimsOrRides : Obligations.ApproachClaimsOrRides := by
  refine ⟨?approach, ?leaving⟩
  case approach =>
    intro before move s hrunning hfix hsame hnodup htails clearing hrest t near busy
    have hclear (e : ClaimEntry) (he : e ∈ s.clm.entries) : Clearing e := hrest e he
    have hmoved : tailCountdown move (crossing before s) = s := by
      rw [crossing_quiet hsame, tailCountdown_quiet htails]
    have hstill (h : NoApproach s) : t = s :=
      positionCheck_of_moved hrunning hfix hmoved hnodup h fun e he => clearing_rests (hclear e he) s
    have hstep : t = reviewAll (approach s) := by
      have hstays := onEveryEntry_id fun e he => checkLeaving_stays (clearing_rests (hclear e he) s).1
      rw [← hstays, ← hmoved]
      exact positionCheck_eq hrunning hfix before move
    refine ⟨fun hfar => ?far, fun hother => ?other, ?deferred, ?acts⟩
    case far => exact hstill fun x e _ _ ⟨hholds, _⟩ => hfar (approachHolds_near.mp hholds).2.2
    case other =>
      refine hstill fun x e hx he ⟨hholds, _⟩ => ?_
      obtain ⟨hsingle, hnone, -⟩ := approachHolds_near.mp hholds
      exact (hother x e hx he).elim (· hsingle) (· hnone)
    case deferred =>
      intro x e hnear hx hsingle he hnone hbusy
      have hothers := othersActive_clearing hclear hnodup he hnone
      refine ⟨hstill fun y g hy _ ⟨_, hroom⟩ => ?_, fun b hb => ?_⟩
      · obtain rfl : x = y := Option.some.inj (hx.symm.trans hy)
        rw [hothers] at hroom
        exact absurd hroom (Nat.not_lt.mpr hbusy)
      · obtain ⟨hlose, hwin⟩ := clearing_stopsForNobody hclear
        obtain ⟨b', hb', hle⟩ := hnear
        obtain rfl : b = b' := Option.some.inj (hb.symm.trans hb')
        rw [stopRequirement_ahead hlose hwin hx hb, he, Option.any_some, if_pos]
        exact (stopsShort_iff hb).mpr (.inr (.inr ⟨hsingle, hnone, hle, hothers ▸ hbusy⟩))
    case acts =>
      intro x e hnear hx hsingle he hnone hbusy dir behind size
      have hsec : e.sec = x.sec := claimEntry_sec he
      have hroom : (othersActive s x.sec).length < 2 := by
        rw [othersActive_clearing hclear hnodup he hnone]
        exact Nat.lt_succ_of_le hbusy
      have hholds : approachHolds s x e = true := approachHolds_near.mpr ⟨hsingle, hnone, hnear⟩
      have hdir : dirOf x.facing = dir := dirOf_eq x.facing
      have hnoted : e.noted = none := (hclear e (mem_of_claimEntry he)).1
      by_cases hbehind : behind
      · have hride : t = setClaimEntry { e with state := .riding, dir := dir } s := by
          have hrides : Rides s { e with dir := dirOf x.facing } := hdir ▸ hbehind
          rw [hstep, approach_rides hx he hholds hroom hrides, hdir]
          exact reviewAll_clearing hclear hnodup (f := { e with state := .riding, dir := dir }) rfl
            (.inr ⟨hnoted, .inr (.inr (.inl ⟨rfl, hbehind⟩))⟩)
        obtain ⟨hown, hothers⟩ := claimEntry_put he (f := { e with state := .riding, dir := dir }) hsec
        rw [hride]
        exact ⟨hothers, fun _ => ⟨hown, rfl⟩, fun h => absurd hbehind h⟩
      · have hclaim : t = startClaim { e with dir := dir } s := by
          have hrides : ¬Rides s { e with dir := dirOf x.facing } := hdir ▸ hbehind
          rw [hstep, approach_claims hx he hholds hroom hrides, hdir]
          exact reviewAll_clearing hclear hnodup (f := claimed s { e with dir := dir }) rfl (.inr ⟨hnoted, .inl rfl⟩)
        obtain ⟨hown, hothers⟩ := claimEntry_put he (f := claimed s { e with dir := dir }) hsec
        obtain ⟨old, hjoined, hkept⟩ := joinPosts_ends
          ⟨(s.air.claimSlot.counter + s.mail.claimRequests.length) % 256, e.sec, false⟩ s.clm.posts
        rw [hclaim]
        rw [hsec] at hjoined
        refine ⟨hothers, fun h => absurd h hbehind, fun _ => ⟨hown, ⟨old, ?_, hkept⟩, ?_⟩⟩
        · rw [← hjoined, ← hsec]
          rfl
        · rw [← hsec]
          rfl
  case leaving =>
    intro before move e s hrunning hfix hsame hnodup he hout htail hnoted hothers t far next without freed
    have hunused (g : ClaimEntry) (hg : g ∈ s.clm.entries) (hne : g.sec ≠ e.sec) : g.state = .none :=
      (hothers g hg hne).1
    have htails (g : ClaimEntry) (hg : g ∈ s.clm.entries) : g.tail = 0 := by
      by_cases hsec : g.sec = e.sec
      · have hthis : some g = some e := (hsec ▸ claimEntry_of_mem hnodup hg).symm.trans he
        rw [Option.some.inj hthis, htail]
      · exact (hothers g hg hsec).2.1
    have hmoved : tailCountdown move (crossing before s) = s := by
      rw [crossing_quiet hsame, tailCountdown_quiet (.inr htails)]
    have houtside : ¬Inside s e := by
      rintro (⟨-, hown⟩ | hbehind)
      · exact hout hown.symm
      · exact absurd htail (Nat.ne_of_gt hbehind)
    refine ⟨fun hgone => ?_, fun hnear hnext hstate => ?_⟩
    · have hleft : hasLeftApproach s e.sec = true := by
        refine (hasLeftApproach_iff s e.sec).mpr (hgone.symm.imp_left fun habsent x hx hsec => ?_)
        exact absurd ((habsent x hx).symm.trans ((congrArg (claimEntry s) hsec).trans he)) nofun
      have hnext : ¬Near s ∨ ∀ x, nextElement s = some x → claimEntry s x.sec = none := by
        refine hgone.imp_left ?_
        rintro ⟨b, hb, hfar⟩ ⟨b', hb', hle⟩
        obtain rfl : b = b' := Option.some.inj (hb.symm.trans hb')
        omega
      have hleaves (hstate) : t = leaveApproach e s :=
        positionCheck_leaves hrunning hfix hmoved hnodup he hunused hstate hleft hnext
      refine ⟨fun hstate => ?_, fun hstate => ?_, fun hstate => ?_⟩
      · rw [hleaves (.inl hstate), leaveApproach, hstate]
        rfl
      · rcases hstate with hstate | hstate
        · rw [hleaves (.inr (.inr (.inl hstate))), leaveApproach, hstate]
          rfl
        · rw [hleaves (.inr (.inl hstate)), leaveApproach, hstate]
          rfl
      · rw [hleaves (.inr (.inr (.inr ⟨hstate, houtside⟩))), leaveApproach, hstate]
        rfl
    · obtain ⟨x, hx, hxsec⟩ := hnext
      have hstays : hasLeftApproach s e.sec = false := by
        refine Bool.eq_false_iff.mpr fun hleft => ?_
        exact ((hasLeftApproach_iff s e.sec).mp hleft).elim (· x hx hxsec) hnear
      refine positionCheck_of_moved hrunning hfix hmoved hnodup (fun y g hy hg ⟨hholds, _⟩ => ?_) fun g hg => ?_
      · obtain rfl : x = y := Option.some.inj (hx.symm.trans hy)
        obtain rfl : e = g := Option.some.inj (he.symm.trans (hxsec ▸ hg))
        exact absurd (hstate.symm.trans (approachHolds_near.mp hholds).2.1) nofun
      · by_cases hsec : g.sec = e.sec
        · obtain rfl : g = e := Option.some.inj ((hsec ▸ claimEntry_of_mem hnodup hg).symm.trans he)
          exact ⟨.inr (.inr (.inr hstays)), .inr ⟨hnoted, .inl hstate⟩⟩
        · exact ⟨.inl (hunused g hg hsec), .inl (hunused g hg hsec)⟩

end Sys2Proof.Proofs
end

section
/-! PROOFS. Exits and tails: leaving a held section, the tail behind, and its end (R122 to R124), at a tag read and
at a wheel pulse. -/

namespace Sys2Proof.Proofs

open Sys2Proof.Machine Sys2Proof.Laws

/-! ## The own cause of a standoff that ends -/

theorem otherStandoff_alone {s : State} {sec : Nat}
    (h : ∀ g ∈ s.clm.entries, g.sec ≠ sec → g.state ≠ .standoff) (c : StandoffCause) : otherStandoff s sec c = false := by
  refine List.any_eq_false.mpr fun g hg hother => ?_
  simp only [Bool.and_eq_true, bne_iff_ne, beq_iff_eq] at hother
  obtain ⟨⟨hne, hstandoff⟩, -⟩ := hother
  exact h g hg hne hstandoff

/-- Replacing an entry makes no other one stand. -/
theorem alone_setClaimEntry {s : State} {sec : Nat} {f : ClaimEntry} (hf : f.sec = sec)
    (h : ∀ g ∈ s.clm.entries, g.sec ≠ sec → g.state ≠ .standoff) :
    ∀ g ∈ (setClaimEntry f s).clm.entries, g.sec ≠ sec → g.state ≠ .standoff := by
  intro g hg hne
  rcases mem_setClaimEntry_or hg with rfl | ⟨hmem, -⟩
  · exact absurd hf hne
  · exact h g hmem hne

theorem dropCause_alone {s : State} {e : ClaimEntry} {c : StandoffCause} (hcause : e.cause = some c)
    (h : ∀ g ∈ s.clm.entries, g.sec ≠ e.sec → g.state ≠ .standoff) :
    dropCause e s = postCause .clm false c.halt s := by
  simp only [dropCause, hcause, otherStandoff_alone h]
  rfl

/-! ## Exits (R122 to R124) -/

/-- The entry with its tail begun at the exit. -/
def tailed (s : State) (e : ClaimEntry) : ClaimEntry := { e with tail := rigLength s, tailLimit := rigLength s }

section Exit

variable {s : State} {e : ClaimEntry}

theorem exitEntry_forward (hdir : s.gov.direction = .forward) (hstate : e.state = .holding ∨ e.state = .standoff) :
    exitEntry e s = setClaimEntry (tailed s e) s := by
  rcases hstate with hstate | hstate
  · simp only [exitEntry, tailed, hstate, hdir]
  · simp only [exitEntry, tailed, hstate, hdir]

theorem exitEntry_reverse (hdir : s.gov.direction = .reverse) (hstate : e.state = .holding) :
    exitEntry e s = postRelease e.sec (setClaimEntry { e with state := .none } s) := by
  simp only [exitEntry, hstate, hdir]

theorem exitEntry_loser {c : StandoffCause} (hdir : s.gov.direction = .reverse) (hstate : e.state = .standoff)
    (hcause : e.cause = some c) (halone : ∀ g ∈ s.clm.entries, g.sec ≠ e.sec → g.state ≠ .standoff) :
    exitEntry e s = postCause .clm false c.halt
      (postRelease e.sec (setClaimEntry { e.toWaiting with cause := none } s)) := by
  simp only [exitEntry, hstate, hdir]
  exact dropCause_alone hcause (alone_setClaimEntry (f := { e.toWaiting with cause := none }) rfl halone)

end Exit

/-! ## The tail countdown (R123) -/

/-- The entry released by the end of its tail. -/
def tailEnded (e : ClaimEntry) : ClaimEntry := { e with state := .none, waited := false, tail := 0, cause := none }

section Tail

variable {s : State} {e : ClaimEntry} {mm : Nat}

theorem endByTail_released (h : e.state ≠ .standoff) :
    endByTail e s = postRelease e.sec (setClaimEntry (tailEnded e) s) := if_neg h

theorem endByTail_loser {c : StandoffCause} (hstate : e.state = .standoff) (hcause : e.cause = some c)
    (halone : ∀ g ∈ s.clm.entries, g.sec ≠ e.sec → g.state ≠ .standoff) :
    endByTail e s = postCause .clm false c.halt (postRelease e.sec (setClaimEntry (tailEnded e) s)) :=
  (if_pos hstate).trans (dropCause_alone hcause (alone_setClaimEntry (f := tailEnded e) rfl halone))

theorem moveTail_ends (hdir : s.gov.direction = .forward) (htail : 0 < e.tail) (hmm : e.tail ≤ mm) :
    moveTail mm e s = endByTail e s := by
  simp only [moveTail, if_neg (Nat.ne_of_gt htail), hdir, if_pos hmm]

theorem moveTail_shorter (hdir : s.gov.direction = .forward) (hmm : mm < e.tail) :
    moveTail mm e s = setClaimEntry { e with tail := e.tail - mm } s := by
  simp only [moveTail, if_neg (Nat.ne_zero_of_lt hmm), hdir, if_neg (Nat.not_le_of_lt hmm)]

theorem moveTail_longer (hdir : s.gov.direction = .reverse) (htail : 0 < e.tail) :
    moveTail mm e s = setClaimEntry { e with tail := min e.tailLimit (e.tail + mm) } s := by
  simp only [moveTail, if_neg (Nat.ne_of_gt htail), hdir]

/-- A tail moved ends with its section, or stands behind as before but for its length. -/
theorem moveTail_entries (htail : 0 < e.tail) (hlimit : e.tail ≤ e.tailLimit) (mm : Nat) (s : State) :
    ∃ f : ClaimEntry, f.sec = e.sec ∧ (f.state = .none ∨
      (f.state = e.state ∧ 0 < f.tail ∧ f.holders = e.holders ∧ f.noted = e.noted)) ∧
      (moveTail mm e s).clm.entries = (setClaimEntry f s).clm.entries := by
  cases hdir : s.gov.direction with
  | forward =>
    by_cases hmm : e.tail ≤ mm
    · exact ⟨tailEnded e, rfl, .inl rfl, by
        rw [moveTail_ends hdir htail hmm, endByTail_clm]
        rfl⟩
    · have hleft : mm < e.tail := Nat.lt_of_not_le hmm
      exact ⟨{ e with tail := e.tail - mm }, rfl, .inr ⟨rfl, Nat.sub_pos_of_lt hleft, rfl, rfl⟩, by
        rw [moveTail_shorter hdir hleft]⟩
  | reverse =>
    have hpos : 0 < min e.tailLimit (e.tail + mm) := by omega
    exact ⟨{ e with tail := min e.tailLimit (e.tail + mm) }, rfl, .inr ⟨rfl, hpos, rfl, rfl⟩, by
      rw [moveTail_longer hdir htail]⟩

end Tail

/-! ## The check with one entry in use -/

section One

variable {e : ClaimEntry} {s : State} (hrunning : s.node.mode = .running) (hfix : s.pos.record.validity ≠ .none)
  (hnodup : (s.clm.entries.map (·.sec)).Nodup) (he : claimEntry s e.sec = some e) (halone : e.holders = [])
  (hnoted : e.noted = none)
  (hothers : ∀ g ∈ s.clm.entries, g.sec ≠ e.sec → g.state = .none ∧ g.tail = 0 ∧ g.noted = none)
  (hnext : ∀ x, nextElement s = some x → claimEntry s x.sec = none)
include hrunning hfix hnodup halone hnoted hothers hnext

/-- A check whose first steps release the one section in use, or leave it with a tail behind. -/
theorem positionCheck_one {before move : Option Nat} {u : State} (hmoved : tailCountdown move (crossing before s) = u)
    (hframe : blank footClm u = blank footClm s) {f : ClaimEntry} (hsec : f.sec = e.sec)
    (hentries : u.clm.entries = (setClaimEntry f s).clm.entries)
    (hf : f.state = .none ∨ ((f.state = .holding ∨ f.state = .standoff) ∧ 0 < f.tail ∧ f.holders = e.holders ∧
      f.noted = e.noted)) : positionCheck before move s = u := by
  have hchain : nextElement u = nextElement s := by
    rw [eq_of_blank_footClm hframe]
    rfl
  refine positionCheck_of_moved hrunning hfix hmoved ?_ (noApproach_of_absent fun x hx => ?_) fun g hg => ?_
  · rw [hentries]
    exact nodup_setClaimEntry f hnodup
  · rw [claimEntry_congr hentries]
    exact claimEntry_setClaimEntry_none.mpr (hnext x (hchain ▸ hx))
  · rw [hentries] at hg
    rcases mem_setClaimEntry_or hg with rfl | ⟨hmem, hne⟩
    · rcases hf with hnone | ⟨hstate, htail, hholders, hsame⟩
      · exact ⟨.inl hnone, .inl hnone⟩
      · rw [halone] at hholders
        rw [hnoted] at hsame
        rcases hstate with hstate | hstate
        · exact ⟨.inr (.inr (.inl ⟨hstate, .inr htail⟩)), .inr ⟨hsame, .inr (.inr (.inr ⟨hstate, hholders⟩))⟩⟩
        · exact ⟨.inr (.inl hstate), .inr ⟨hsame, .inr (.inl hstate)⟩⟩
    · have hunused := (hothers g hmem (hsec ▸ hne)).1
      exact ⟨.inl hunused, .inl hunused⟩

include he

/-- A change of section out of the one held, into no section of the table. -/
theorem positionCheck_exit (hown : e.sec ≠ s.pos.record.sec) (habsent : claimEntry s s.pos.record.sec = none)
    (hstate : e.state = .holding) (hrig : s.gov.direction = .reverse ∨ 0 < rigLength s) :
    positionCheck (some e.sec) none s = exitEntry e s := by
  obtain ⟨f, hsec, hentries, hf⟩ : ∃ f : ClaimEntry, f.sec = e.sec ∧
      (exitEntry e s).clm.entries = (setClaimEntry f s).clm.entries ∧ (f.state = .none ∨
        ((f.state = .holding ∨ f.state = .standoff) ∧ 0 < f.tail ∧ f.holders = e.holders ∧ f.noted = e.noted)) := by
    cases hdir : s.gov.direction with
    | forward =>
      have hlength : 0 < rigLength s := hrig.resolve_left (by simp [hdir])
      exact ⟨tailed s e, rfl, by rw [exitEntry_forward hdir (.inl hstate)], .inr ⟨.inl hstate, hlength, rfl, rfl⟩⟩
    | reverse => exact ⟨{ e with state := .none }, rfl, by rw [exitEntry_reverse hdir hstate]; rfl, .inl rfl⟩
  have hcrossed : crossing (some e.sec) s = exitEntry e s := by
    rw [crossing, if_neg (by simpa using hown), onEntry_of_claimEntry he]
    refine enterEntry_absent ?_
    rw [claimEntry_congr hentries]
    exact claimEntry_setClaimEntry_none.mpr habsent
  exact positionCheck_one hrunning hfix hnodup halone hnoted hothers hnext hcrossed (exitEntry_frame rfl e s) hsec
    hentries hf

/-- A move within the own section, with the one section in use behind. -/
theorem positionCheck_tail (htail : 0 < e.tail) (hlimit : e.tail ≤ e.tailLimit)
    (hstate : e.state = .holding ∨ e.state = .standoff) (mm : Nat) :
    positionCheck (some s.pos.record.sec) (some mm) s = moveTail mm e s := by
  obtain ⟨f, hsec, hf, hentries⟩ := moveTail_entries htail hlimit mm s
  have hmoved : tailCountdown (some mm) (crossing (some s.pos.record.sec) s) = moveTail mm e s := by
    rw [crossing_same rfl]
    refine onEveryEntry_one hnodup he (fun g hg hne => moveTail_none (hothers g hg hne).2.1 mm) fun y hy => ?_
    rw [claimEntry_congr hentries]
    exact claimEntry_setClaimEntry_ne (hsec ▸ hy)
  refine positionCheck_one hrunning hfix hnodup halone hnoted hothers hnext hmoved (moveTail_frame rfl mm e s) hsec
    hentries (hf.imp_right ?_)
  rintro ⟨hsame, hrest⟩
  exact ⟨hsame ▸ hstate, hrest⟩

end One

/-- A wheel pulse is counted in the current bin (R17). -/
def pulseCounted (s : State) : State := s.setPos { s.pos with bins := countPulse s.pos.bins }

/-- The position after a wheel pulse, with a validity (R14 to R17). -/
def pulsedPos (s : State) (v : Validity) : Pos :=
  { s.pos with bins := countPulse s.pos.bins, record := pulsedRecord s v }

/-- Settles O32: the operations by their branches, and the check in which they are the one step that acts. -/
theorem exitSetsTheTailAndTheTailReleases : Obligations.ExitSetsTheTailAndTheTailReleases := by
  refine ⟨?operations, ?commands⟩
  case operations =>
    intro e mm s released kept alone unhalted
    have hunhalted (c : StandoffCause) (u : State) : postCause .clm false c.halt u = unhalted c u := by
      cases c <;> rfl
    refine ⟨exitEntry_forward, exitEntry_reverse, ?loser, fun h => moveTail_none h mm s, moveTail_shorter,
      moveTail_longer, ?ends, ?endsLoser⟩
    case loser =>
      intro c hdir hstate hcause halone
      rw [exitEntry_loser hdir hstate hcause halone, hunhalted]
      rfl
    case ends =>
      intro hdir htail hmm hstate
      rw [moveTail_ends hdir htail hmm, endByTail_released hstate]
      rfl
    case endsLoser =>
      intro c hdir htail hmm hstate hcause halone
      rw [moveTail_ends hdir htail hmm, endByTail_loser hstate hcause halone, hunhalted]
      rfl
  case commands =>
    intro e s hup hrunning hnodup he halone hnoted hothers p at_
    refine ⟨?tag, ?pulse⟩
    case tag =>
      intro tag sec d hplace hnew hfix hsec hother habsent hstate htail t hnext hrig
      have hown : ownSection s = some e.sec := (if_neg hfix).trans (congrArg some hsec)
      have hahead : ¬isStale p s.gov.direction sec d = true := fun hstale =>
        hother (((isStale_iff _ _ _ _).mp hstale).2.1.symm.trans hsec)
      rw [exec_tagRead_onLayout hup ((onLayout_iff s).mpr (.inr (.inl hrunning))), tagArrives_place hplace,
        tagPlaced_accepted (mt (isRepeat_iff _ _).mp hnew) hahead, hown]
      refine congrArg _ ((positionCheck_exit (s := t) hrunning nofun hnodup he halone hnoted hothers hnext
        (Ne.symm hother) habsent hstate hrig).trans ?_)
      cases hdir : s.gov.direction with
      | forward =>
        rw [exitEntry_forward (s := s) hdir (.inl hstate), exitEntry_forward (s := t) hdir (.inl hstate)]
        rfl
      | reverse =>
        rw [exitEntry_reverse (s := s) hdir hstate, exitEntry_reverse (s := t) hdir hstate]
        rfl
    case pulse =>
      intro hfix hother habsent htail hlimit hstate hnext mm travel lost
      have hchecked {u : State} (hclm : u.clm = s.clm) (hnode : u.node = s.node)
          (hsections : u.pos.sections = s.pos.sections) (hsec : u.pos.record.sec = p.sec)
          (hfacing : u.pos.record.facing = p.facing) (hvalid : u.pos.record.validity ≠ .none) :
          positionCheck (some p.sec) (some mm) u = moveTail mm e u := by
        have hentry (y : Nat) : claimEntry u y = claimEntry s y := claimEntry_congr (congrArg Clm.entries hclm) y
        have hnextMoved (x) (hx : nextElement u = some x) : claimEntry u x.sec = none := by
          obtain ⟨y, hy, hysec⟩ := nextElement_sec_of_moved hsections hsec hfacing hfix hx
          rw [hentry, ← hysec, hnext y hy]
        rw [← hsec]
        exact positionCheck_tail (hnode ▸ hrunning) hvalid (hclm ▸ hnodup) ((hentry _).trans he) halone hnoted
          (hclm ▸ hothers) hnextMoved htail hlimit hstate mm
      have hexec : exec .wheelPulse s = .next (movePosition (pulseCounted s)) := by
        rw [exec_wheelPulse hup, pulseArrives_fix hfix]
        rfl
      by_cases hlost : lost
      · refine ⟨pulsedPos s .lost, rfl, rfl, rfl, fun hkept => absurd hlost hkept, fun _ => ⟨rfl, ?_⟩⟩
        rw [hexec, movePosition_lost (pulseCounted s) hlost]
        exact congrArg _ (hchecked (u := postLost (pulsedRecord s .lost) (s.setPos (pulsedPos s .lost)))
          rfl rfl rfl rfl rfl nofun)
      · refine ⟨pulsedPos s p.validity, rfl, rfl, rfl, fun _ => ⟨rfl, ?_⟩, fun h => absurd h hlost⟩
        rw [hexec, movePosition_kept (pulseCounted s) hlost]
        exact congrArg _ (hchecked (u := s.setPos (pulsedPos s p.validity)) rfl rfl rfl rfl rfl hfix)

end Sys2Proof.Proofs
end

section
/-! PROOFS. Entry into a SINGLE section: the room made for it, the entry table, and the check that ends there
(R109, R113, R116, R121, R129). -/

namespace Sys2Proof.Proofs

open Sys2Proof.Machine Sys2Proof.Laws

/-! ## The other entries in use -/

section Others

variable {s : State} {sec : Nat} (hsorted : (s.clm.entries.map (·.sec)).Pairwise (· < ·))
include hsorted

/-- In an ascending table the other entries in use are the ascending list of them. -/
theorem othersActive_eq {l : List ClaimEntry} (hl : (l.map (·.sec)).Pairwise (· < ·))
    (hmem : ∀ x, x ∈ l ↔ x ∈ s.clm.entries ∧ x.sec ≠ sec ∧ x.state ≠ .none) : othersActive s sec = l := by
  have hascending {k : List ClaimEntry} (hk : (k.map (·.sec)).Pairwise (· < ·)) :
      k.Pairwise (fun a b => a.sec < b.sec) := List.pairwise_map.mp hk
  have hdistinct {k : List ClaimEntry} (hk : k.Pairwise (fun a b => a.sec < b.sec)) : k.Nodup :=
    hk.imp fun hlt heq => absurd (congrArg ClaimEntry.sec heq) (Nat.ne_of_lt hlt)
  have hothers : (othersActive s sec).Pairwise (fun a b => a.sec < b.sec) := (hascending hsorted).filter _
  refine List.Perm.eq_of_pairwise (fun a b _ _ hab hba => absurd hab (Nat.lt_asymm hba)) hothers (hascending hl) ?_
  refine (List.perm_ext_iff_of_nodup (hdistinct hothers) (hdistinct (hascending hl))).mpr fun x => ?_
  rw [hmem, othersActive, List.mem_filter, Bool.and_eq_true, bne_iff_ne, bne_iff_ne]

end Others

theorem othersActive_nil {s : State} {sec : Nat} (h : ∀ g ∈ s.clm.entries, g.sec ≠ sec → g.state = .none) :
    othersActive s sec = [] := by
  refine List.filter_eq_nil_iff.mpr fun g hg huse => ?_
  rw [Bool.and_eq_true, bne_iff_ne, bne_iff_ne] at huse
  exact huse.2 (h g hg huse.1)

/-! ## Making room (R116) -/

theorem shorterTail_two (g h : ClaimEntry) : shorterTail [g, h] = some (if h.tail < g.tail then h else g) := by
  simp only [shorterTail]
  split <;> rfl

section Room

variable {s : State} {sec : Nat} {g h : ClaimEntry}

theorem makeRoom_enough (hroom : (othersActive s sec).length < 2) : makeRoom sec s = s := if_pos hroom

/-- Of two inside the one with the shorter tail ends. -/
theorem makeRoom_ends (hothers : othersActive s sec = [g, h]) (hg : insideEntry s g = true)
    (hh : insideEntry s h = true) : makeRoom sec s = endByTail (if h.tail < g.tail then h else g) s := by
  have hnobodyLeaves : [g, h].foldl (fun s e => if insideEntry s e then s else leaveApproach e s) s = s := by
    rw [List.foldl_cons, if_pos hg, List.foldl_cons, if_pos hh, List.foldl_nil]
  unfold makeRoom
  simp only [hothers, hnobodyLeaves, List.length_cons, List.length_nil, Nat.lt_irrefl, if_false, shorterTail_two]

/-- One that is not inside leaves the approach, and that makes the room. -/
theorem makeRoom_leaves (hothers : othersActive s sec = [g, h]) (hg : ¬insideEntry s g = true)
    (hh : insideEntry (leaveApproach g s) h = true)
    (hroom : (othersActive (leaveApproach g s) sec).length < 2) : makeRoom sec s = leaveApproach g s := by
  have hleaves : [g, h].foldl (fun s e => if insideEntry s e then s else leaveApproach e s) s = leaveApproach g s := by
    rw [List.foldl_cons, if_neg hg, List.foldl_cons, if_pos hh, List.foldl_nil]
  unfold makeRoom
  simp only [hothers, hleaves, List.length_cons, List.length_nil, Nat.lt_irrefl, if_false, hroom, if_true]

end Room

/-! ## The entry table (R116, R121) -/

/-- The entry of an intrusion, in the entry direction (R121). -/
def intruded (d : Dir) (e : ClaimEntry) : ClaimEntry :=
  { e with state := .standoff, dir := d, window := none, cause := some .intrusion }

section Table

variable {s : State} {e : ClaimEntry} {d : Dir}

theorem intrude_alone (halone : ∀ g ∈ s.clm.entries, g.sec ≠ e.sec → g.state ≠ .standoff) :
    intrude e d s = post .clm .standoff (.num e.sec) (.num 0) (.role .intrusion)
      (postCause .clm true .intrusion (setClaimEntry (intruded d e) s)) := by
  have hother : otherStandoff s ({ e with dir := d } : ClaimEntry).sec .intrusion = false := otherStandoff_alone halone _
  rw [intrude, goStandoff, hother]
  rfl

theorem enterTable_holds (hstate : e.state = .holding ∨ e.state = .riding) (hdir : e.dir = d) :
    enterTable e d s = setClaimEntry { e with state := .holding } s := by
  rcases hstate with hstate | hstate
  · have hsame : { e with state := .holding } = e := by rw [← hstate]
    simp only [enterTable, hstate, if_pos hdir.symm, hsame]
  · simp only [enterTable, hstate, if_pos hdir.symm]

theorem enterTable_standoff (hstate : e.state = .standoff) : enterTable e d s = setClaimEntry e s := by
  simp only [enterTable, hstate]

theorem enterTable_wins {w : Window} (hstate : e.state = .claiming) (hw : e.window = some w)
    (hfree : evaluate s e w = none) : enterTable e d s = holdEntry e s := by
  simp only [enterTable, hstate, hw, hfree]
  rfl

theorem enterTable_beaten {w : Window} (hstate : e.state = .claiming) (hw : e.window = some w)
    (hcause : evaluate s e w ≠ none) : enterTable e d s = intrude e d s := by
  simp only [enterTable, hstate, hw]
  exact if_neg (by simpa using hcause)

theorem enterTable_unclaimed (hstate : e.state = .none ∨ e.state = .waiting) : enterTable e d s = intrude e d s := by
  rcases hstate with hstate | hstate <;> simp only [enterTable, hstate]

theorem enterTable_against (hstate : e.state = .holding ∨ e.state = .riding) (hdir : e.dir ≠ d) :
    enterTable e d s = intrude e d s := by
  rcases hstate with hstate | hstate <;> simp only [enterTable, hstate, if_neg (Ne.symm hdir)]

end Table

/-! ## The check at an entry -/

section Entry

variable {before : Option Nat} {e : ClaimEntry} {s v : State} (hrunning : s.node.mode = .running)
  (hfix : s.pos.record.validity ≠ .none) (hcross : before ≠ some s.pos.record.sec)
  (hexit : ∀ q, before = some q → claimEntry s q = none) (he : claimEntry s s.pos.record.sec = some e)
  (hroom : makeRoom s.pos.record.sec s = v) (hentry : claimEntry v e.sec = some e)

/-- A change out of no section of the table is an entry alone. -/
theorem crossing_noExit (hcross : before ≠ some s.pos.record.sec)
    (hexit : ∀ q, before = some q → claimEntry s q = none) :
    crossing before s = enterEntry s.pos.record.sec s := by
  unfold crossing
  rw [if_neg hcross]
  cases before with
  | none => rfl
  | some q => exact congrArg (enterEntry s.pos.record.sec) (onEntry_absent (hexit q rfl) exitEntry)

include hcross hexit he hroom hentry

theorem crossing_enters : crossing before s = enterTable { e with tail := 0 } (dirOf s.pos.record.facing) v := by
  have hpos : v.pos = s.pos := hroom ▸ blank_pos (makeRoom_frame (G := footClm) rfl _ s) rfl
  have hown : claimEntry v s.pos.record.sec = some e := (congrArg (claimEntry v) (claimEntry_sec he).symm).trans hentry
  rw [crossing_noExit hcross hexit]
  simp only [enterEntry, he]
  rw [hroom, onEntry_of_claimEntry hown, hpos]

variable (halone : e.holders = []) (hnoted : e.noted = none) (hnodup : (v.clm.entries.map (·.sec)).Nodup)
  (hclear : ∀ g ∈ v.clm.entries, g.sec ≠ e.sec → Clearing g)
  (hnext : ∀ x, nextElement s = some x → claimEntry v x.sec = none)
include hrunning hfix halone hnoted hnodup hclear hnext

/-- The check ends with what the entry table makes of the entry. -/
theorem positionCheck_enters {u : State} (htable : enterTable { e with tail := 0 } (dirOf s.pos.record.facing) v = u)
    {f : ClaimEntry} (hf : f.sec = e.sec ∧ (f.state = .holding ∨ f.state = .standoff) ∧ f.holders = e.holders ∧
      f.noted = e.noted) (hentries : u.clm.entries = (setClaimEntry f v).clm.entries) :
    positionCheck before none s = u := by
  obtain ⟨hsec, hstate, hholders, hsame⟩ := hf
  have hmoved : crossing before s = u := (crossing_enters hcross hexit he hroom hentry).trans htable
  have hframe : blank footClm u = blank footClm s := hmoved ▸ crossing_frame rfl before s
  have hpos : u.pos = s.pos := blank_pos hframe rfl
  have hchain : nextElement u = nextElement s := by
    rw [eq_of_blank_footClm hframe]
    rfl
  rw [halone] at hholders
  rw [hnoted] at hsame
  refine positionCheck_of_moved hrunning hfix hmoved ?_ (noApproach_of_absent fun x hx => ?_) fun g hg => ?_
  · rw [hentries]
    exact nodup_setClaimEntry f hnodup
  · rw [claimEntry_congr hentries]
    exact claimEntry_setClaimEntry_none.mpr (hnext x (hchain ▸ hx))
  · rw [hentries] at hg
    rcases mem_setClaimEntry_or hg with rfl | ⟨hmem, hne⟩
    · rcases hstate with hstate | hstate
      · have hin : Inside u g := .inl ⟨hpos ▸ hfix, by rw [hpos, hsec, claimEntry_sec he]⟩
        exact ⟨.inr (.inr (.inl ⟨hstate, hin⟩)), .inr ⟨hsame, .inr (.inr (.inr ⟨hstate, hholders⟩))⟩⟩
      · exact ⟨.inr (.inl hstate), .inr ⟨hsame, .inr (.inl hstate)⟩⟩
    · exact clearing_rests (hclear g hmem (hsec ▸ hne)) u

/-- The check of an intrusion. -/
theorem positionCheck_intrudes (htable : enterTable { e with tail := 0 } (dirOf s.pos.record.facing) v =
    intrude { e with tail := 0 } (dirOf s.pos.record.facing) v) : positionCheck before none s =
      post .clm .standoff (.num e.sec) (.num 0) (.role .intrusion) (postCause .clm true .intrusion
        (setClaimEntry (intruded (dirOf s.pos.record.facing) { e with tail := 0 }) v)) := by
  have hnobody (g : ClaimEntry) (hg : g ∈ v.clm.entries) (hne : g.sec ≠ e.sec) : g.state ≠ .standoff := by
    obtain ⟨-, hnone | ⟨hholding, -⟩⟩ := hclear g hg hne <;> simp_all
  exact positionCheck_enters hrunning hfix hcross hexit he hroom hentry halone hnoted hnodup hclear hnext
    (htable.trans (intrude_alone (e := { e with tail := 0 }) hnobody))
    (f := intruded (dirOf s.pos.record.facing) { e with tail := 0 }) ⟨rfl, .inr rfl, rfl, rfl⟩ rfl

end Entry

end Sys2Proof.Proofs
end

section
/-! PROOFS. The position check leaves the own section held (R109, R113, R116, R121, R129). -/

namespace Sys2Proof.Proofs

open Sys2Proof.Machine Sys2Proof.Laws

theorem quiet_clearing {g : ClaimEntry} (h : g.state = .none ∧ g.tail = 0 ∧ g.noted = none) : Clearing g := by
  obtain ⟨hnone, -, hnoted⟩ := h
  exact ⟨hnoted, .inl hnone⟩

/-! ## Two other entries in use -/

section Two

variable {s : State} {sec : Nat} {g h : ClaimEntry} (hsorted : (s.clm.entries.map (·.sec)).Pairwise (· < ·))
  (hgEntry : claimEntry s g.sec = some g) (hhEntry : claimEntry s h.sec = some h) (hlt : g.sec < h.sec)
  (hgOther : g.sec ≠ sec) (hhOther : h.sec ≠ sec)
  (hrest : ∀ x ∈ s.clm.entries, x.sec ≠ sec → x.sec ≠ g.sec → x.sec ≠ h.sec → x.state = .none)
include hsorted hgEntry hhEntry hlt hgOther hhOther hrest

theorem othersActive_two (hgUse : g.state ≠ .none) (hhUse : h.state ≠ .none) : othersActive s sec = [g, h] := by
  have hnodup : (s.clm.entries.map (·.sec)).Nodup := hsorted.imp Nat.ne_of_lt
  refine othersActive_eq hsorted (by simpa using hlt) fun x => ?_
  rw [List.mem_cons, List.mem_singleton]
  constructor
  · rintro (rfl | rfl)
    · exact ⟨mem_of_claimEntry hgEntry, hgOther, hgUse⟩
    · exact ⟨mem_of_claimEntry hhEntry, hhOther, hhUse⟩
  · rintro ⟨hx, hne, huse⟩
    have hthis := claimEntry_of_mem hnodup hx
    by_cases hg : x.sec = g.sec
    · exact .inl (Option.some.inj (hthis.symm.trans ((congrArg (claimEntry s) hg).trans hgEntry)))
    · by_cases hh : x.sec = h.sec
      · exact .inr (Option.some.inj (hthis.symm.trans ((congrArg (claimEntry s) hh).trans hhEntry)))
      · exact absurd (hrest x hx hne hg hh) huse

omit hgEntry hgOther in
/-- Once the lower has left, the other remains. -/
theorem othersActive_left {f : ClaimEntry} (hf : f.sec = g.sec) (hnone : f.state = .none) (hhUse : h.state ≠ .none) :
    othersActive (setClaimEntry f s) sec = [h] := by
  have hkept : claimEntry (setClaimEntry f s) h.sec = some h :=
    (claimEntry_setClaimEntry_ne (hf ▸ Nat.ne_of_gt hlt)).trans hhEntry
  have hnodup : (s.clm.entries.map (·.sec)).Nodup := hsorted.imp Nat.ne_of_lt
  have hsections : ((setClaimEntry f s).clm.entries.map (·.sec)).Pairwise (· < ·) :=
    (congrArg (List.Pairwise (· < ·)) (claimSections_setClaimEntry f s)).mpr hsorted
  refine othersActive_eq hsections (List.pairwise_singleton _ _) fun x => ?_
  rw [List.mem_singleton]
  constructor
  · rintro rfl
    exact ⟨mem_of_claimEntry hkept, hhOther, hhUse⟩
  · rintro ⟨hx, hne, huse⟩
    rcases mem_setClaimEntry_or hx with rfl | ⟨hmem, hgone⟩
    · exact absurd hnone huse
    · by_cases hh : x.sec = h.sec
      · exact Option.some.inj ((claimEntry_of_mem hnodup hmem).symm.trans ((congrArg (claimEntry s) hh).trans hhEntry))
      · exact absurd (hrest x hmem hne (hf ▸ hgone) hh) huse

end Two

/-- The check of an entry not claimed, once another has made room for it by giving its section up. -/
theorem positionCheck_madeRoom {before : Option Nat} {e f y : ClaimEntry} {s v : State}
    (hrunning : s.node.mode = .running) (hfix : s.pos.record.validity ≠ .none) (hcross : before ≠ some s.pos.record.sec)
    (hexit : ∀ q, before = some q → claimEntry s q = none) (he : claimEntry s s.pos.record.sec = some e)
    (halone : e.holders = []) (hnoted : e.noted = none) (hnodup : (s.clm.entries.map (·.sec)).Nodup)
    (hnext : ∀ x, nextElement s = some x → claimEntry s x.sec = none) (hstate : e.state = .none)
    (hroom : makeRoom s.pos.record.sec s = v) (hf : f.sec ≠ e.sec) (hfclear : Clearing f)
    (hentries : v.clm.entries = (setClaimEntry f s).clm.entries) (hy : claimEntry s y.sec = some y)
    (hyclear : Clearing y)
    (hothers : ∀ z ∈ s.clm.entries, z.sec ≠ e.sec → z.sec ≠ f.sec → z.sec ≠ y.sec → Clearing z) :
    positionCheck before none s = post .clm .standoff (.num e.sec) (.num 0) (.role .intrusion)
      (postCause .clm true .intrusion
        (setClaimEntry (intruded (dirOf s.pos.record.facing) { e with tail := 0 }) v)) := by
  have hentry : claimEntry v e.sec = some e := by
    rw [claimEntry_congr hentries, claimEntry_setClaimEntry_ne (Ne.symm hf)]
    exact (congrArg (claimEntry s) (claimEntry_sec he)).trans he
  have hclear (z : ClaimEntry) (hz : z ∈ v.clm.entries) (hne : z.sec ≠ e.sec) : Clearing z := by
    rw [hentries] at hz
    rcases mem_setClaimEntry_or hz with rfl | ⟨hmem, hzf⟩
    · exact hfclear
    · by_cases hzy : z.sec = y.sec
      · have hsame : z = y := Option.some.inj
          ((claimEntry_of_mem hnodup hmem).symm.trans ((congrArg (claimEntry s) hzy).trans hy))
        exact hsame ▸ hyclear
      · exact hothers z hmem hne hzf hzy
  have hnextAbsent (z) (hz : nextElement s = some z) : claimEntry v z.sec = none := by
    rw [claimEntry_congr hentries]
    exact claimEntry_setClaimEntry_none.mpr (hnext z hz)
  have hnodupV : (v.clm.entries.map (·.sec)).Nodup := by
    rw [hentries]
    exact nodup_setClaimEntry f hnodup
  exact positionCheck_intrudes hrunning hfix hcross hexit he hroom hentry halone hnoted hnodupV hclear hnextAbsent
    (enterTable_unclaimed (e := { e with tail := 0 }) (.inl hstate))

/-- Settles O15: the frame and the own section from the check's steps, and each entry of the table from its
branch, once room has been made. -/
theorem positionCheckLeavesOwnSectionHeld : Obligations.PositionCheckLeavesOwnSectionHeld := by
  refine ⟨?held, ?table⟩
  case held =>
    intro before move s t
    have hframe : blank footClm t = blank footClm s := positionCheck_frame rfl before move s
    refine ⟨eq_of_blank_footClm hframe, fun hout => ?_, fun hrunning hfix hcross e he => ?_⟩
    · refine if_neg fun ⟨hrunning, hfix⟩ => ?_
      exact hout.elim (· hrunning) hfix
    · have hnode : t.node = s.node := blank_node hframe rfl
      have hpos : t.pos = s.pos := blank_pos hframe rfl
      have hfits : ClaimsFit t := positionCheck_claimsFit before move (absurd hrunning) fun _ _ h => absurd h hcross
      exact hfits.occupied (hnode ▸ hrunning) (hpos ▸ hfix) e (hpos ▸ he)
  case table =>
    intro before e s hrunning hfix hcross hexit he hnext hsorted halone hnoted dir t quiet clearing put stays intruder told
    have hsec : e.sec = s.pos.record.sec := claimEntry_sec he
    have hown : claimEntry s e.sec = some e := (congrArg (claimEntry s) hsec).trans he
    have hnodup : (s.clm.entries.map (·.sec)).Nodup := hsorted.imp Nat.ne_of_lt
    have hdir : dirOf s.pos.record.facing = dir := dirOf_eq _
    refine ⟨?quiet, ?two⟩
    case quiet =>
      intro hquiet
      have hroom : makeRoom s.pos.record.sec s = s := by
        refine makeRoom_enough ?_
        rw [othersActive_nil fun g hg hne => (hquiet g hg (hsec ▸ hne)).1]
        exact Nat.zero_lt_two
      have hclear (g : ClaimEntry) (hg : g ∈ s.clm.entries) (hne : g.sec ≠ e.sec) : Clearing g :=
        quiet_clearing (hquiet g hg hne)
      have henters {u : State} (htable : enterTable { e with tail := 0 } dir s = u) {f : ClaimEntry}
          (hf : f.sec = e.sec ∧ (f.state = .holding ∨ f.state = .standoff) ∧ f.holders = e.holders ∧ f.noted = e.noted)
          (hentries : u.clm.entries = (setClaimEntry f s).clm.entries) : t = u :=
        positionCheck_enters hrunning hfix hcross hexit he hroom hown halone hnoted hnodup hclear hnext
          (hdir ▸ htable) hf hentries
      have hintrudes (htable : enterTable { e with tail := 0 } dir s = intrude { e with tail := 0 } dir s) :
          t = told (stays intruder) := by
        refine (positionCheck_intrudes hrunning hfix hcross hexit he hroom hown halone hnoted hnodup hclear hnext
          (hdir ▸ htable)).trans ?_
        rw [hdir]
        rfl
      refine ⟨?holds, ?standoff, ?wins, ?beaten, ?unclaimed, ?against⟩
      case holds =>
        intro hstate hsame
        exact henters (enterTable_holds (e := { e with tail := 0 }) hstate hsame)
          (f := { e with state := .holding, tail := 0 }) ⟨rfl, .inl rfl, rfl, rfl⟩ rfl
      case standoff =>
        intro hstate
        exact henters (enterTable_standoff (e := { e with tail := 0 }) hstate)
          (f := { e with tail := 0 }) ⟨rfl, .inr hstate, rfl, rfl⟩ rfl
      case wins =>
        intro w hstate hw hfree
        exact henters (enterTable_wins (e := { e with tail := 0 }) hstate hw hfree)
          (f := { e with state := .holding, window := none, tail := 0 }) ⟨rfl, .inl rfl, rfl, rfl⟩ rfl
      case beaten =>
        intro w hstate hw hcause
        exact hintrudes (enterTable_beaten (e := { e with tail := 0 }) hstate hw hcause)
      case unclaimed =>
        intro hstate
        exact hintrudes (enterTable_unclaimed (e := { e with tail := 0 }) hstate)
      case against =>
        intro hstate hne
        exact hintrudes (enterTable_against (e := { e with tail := 0 }) hstate hne)
    case two =>
      intro g h hgEntry hhEntry hlt hgOther hhOther hstate hrest ended released
      have hunused (x : ClaimEntry) (hx : x ∈ s.clm.entries) (hne : x.sec ≠ s.pos.record.sec) (hxg : x.sec ≠ g.sec)
          (hxh : x.sec ≠ h.sec) : x.state = .none := (hrest x hx (hsec.symm ▸ hne) hxg hxh).1
      have htwo (hgUse : g.state ≠ .none) (hhUse : h.state ≠ .none) : othersActive s s.pos.record.sec = [g, h] :=
        othersActive_two hsorted hgEntry hhEntry hlt (hsec ▸ hgOther) (hsec ▸ hhOther) hunused hgUse hhUse
      have hgives {v : State} {x y f : ClaimEntry} (hroom : makeRoom s.pos.record.sec s = v) (hx : x.sec ≠ e.sec)
          (hf : f.sec = x.sec) (hfclear : Clearing f) (hentries : v.clm.entries = (setClaimEntry f s).clm.entries)
          (hy : claimEntry s y.sec = some y) (hyclear : Clearing y)
          (hothers : ∀ z ∈ s.clm.entries, z.sec ≠ e.sec → z.sec ≠ x.sec → z.sec ≠ y.sec → quiet z) :
          t = told { v with clm := { v.clm with entries := put intruder v.clm.entries } } := by
        refine (positionCheck_madeRoom hrunning hfix hcross hexit he halone hnoted hnodup hnext hstate hroom (hf ▸ hx)
          hfclear hentries hy hyclear fun z hz hne hzf hzy => quiet_clearing (hothers z hz hne (hf ▸ hzf) hzy)).trans ?_
        rw [hdir]
        rfl
      have hends {x y : ClaimEntry} (hshorter : (if h.tail < g.tail then h else g) = x) (hgc : clearing g)
          (hhc : clearing h) (hx : x.sec ≠ e.sec) (hxc : clearing x) (hy : claimEntry s y.sec = some y)
          (hyc : clearing y)
          (hothers : ∀ z ∈ s.clm.entries, z.sec ≠ e.sec → z.sec ≠ x.sec → z.sec ≠ y.sec → quiet z) :
          t = released x := by
        obtain ⟨hgHolds, hgTail, -, -⟩ := hgc
        obtain ⟨hhHolds, hhTail, -, -⟩ := hhc
        obtain ⟨hxHolds, -, hxNoted, -⟩ := hxc
        obtain ⟨hyHolds, hyTail, hyNoted, hyAlone⟩ := hyc
        have hroom := makeRoom_ends (htwo (by simp [hgHolds]) (by simp [hhHolds]))
          ((insideEntry_iff s g).mpr (.inr hgTail)) ((insideEntry_iff s h).mpr (.inr hhTail))
        rw [hshorter, endByTail_released (by simp [hxHolds])] at hroom
        exact hgives hroom hx (f := tailEnded x) rfl ⟨hxNoted, .inl rfl⟩ rfl hy
          ⟨hyNoted, .inr ⟨hyHolds, hyTail, hyAlone⟩⟩ hothers
      refine ⟨fun hgc hhc htail => ?_, fun hgc hhc htail => ?_, fun hgState hgTail hgNoted hhc => ?_⟩
      · exact hends (if_pos htail) hgc hhc hhOther hhc hgEntry hgc fun z hz hne hzh hzg => hrest z hz hne hzg hzh
      · exact hends (if_neg (Nat.not_lt.mpr htail)) hgc hhc hgOther hgc hhEntry hhc hrest
      · obtain ⟨hhHolds, hhTail, hhNoted, hhAlone⟩ := hhc
        have hleaves : leaveApproach g s = setClaimEntry { g with state := .none } s := by
          rcases hgState with hgState | hgState <;> simp only [leaveApproach, hgState]
        have houtside : ¬insideEntry s g = true := by
          rw [insideEntry_iff]
          rintro (⟨-, hin⟩ | hbehind)
          · exact hgOther (hin.symm.trans hsec.symm)
          · exact absurd hgTail (Nat.ne_of_gt hbehind)
        have hgUse : g.state ≠ .none := by
          rcases hgState with hgState | hgState <;> simp [hgState]
        have hleft : (othersActive (leaveApproach g s) s.pos.record.sec).length < 2 := by
          rw [hleaves, othersActive_left hsorted hhEntry hlt (hsec ▸ hhOther) hunused
            (f := { g with state := .none }) rfl rfl (by simp [hhHolds])]
          exact Nat.one_lt_two
        have hroom := makeRoom_leaves (htwo hgUse (by simp [hhHolds])) houtside
          ((insideEntry_iff _ h).mpr (.inr hhTail)) hleft
        rw [hleaves] at hroom
        exact hgives hroom hgOther (f := { g with state := .none }) rfl ⟨hgNoted, .inl rfl⟩ rfl hhEntry
          ⟨hhNoted, .inr ⟨hhHolds, hhTail, hhAlone⟩⟩ hrest

end Sys2Proof.Proofs
end

section
/-! PROOFS. The forward target (R133 to R142): the integer square root, the terms that apply, and the smallest of
them. -/

namespace Sys2Proof.Proofs

open Sys2Proof.Machine Sys2Proof.Laws Sys2Proof.Safety

/-! ## The integer square root (R138) -/

/-- The bits still to come are the gap between the root so far and one that is too large. -/
theorem isqrtBits_bounds {k root n : Nat} (hlow : root * root ≤ n) (hhigh : n < (root + 2 ^ k) * (root + 2 ^ k)) :
    isqrtBits k root n * isqrtBits k root n ≤ n ∧
      n < (isqrtBits k root n + 1) * (isqrtBits k root n + 1) := by
  induction k generalizing root with
  | zero => exact ⟨hlow, hhigh⟩
  | succ k ih =>
    rw [isqrtBits]
    split
    · next hfits => exact ih hfits (by rwa [pow_succ, mul_two, ← add_assoc] at hhigh)
    · next hover => exact ih hlow (not_le.mp hover)

theorem isqrt_bounds {n : Nat} (h : n < 2 ^ 32) : isqrt n * isqrt n ≤ n ∧ n < (isqrt n + 1) * (isqrt n + 1) :=
  isqrtBits_bounds (Nat.zero_le n) h

/-! ## The terms -/

theorem demand_forward_eq (s : State) : demand forwardDemand s =
    if s.drv.failsafe = true ∨ s.drv.throttleWidth ≤ s.node.settings.centreTrim + s.node.settings.deadband then 0
    else min s.node.settings.vmax ((s.drv.throttleWidth - s.node.settings.centreTrim - s.node.settings.deadband) *
      s.node.settings.vmax / (500 - s.node.settings.deadband)) := by
  unfold demand forwardDemand
  by_cases hfailsafe : s.drv.failsafe = true
  · rw [if_pos hfailsafe, if_pos (.inl hfailsafe)]
  · rw [if_neg hfailsafe]
    by_cases hband : s.drv.throttleWidth ≤ s.node.settings.centreTrim + s.node.settings.deadband
    · rw [if_neg (by omega), if_pos (.inr hband)]
    · rw [if_pos (by omega), if_neg (by simp [hfailsafe, hband])]

section Terms

variable {s : State} {name : Term} {v : Nat}

theorem firstTerm_iff : ⟨v, name⟩ = firstTerm s ↔
    (name = .driver ∧ s.cvy.role ≠ .follower ∧ v = demand forwardDemand s) ∨
      (name = .convoy ∧ s.cvy.role = .follower ∧ v = s.node.settings.vmax) := by
  unfold firstTerm
  cases s.cvy.role <;> simp [and_comm]

theorem gapTerm_iff : ⟨v, name⟩ = gapTerm s ↔ name = .gap ∧ ((rigAhead s = none ∧ v = 1023) ∨
    ∃ a, rigAhead s = some a ∧ v = if a.gap ≤ s.node.settings.standstillGap then 0
      else min 1023 ((a.gap - s.node.settings.standstillGap) * 100 / s.node.settings.headway)) := by
  unfold gapTerm gapValue
  cases hrig : rigAhead s with
  | none => simp [rigAheadAnswer_none hrig, and_comm]
  | some a => simp [rigAheadAnswer_some hrig, and_comm]

theorem sectionTerm_iff : sectionTerm s = some ⟨v, name⟩ ↔
    name = .sec ∧ ∃ x rest, chain s = x :: rest ∧ v = x.cap := by
  unfold sectionTerm
  cases chain s <;> simp [and_comm, eq_comm]

theorem aheadTerm_iff : aheadTerm s = some ⟨v, name⟩ ↔ name = .aheadCap ∧ ∃ x y rest, chain s = x :: y :: rest ∧
    v = min 1023 (isqrt (y.cap * y.cap + 2 * s.node.settings.accelDown * x.span)) := by
  unfold aheadTerm nextElement boundary
  rcases chain s with _ | ⟨x, _ | ⟨y, rest⟩⟩ <;> simp [capAhead, and_comm, eq_comm]

theorem stopTerm_iff : stopTerm s = some ⟨v, name⟩ ↔ name = .stop ∧ ((stopRequirement s = .now ∧ v = 0) ∨
    ∃ d, stopRequirement s = .atMark d ∧ v = isqrt (2 * s.node.settings.accelDown * d.toNat)) := by
  unfold stopTerm
  cases stopRequirement s <;> simp [stopValue, and_comm, eq_comm]

theorem crawlCause_isSome_iff : (crawlCause s).isSome ↔
    s.pos.record.validity ≠ .valid ∨ beaconOverdue s = true ∨ s.trl.overlength = true := by
  by_cases hvalid : s.pos.record.validity = .valid
  · by_cases hdue : beaconOverdue s = true
    · simp [crawlCause_beacon hvalid hdue, hdue]
    · cases hlong : s.trl.overlength with
      | true => simp [crawlCause_overlength hvalid hdue hlong]
      | false => simp [crawlCause_none hvalid hdue hlong, hvalid, hdue]
  · simp [crawlCause_position hvalid, hvalid]

theorem crawlTerm_iff : crawlTerm s = some ⟨v, name⟩ ↔
    name = .crawl ∧ v = s.node.settings.crawlCap ∧ (crawlCause s).isSome := by
  unfold crawlTerm
  cases crawlCause s <;> simp [and_comm, eq_comm]

theorem mem_forwardTerms (t : NamedTerm) : t ∈ forwardTerms s ↔ t = firstTerm s ∨ t = gapTerm s ∨
    sectionTerm s = some t ∨ aheadTerm s = some t ∨ stopTerm s = some t ∨ crawlTerm s = some t := by
  simp [forwardTerms]

end Terms

/-! ## The order of the terms (R142) -/

theorem names_sublist {o : Option NamedTerm} {n : Term} (h : ∀ v name, o = some ⟨v, name⟩ → name = n) :
    (o.toList.map NamedTerm.name).Sublist [n] := by
  cases o with
  | none => exact List.nil_sublist _
  | some t => simp [h t.value t.name rfl]

/-- The terms that apply stand in the order of R142. -/
theorem forwardTerms_names (s : State) : ((forwardTerms s).map NamedTerm.name).Sublist
    [(firstTerm s).name, .gap, .sec, .aheadCap, .stop, .crawl] := by
  simp only [forwardTerms, List.map_cons, List.map_append]
  refine .cons_cons _ (.cons_cons _ ?_)
  have hsec := names_sublist fun _ _ h => (sectionTerm_iff (s := s)).mp h |>.1
  have hahead := names_sublist fun _ _ h => (aheadTerm_iff (s := s)).mp h |>.1
  have hstop := names_sublist fun _ _ h => (stopTerm_iff (s := s)).mp h |>.1
  have hcrawl := names_sublist fun _ _ h => (crawlTerm_iff (s := s)).mp h |>.1
  exact ((hsec.append hahead).append hstop).append hcrawl

/-- The first of equal terms goes before, by this rank of their names. -/
def Precedes (rank : Term → Nat) (a b : NamedTerm) : Prop :=
  a.value < b.value ∨ (a.value = b.value ∧ rank a.name ≤ rank b.name)

theorem Precedes.trans {rank : Term → Nat} {a b c : NamedTerm} (hab : Precedes rank a b) (hbc : Precedes rank b c) :
    Precedes rank a c := by
  unfold Precedes at *
  omega

/-- Of terms in the order of their rank, the smallest is one of them and precedes them all. -/
theorem smallestTerm_precedes (rank : Term → Nat) (best : NamedTerm) (l : List NamedTerm)
    (hsorted : (best :: l).Pairwise (fun a b => rank a.name ≤ rank b.name)) :
    smallestTerm best l ∈ best :: l ∧ ∀ t ∈ best :: l, Precedes rank (smallestTerm best l) t := by
  induction l generalizing best with
  | nil => exact ⟨List.mem_cons_self, List.forall_mem_singleton.mpr (.inr ⟨rfl, Nat.le_refl _⟩)⟩
  | cons t ts ih =>
    rw [smallestTerm]
    split
    · next hless =>
      obtain ⟨hmem, hfirst⟩ := ih t hsorted.of_cons
      refine ⟨List.mem_cons_of_mem _ hmem, List.forall_mem_cons.mpr ⟨?_, hfirst⟩⟩
      exact (hfirst t List.mem_cons_self).trans (.inl hless)
    · next hkept =>
      obtain ⟨hmem, hfirst⟩ := ih best (hsorted.sublist (.cons_cons _ (List.sublist_cons_self t ts)))
      rw [List.forall_mem_cons] at hfirst
      have hbest : Precedes rank best t :=
        (Nat.lt_or_eq_of_le (not_lt.mp hkept)).imp_right fun heq =>
          ⟨heq, List.rel_of_pairwise_cons hsorted List.mem_cons_self⟩
      refine ⟨List.cons_subset_cons _ (List.subset_cons_self t ts) hmem, ?_⟩
      exact List.forall_mem_cons.mpr ⟨hfirst.1, List.forall_mem_cons.mpr ⟨hfirst.1.trans hbest, hfirst.2⟩⟩

theorem forwardTarget_empty {s : State} (h : haltSetEmpty s.cvy = true) :
    forwardTarget s = smallestTerm (firstTerm s) (forwardTerms s).tail :=
  if_pos h

/-- Settles O46: the target is the first of the smallest among the terms of the list, which are those that apply. -/
theorem forwardTargetIsTheSmallestTerm : Obligations.ForwardTargetIsTheSmallestTerm := by
  refine ⟨?terms, fun n hn => isqrt_bounds hn⟩
  case terms =>
    intro s hempty g p driver applies order target
    have happlies (name : Term) (v : Nat) : ⟨v, name⟩ ∈ forwardTerms s ↔ applies name v := by
      have hdriver : demand forwardDemand s = driver := demand_forward_eq s
      rw [mem_forwardTerms, firstTerm_iff, gapTerm_iff, sectionTerm_iff, aheadTerm_iff, stopTerm_iff, crawlTerm_iff,
        crawlCause_isSome_iff, beaconOverdue_iff, or_assoc (c := s.trl.overlength = true), hdriver]
      cases name <;> simp [applies, g]
    have hfirst : (firstTerm s).name = .driver ∨ (firstTerm s).name = .convoy :=
      (firstTerm_iff.mp rfl).imp And.left And.left
    have hnames : [(firstTerm s).name, .gap, .sec, .aheadCap, .stop, .crawl].Pairwise
        (fun a b => order a ≤ order b) := by
      rcases hfirst with h | h <;> rw [h] <;> decide
    have hsorted : (forwardTerms s).Pairwise (fun a b => order a.name ≤ order b.name) :=
      List.pairwise_map (f := NamedTerm.name) |>.mp (hnames.sublist (forwardTerms_names s))
    obtain ⟨hmem, hleast⟩ := smallestTerm_precedes order (firstTerm s) (forwardTerms s).tail hsorted
    rw [← forwardTarget_empty hempty] at hmem hleast
    have hall (name : Term) (v : Nat) (h : applies name v) :
        target.value < v ∨ (target.value = v ∧ order target.name ≤ order name) :=
      hleast _ ((happlies name v).mpr h)
    refine ⟨(happlies _ _).mp hmem, hall, fun hrange => ?_, fun hlost => ?_⟩
    · have hle : target.value ≤ g.vmax := (congrArg NamedTerm.value (forwardTarget_empty hempty)).le.trans
        ((smallestTerm_le _ _).trans (firstTerm_le s))
      exact hle.trans hrange.vmax.2
    · exact (hall .crawl g.crawlCap ⟨rfl, .inl hlost⟩).elim Nat.le_of_lt fun h => h.1.le

end Sys2Proof.Proofs
end

section
/-! PROOFS. What changes the commanded speed, the steps of the rate limit and the own section (R10, R12, R15, R131,
R145, R146, R184, R189): the governor's update, tag reads, the completed load and the resets; every other command
leaves all of them alone. -/

namespace Sys2Proof.Proofs

open Sys2Proof.Machine Sys2Proof.Laws Sys2Proof.Safety

/-- A guarded meaning has its effect or none (R184). -/
theorem whileUp_cases {f : State → State} {s t : State} (e : whileUp s f = .next t) : t = s ∨ t = f s := by
  unfold whileUp at e
  split at e <;> cases e
  · exact .inl rfl
  · exact .inr rfl

/-! ## Resets (R184) -/

/-- The command resets the node: the supply commands always, SERVICE_RESTART behind the OK to RESTART. -/
def Resets (c : Instr) (s : State) : Prop :=
  c = .powerOn ∨ c = .supplyBelowDipThreshold ∨ (∃ lineHeld, c = .supplyDip lineHeld) ∨
    (c = .serviceRestart ∧ s.held = false ∧ s.svc.answer = some .restarting)

theorem exec_serviceRestart {s : State} (hup : s.held = false) (hanswer : s.svc.answer = some .restarting) :
    exec .serviceRestart s = .next (resetNode .service ((s.node.resetCount + 1) % 256) s.svc.journal s.svc.counters
      (abandonAssign s)) :=
  (whileUp_up hup _).trans (congrArg _ (if_pos hanswer))

theorem exec_serviceRestart_idle {s : State} (h : ¬Resets .serviceRestart s) : exec .serviceRestart s = .next s := by
  cases hup : s.held with
  | true => exact whileUp_held hup _
  | false =>
    exact (whileUp_up hup _).trans (congrArg _ (if_neg fun hanswer => h (.inr (.inr (.inr ⟨rfl, hup, hanswer⟩)))))

/-- Every reset puts GOV at its reset values (R130). -/
theorem exec_resets_gov {c : Instr} {s t : State} (h : Resets c s) (e : exec c s = .next t) : t.gov = Gov.reset := by
  rcases h with rfl | rfl | ⟨lineHeld, rfl⟩ | ⟨rfl, hup, hanswer⟩
  · cases e; rfl
  · cases e; rfl
  · cases e; rfl
  · rw [exec_serviceRestart hup hanswer] at e
    cases e; rfl

/-! ## The load (R187, R189) -/

/-- What a load that fails can touch. -/
abbrev footFault : Foot := { node := true, line := true, mail := true }

/-- What entering LISTENING can touch. -/
abbrev footListen : Foot :=
  { node := true, peer := true, cvy := true, clm := true, trl := true, line := true, air := true }

theorem loadFails_frame_fault (cause : FaultCause) (detail : Nat) (s : State) :
    blank footFault (loadFails cause detail s) = blank footFault s := by
  unfold loadFails
  simp (disch := decide)

theorem postClamped_frame_post (img : List Byte) (s : State) : blank footPost (postClamped img s) = blank footPost s :=
  foldl_frame (fun s _ => post_frame rfl _ _ _ _ _ s) _ s

theorem enterListening_frame_listen (s : State) : blank footListen (enterListening s) = blank footListen s := by
  unfold enterListening
  dsimp only
  rw [armBeacon_frame (by decide)]
  exact (by simp [blank_eq_iff, keep] : _ = blank footListen (forgetAll s)).trans (forgetAll_frame rfl s)

theorem enterListening_gov (s : State) : (enterListening s).gov = s.gov :=
  blank_gov (enterListening_frame_listen s) rfl

theorem enterListening_pos (s : State) : (enterListening s).pos = s.pos :=
  blank_pos (enterListening_frame_listen s) rfl

theorem enterListening_settings (s : State) : (enterListening s).node.settings = s.node.settings := by
  have hforgot : (forgetAll s).node.settings = s.node.settings :=
    congrArg Node.settings (blank_node (forgetAll_frame (G := footLine) rfl s) rfl)
  exact (congrArg Node.settings (blank_node (armBeacon_frame (G := footDraw) rfl 0 _) rfl)).trans hforgot

theorem readCompletes_sound {img : List Byte} (h : structuralFault img = none) (s : State) :
    readCompletes img s = enterListening (handSettings img (postClamped img s)) := by
  rw [readCompletes, h]

theorem readCompletes_faulty {img : List Byte} {cause : FaultCause} {detail : Nat}
    (h : structuralFault img = some (cause, detail)) (s : State) :
    readCompletes img s = loadFails cause detail s := by
  rw [readCompletes, h]

/-- A completed read does not touch the commanded speed or the position record. -/
theorem readCompletes_keeps (img : List Byte) (s : State) :
    (readCompletes img s).gov.speed = s.gov.speed ∧ (readCompletes img s).pos.record = s.pos.record := by
  cases h : structuralFault img with
  | some fault =>
    obtain ⟨cause, detail⟩ := fault
    rw [readCompletes_faulty h]
    have hframe := loadFails_frame_fault cause detail s
    exact ⟨congrArg Gov.speed (blank_gov hframe rfl), congrArg Pos.record (blank_pos hframe rfl)⟩
  | none =>
    rw [readCompletes_sound h, enterListening_gov, enterListening_pos]
    have hframe := postClamped_frame_post img s
    have hspeed : (postClamped img s).gov.speed = s.gov.speed := congrArg Gov.speed (blank_gov hframe rfl)
    have hrecord : (postClamped img s).pos.record = s.pos.record := congrArg Pos.record (blank_pos hframe rfl)
    exact ⟨hspeed, hrecord⟩

theorem exec_storeReadComplete {img : List Byte} {s : State} (hup : s.held = false)
    (hreading : s.node.store = .reading) (hlength : img.length = 421) :
    exec (.storeReadComplete img) s = .next (readCompletes img s) := by
  have hwhole : (Instr.storeReadComplete img).wellFormed = true := by
    simp [Instr.wellFormed, Config.imageBytes, hlength]
  exact (if_pos hwhole).trans ((whileUp_up hup _).trans (congrArg _ (if_pos hreading)))

theorem exec_storeReadComplete_keeps {img : List Byte} {s t : State} (e : exec (.storeReadComplete img) s = .next t) :
    t.gov.speed = s.gov.speed ∧ t.pos.record = s.pos.record := by
  change execStoreReadComplete img s = .next t at e
  unfold execStoreReadComplete at e
  split at e
  · rcases whileUp_cases e with rfl | rfl
    · exact ⟨rfl, rfl⟩
    · split
      · exact readCompletes_keeps img s
      · exact ⟨rfl, rfl⟩
  · cases e

/-! ## Commands that steer nothing -/

/-- Commanded speed, steps of the rate limit, own section and facing stay as they are. -/
structure Coasts (s t : State) : Prop where
  speed : t.gov.speed = s.gov.speed
  stepUp : t.gov.stepUp = s.gov.stepUp
  stepDown : t.gov.stepDown = s.gov.stepDown
  stepBrake : t.gov.stepBrake = s.gov.stepBrake
  sec : t.pos.record.sec = s.pos.record.sec
  facing : t.pos.record.facing = s.pos.record.facing

theorem Coasts.refl (s : State) : Coasts s s := ⟨rfl, rfl, rfl, rfl, rfl, rfl⟩

theorem Coasts.trans {s t u : State} (hst : Coasts s t) (htu : Coasts t u) : Coasts s u where
  speed := htu.speed.trans hst.speed
  stepUp := htu.stepUp.trans hst.stepUp
  stepDown := htu.stepDown.trans hst.stepDown
  stepBrake := htu.stepBrake.trans hst.stepBrake
  sec := htu.sec.trans hst.sec
  facing := htu.facing.trans hst.facing

theorem coasts_of_same {s t : State} (hgov : t.gov = s.gov) (hpos : t.pos = s.pos) : Coasts s t := by
  constructor <;> simp only [hgov, hpos]

/-- What leaves GOV and POS out of its footprint. -/
theorem coasts_of_frame {F : Foot} {s t : State} (hframe : blank F t = blank F s) (hgov : F.gov = false)
    (hpos : F.pos = false) : Coasts s t :=
  coasts_of_same (blank_gov hframe hgov) (blank_pos hframe hpos)

theorem coasts_whileUp {f : State → State} (hf : ∀ s, Coasts s (f s)) {s t : State} (e : whileUp s f = .next t) :
    Coasts s t := by
  rcases whileUp_cases e with rfl | rfl
  · exact .refl _
  · exact hf s

theorem coasts_ite {p : Prop} [Decidable p] {s t : State} (h : Coasts s t) : Coasts s (if p then t else s) := by
  split
  · exact h
  · exact .refl s

theorem readFailed_coasts (s : State) : Coasts s (readFailed s) := by
  unfold readFailed
  split
  · exact ⟨rfl, rfl, rfl, rfl, rfl, rfl⟩
  · exact coasts_of_frame (loadFails_frame_fault _ _ s) rfl rfl

/-- Entering RUNNING starts the update timer, and CLM's check touches neither block (R131). -/
theorem enterRunning_coasts (s : State) : Coasts s (enterRunning s) := by
  have hframe := positionCheck_frame (G := footClm) rfl none none { s with
    node := { s.node with mode := .running, listenTimer := none }
    gov := { s.gov with timer := some 20 } }
  exact { coasts_of_frame hframe rfl rfl with }

/-- A park test refuses, or stops the governor at the speed it has (R131, R193). -/
theorem parkTest_coasts (s : State) : Coasts s (parkTest s) := by
  unfold parkTest
  repeat' split
  all_goals exact ⟨rfl, rfl, rfl, rfl, rfl, rfl⟩

theorem nodeChange_coasts (c : FnChange) (s : State) : Coasts s (nodeChange c s) := by
  unfold nodeChange
  split
  · exact coasts_ite (parkTest_coasts s)
  · split
    · let u := s.setTrl { s.trl with timer := shortenCycle s.trl.timer }
      have harmed : blank footDraw (armBeacon 0 u) = blank footDraw u := armBeacon_frame rfl 0 u
      have hcoasts : Coasts s (armBeacon 0 u) := { coasts_of_frame harmed rfl rfl with }
      exact hcoasts.trans (enterRunning_coasts _)
    · exact .refl s
  · exact .refl s
  · exact .refl s
  · exact .refl s

theorem nodeTakesChange_coasts (s : State) : Coasts s (nodeTakesChange s) := by
  unfold nodeTakesChange
  split
  · exact .refl s
  · exact { nodeChange_coasts _ _ with }

/-- A pulse moves the record within its section (R15). -/
theorem pulseArrives_coasts (s : State) : Coasts s (pulseArrives s) := by
  by_cases hfix : s.pos.record.validity = .none
  · rw [pulseArrives_noFix hfix]
    exact ⟨rfl, rfl, rfl, rfl, rfl, rfl⟩
  · rw [pulseArrives_fix hfix]
    let u := s.setPos { s.pos with bins := countPulse s.pos.bins }
    obtain ⟨v, -, hmoved⟩ := movedRecord_eq u
    have hrecord : Coasts s (u.setPos { u.pos with record := movedRecord u }) := by
      rw [hmoved hfix]
      exact ⟨rfl, rfl, rfl, rfl, rfl, rfl⟩
    have hnoted : Coasts s (noteLost u.pos.record (u.setPos { u.pos with record := movedRecord u })) := by
      unfold noteLost
      split
      · exact { hrecord with }
      · exact hrecord
    exact hnoted.trans (coasts_of_frame (positionCheck_frame (G := footClm) rfl _ _ _) rfl rfl)

theorem binTimer_coasts {s t : State} (e : execBinTimer s = .next t) : Coasts s t := by
  refine coasts_whileUp (fun s => ?_) e
  exact coasts_ite ⟨rfl, rfl, rfl, rfl, rfl, rfl⟩

theorem loadRetry_coasts {s t : State} (e : execLoadRetry s = .next t) : Coasts s t := by
  refine coasts_whileUp (fun s => ?_) e
  exact coasts_ite ⟨rfl, rfl, rfl, rfl, rfl, rfl⟩

/-- What ends a read of the store with a failure does so only while one is under way (R186). -/
theorem whileReading_coasts {s t : State}
    (e : whileUp s (fun s => if s.node.store = .reading then readFailed s else s) = .next t) : Coasts s t :=
  coasts_whileUp (fun s => coasts_ite (readFailed_coasts s)) e

/-! ## Every command -/

/-- The commands that can change the commanded speed, the steps or the own section: the update, tag reads, the
completed load and the resets. -/
inductive Steers : Instr → Prop
  | governorUpdate : Steers .governorUpdate
  | tagRead (tag : TagNumber) : Steers (.tagRead tag)
  | storeReadComplete (image : List Byte) : Steers (.storeReadComplete image)
  | powerOn : Steers .powerOn
  | supplyBelowDipThreshold : Steers .supplyBelowDipThreshold
  | supplyDip (lineHeld : Bool) : Steers (.supplyDip lineHeld)
  | serviceRestart : Steers .serviceRestart

/-- No other command changes any of them: NODE's and POS's by what they do there, the others by their
footprints. -/
theorem exec_coasts (c : Instr) (hc : ¬Steers c) {s t : State} (e : exec c s = .next t) : Coasts s t := by
  cases c with
  | powerOn => exact absurd .powerOn hc
  | supplyBelowDipThreshold => exact absurd .supplyBelowDipThreshold hc
  | supplyDip lineHeld => exact absurd (.supplyDip lineHeld) hc
  | serviceRestart => exact absurd .serviceRestart hc
  | loadRetry => exact loadRetry_coasts e
  | storeNoAck => exact whileReading_coasts e
  | storeByteTimeout => exact whileReading_coasts e
  | storeReadComplete image => exact absurd (.storeReadComplete image) hc
  | listenTimer => exact coasts_whileUp (fun s => coasts_ite (enterRunning_coasts s)) e
  | tagRead tag => exact absurd (.tagRead tag) hc
  | wheelPulse => exact coasts_whileUp pulseArrives_coasts e
  | binTimer => exact binTimer_coasts e
  | receiveByte start byte => exact coasts_of_frame (execReceiveByte_frame (G := footAir) rfl start byte e) rfl rfl
  | byteGapTimeout => exact coasts_of_frame (execByteGapTimeout_frame (G := footAir) rfl e) rfl rfl
  | peerTakesPosition => exact coasts_of_frame (execPeerTakesPosition_frame (G := footPeerTake) rfl e) rfl rfl
  | peerSweep => exact coasts_of_frame (execPeerSweep_frame (G := footPeer) rfl e) rfl rfl
  | cvyTakesPosition => exact coasts_of_frame (execCvyTakesPosition_frame (G := footCvyTake) rfl e) rfl rfl
  | cvyTakesHalt => exact coasts_of_frame (execCvyTakesHalt_frame (G := footCvyTake) rfl e) rfl rfl
  | cvyTakesResume => exact coasts_of_frame (execCvyTakesResume_frame (G := footCvyTake) rfl e) rfl rfl
  | cvySweep => exact coasts_of_frame (execCvySweep_frame (G := footCvy) rfl e) rfl rfl
  | cvyFunctionChange => exact coasts_of_frame (execCvyFunctionChange_frame (G := footCvy) rfl e) rfl rfl
  | ownCauseAdd source => exact coasts_of_frame (execOwnCauseAdd_frame (G := footCvy) rfl source e) rfl rfl
  | ownCauseRemove source => exact coasts_of_frame (execOwnCauseRemove_frame (G := footCvy) rfl source e) rfl rfl
  | acknowledgeGesture => exact coasts_of_frame (execAcknowledgeGesture_frame (G := footCvy) rfl e) rfl rfl
  | cvyHaltNotice => exact coasts_of_frame (execCvyHaltNotice_frame (G := footCvy) rfl e) rfl rfl
  | clmTakesPosition => exact coasts_of_frame (execClmTakesPosition_frame (G := footClmTake) rfl e) rfl rfl
  | clmTakesClaim => exact coasts_of_frame (execClmTakesClaim_frame (G := footClmTake) rfl e) rfl rfl
  | clmTakesRelease => exact coasts_of_frame (execClmTakesRelease_frame (G := footClmTake) rfl e) rfl rfl
  | clmSweep => exact coasts_of_frame (execClmSweep_frame (G := footClm) rfl e) rfl rfl
  | claimWindow sec => exact coasts_of_frame (execClaimWindow_frame (G := footClm) rfl sec e) rfl rfl
  | clmClaimNotice => exact coasts_of_frame (execClmClaimNotice_frame (G := footClm) rfl e) rfl rfl
  | clmReleaseNotice => exact coasts_of_frame (execClmReleaseNotice_frame (G := footClm) rfl e) rfl rfl
  | addRequest slot => exact coasts_of_frame (execAddRequest_frame (G := footAir) rfl slot e) rfl rfl
  | releaseAddRequest => exact coasts_of_frame (execReleaseAddRequest_frame (G := footAir) rfl e) rfl rfl
  | positionAddRequest => exact coasts_of_frame (execPositionAddRequest_frame (G := footAir) rfl e) rfl rfl
  | cancelRequest slot => exact coasts_of_frame (execCancelRequest_frame (G := footAir) rfl slot e) rfl rfl
  | beaconTimer => exact coasts_of_frame (execBeaconTimer_frame (G := footAir) rfl e) rfl rfl
  | beaconNotice => exact coasts_of_frame (execBeaconNotice_frame (G := footAir) rfl e) rfl rfl
  | carrierAppears => exact coasts_of_frame (execCarrierAppears_frame (G := footAir) rfl e) rfl rfl
  | carrierAbsent => exact coasts_of_frame (execCarrierAbsent_frame (G := footAir) rfl e) rfl rfl
  | quietTimer => exact coasts_of_frame (execQuietTimer_frame (G := footAir) rfl e) rfl rfl
  | countdownTick => exact coasts_of_frame (execCountdownTick_frame (G := footAir) rfl e) rfl rfl
  | doneSignal => exact coasts_of_frame (execDoneSignal_frame (G := footAir) rfl e) rfl rfl
  | transceiverTimeout => exact coasts_of_frame (execTransceiverTimeout_frame (G := footAir) rfl e) rfl rfl
  | governorUpdate => exact absurd .governorUpdate hc
  | frameTimer => exact coasts_of_frame (execFrameTimer_frame (G := footDrv) rfl e) rfl rfl
  | motorPulseEnd => exact coasts_of_frame (execMotorPulseEnd_frame (G := footDrv) rfl e) rfl rfl
  | throttlePulse width => exact coasts_of_frame (execThrottlePulse_frame (G := footDrv) rfl width e) rfl rfl
  | silenceTimer => exact coasts_of_frame (execSilenceTimer_frame (G := footDrv) rfl e) rfl rfl
  | functionPulse width => exact coasts_of_frame (execFunctionPulse_frame (G := footDrv) rfl width e) rfl rfl
  | functionSilenceTimer => exact coasts_of_frame (execFunctionSilenceTimer_frame (G := footDrv) rfl e) rfl rfl
  | nodeFunctionChange => exact coasts_whileUp nodeTakesChange_coasts e
  | cycleTimer => exact coasts_of_frame (execCycleTimer_frame (G := footTrl) rfl e) rfl rfl
  | poll r => exact coasts_of_frame (execPoll_frame (G := footTrl) rfl r e) rfl rfl
  | discovery r => exact coasts_of_frame (execDiscovery_frame (G := footTrl) rfl r e) rfl rfl
  | assign r => exact coasts_of_frame (execAssign_frame (G := footTrl) rfl r e) rfl rfl
  | journalPost block => exact coasts_of_frame (execJournalPost_frame (G := footPostTake) rfl block e) rfl rfl
  | status => exact coasts_of_frame (execStatus_frame (G := footService) rfl e) rfl rfl
  | peers => exact coasts_of_frame (execPeers_frame (G := footService) rfl e) rfl rfl
  | claims => exact coasts_of_frame (execClaims_frame (G := footService) rfl e) rfl rfl
  | roster => exact coasts_of_frame (execRoster_frame (G := footService) rfl e) rfl rfl
  | trailers => exact coasts_of_frame (execTrailers_frame (G := footService) rfl e) rfl rfl
  | journal => exact coasts_of_frame (execJournal_frame (G := footService) rfl e) rfl rfl
  | counters => exact coasts_of_frame (execCounters_frame (G := footService) rfl e) rfl rfl
  | ack index => exact coasts_of_frame (execAck_frame (G := footAck) rfl index e) rfl rfl
  | clearCounters => exact coasts_of_frame (execClearCounters_frame (G := footClear) rfl e) rfl rfl
  | restart => exact coasts_of_frame (execRestart_frame (G := footService) rfl e) rfl rfl
  | unknown => exact coasts_of_frame (execUnknown_frame (G := footService) rfl e) rfl rfl
  | busy => exact coasts_of_frame (execBusy_frame (G := footService) rfl e) rfl rfl
  | tagGainsLine gain => exact coasts_of_frame (execTagGainsLine_frame (G := footTrl) rfl gain e) rfl rfl
  | tagLosesLine place => exact coasts_of_frame (execTagLosesLine_frame (G := footTrl) rfl place e) rfl rfl
  | answerEnded => exact coasts_of_frame (execAnswerEnded_frame (G := footService) rfl e) rfl rfl

/-! ## The update (R131, R145, R146) -/

/-- An update happens in RUNNING with the timer running, or changes nothing (R131). -/
theorem exec_governorUpdate_cases {s t : State} (e : exec .governorUpdate s = .next t) :
    t = s ∨ (s.node.mode = .running ∧ t = governorStep s) := by
  rcases whileUp_cases e with rfl | rfl
  · exact .inl rfl
  · split
    · next hdue => exact .inr ⟨hdue.1, rfl⟩
    · exact .inl rfl

theorem governorStep_gov (s : State) : (governorStep s).gov = governed (roleCheck s) := by
  rw [governorStep_eq]

theorem governorStep_pos (s : State) : (governorStep s).pos = s.pos := by
  rw [governorStep_eq]

theorem governorStep_cvy (s : State) : (governorStep s).cvy = (roleCheck s).cvy := by
  rw [governorStep_eq]

theorem governorStep_speed (s : State) :
    (governorStep s).gov.speed = limitedSpeed s.gov (targetOf (roleCheck s)) := by
  rw [governorStep_gov, ← roleCheck_gov s]
  rfl

/-- The commanded speed rises only under a larger target, by at most the up step and not beyond it. -/
theorem limitedSpeed_rise {g : Gov} {target : NamedTerm} (h : g.speed < limitedSpeed g target) :
    g.speed < target.value ∧ limitedSpeed g target ≤ g.speed + g.stepUp ∧ limitedSpeed g target ≤ target.value := by
  have hless : g.speed < target.value := by
    by_contra hnot
    rw [limitedSpeed, if_neg hnot] at h
    exact absurd h (not_lt.mpr (max_le (not_lt.mp hnot) (Nat.sub_le _ _)))
  rw [limitedSpeed_rises hless]
  exact ⟨hless, Nat.min_le_right _ _, Nat.min_le_left _ _⟩

/-- A forward target above 0 means an empty halt set (R141). -/
theorem haltSetEmpty_of_forwardTarget {s : State} {v : Nat} (h : v < (forwardTarget s).value) :
    haltSetEmpty s.cvy = true := by
  by_contra hhalt
  rw [forwardTarget_halted (Bool.eq_false_iff.mpr hhalt)] at h
  exact Nat.not_lt_zero v h

theorem governorStep_rise {s : State} (h : s.gov.speed < (governorStep s).gov.speed) :
    (governorStep s).gov.speed ≤ s.gov.speed + s.gov.stepUp ∧
      (governorStep s).gov.speed ≤ (governorStep s).gov.lastTarget ∧
      ((governorStep s).gov.direction = .forward → haltSetEmpty (governorStep s).cvy = true) := by
  rw [governorStep_speed] at h ⊢
  obtain ⟨htarget, hstep, hlimit⟩ := limitedSpeed_rise h
  rw [governorStep_gov, governorStep_cvy]
  refine ⟨hstep, hlimit, fun (hforward : updateDirection (roleCheck s) = .forward) => ?_⟩
  rw [targetOf_eq, if_pos hforward] at htarget
  exact haltSetEmpty_of_forwardTarget htarget

/-! ## The statements -/

theorem exec_governorUpdate_steps {s t : State} (e : exec .governorUpdate s = .next t) :
    t.gov.stepUp = s.gov.stepUp ∧ t.gov.stepDown = s.gov.stepDown ∧ t.gov.stepBrake = s.gov.stepBrake := by
  rcases exec_governorUpdate_cases e with rfl | ⟨-, rfl⟩
  · exact ⟨rfl, rfl, rfl⟩
  · rw [governorStep_gov, ← roleCheck_gov s]
    exact ⟨rfl, rfl, rfl⟩

theorem exec_tagRead_gov {tag : TagNumber} {s t : State} (e : exec (.tagRead tag) s = .next t) : t.gov = s.gov :=
  blank_gov (execTagRead_frame (G := footPos) rfl tag e) rfl

/-- The steps change at a reset and at the end of a load alone. -/
theorem exec_steps {c : Instr} {s t : State} (e : exec c s = .next t) (hreset : ¬Resets c s)
    (hload : ∀ img, c ≠ .storeReadComplete img) :
    t.gov.stepUp = s.gov.stepUp ∧ t.gov.stepDown = s.gov.stepDown ∧ t.gov.stepBrake = s.gov.stepBrake := by
  by_cases hc : Steers c
  · cases hc with
    | governorUpdate => exact exec_governorUpdate_steps e
    | tagRead tag => simp only [exec_tagRead_gov e, and_self]
    | storeReadComplete image => exact absurd rfl (hload image)
    | powerOn => exact absurd (.inl rfl) hreset
    | supplyBelowDipThreshold => exact absurd (.inr (.inl rfl)) hreset
    | supplyDip lineHeld => exact absurd (.inr (.inr (.inl ⟨lineHeld, rfl⟩))) hreset
    | serviceRestart =>
      rw [exec_serviceRestart_idle hreset] at e
      cases e
      exact ⟨rfl, rfl, rfl⟩
  · have hcoasts := exec_coasts c hc e
    exact ⟨hcoasts.stepUp, hcoasts.stepDown, hcoasts.stepBrake⟩

/-- The steps of settings in range lie in the ranges of R145. -/
theorem rateSteps_inRange {g : Settings} (h : SettingsInRange g) :
    (1 ≤ rateStep g.accelUp ∧ rateStep g.accelUp ≤ 20) ∧ (1 ≤ rateStep g.accelDown ∧ rateStep g.accelDown ≤ 30) ∧
      (4 ≤ rateStep g.accelBrake ∧ rateStep g.accelBrake ≤ 60) := by
  have hup := h.up
  have hdown := h.down
  have hbrake := h.brake
  unfold rateStep
  omega

/-- Settles O10: the load computes the steps, a reset sets them, and every other command leaves them. -/
theorem rateStepsComeFromTheSettings : Obligations.RateStepsComeFromTheSettings := by
  refine ⟨?load, ?commands, by decide, ?starting⟩
  case load =>
    intro img s hup hreading hlength hsound
    have hsettings : (readCompletes img s).node.settings = settingsOf img := by
      rw [readCompletes_sound hsound, enterListening_settings]
      rfl
    have hgov : (readCompletes img s).gov = (handSettings img (postClamped img s)).gov := by
      rw [readCompletes_sound hsound, enterListening_gov]
    refine ⟨_, exec_storeReadComplete hup hreading hlength, ?_⟩
    rw [hsettings, hgov]
    exact ⟨rfl, rfl, rfl, rateSteps_inRange (settingsOf_inRange img)⟩
  case commands =>
    intro c s t e isReset
    refine ⟨fun hreset => ?_, exec_steps e⟩
    rw [exec_resets_gov hreset e]
    exact ⟨rfl, rfl, rfl⟩
  case starting =>
    intro s hstarting
    have hnot : ¬(s.node.mode = .running ∧ runs s.gov.timer) := by simp [hstarting]
    cases hup : s.held with
    | true => exact whileUp_held hup _
    | false => exact (whileUp_up hup _).trans (congrArg _ (if_neg hnot))

/-- The commanded speed rises at a governor update alone. -/
theorem exec_rise {c : Instr} {s t : State} (e : exec c s = .next t) (h : s.gov.speed < t.gov.speed) :
    c = .governorUpdate := by
  have hreset (hc : Resets c s) : False := Nat.not_lt_zero _ (exec_resets_gov hc e ▸ h)
  by_cases hc : Steers c
  · cases hc with
    | governorUpdate => rfl
    | tagRead tag => exact absurd h (exec_tagRead_gov e ▸ Nat.lt_irrefl _)
    | storeReadComplete image => exact absurd (exec_storeReadComplete_keeps e).1 h.ne'
    | powerOn => exact (hreset (.inl rfl)).elim
    | supplyBelowDipThreshold => exact (hreset (.inr (.inl rfl))).elim
    | supplyDip lineHeld => exact (hreset (.inr (.inr (.inl ⟨lineHeld, rfl⟩)))).elim
    | serviceRestart =>
      rw [exec_serviceRestart_idle hreset] at e
      cases e
      exact absurd h (Nat.lt_irrefl _)
  · exact absurd (exec_coasts c hc e).speed h.ne'

/-- Settles O60: the update rises by the rate limit, every other command that steers leaves the speed or takes it
to 0, and only tag reads and resets write the own section. -/
theorem speedRisesOnlyAtUpdates : Obligations.SpeedRisesOnlyAtUpdates := by
  intro c s t e
  refine ⟨fun hrise => ?_, fun htag hdip hpower hbelow hrestart => ?_⟩
  · obtain rfl := exec_rise e hrise
    rcases exec_governorUpdate_cases e with rfl | ⟨hrunning, rfl⟩
    · exact absurd hrise (Nat.lt_irrefl _)
    · exact ⟨rfl, hrunning, governorStep_rise hrise⟩
  · by_cases hc : Steers c
    · cases hc with
      | governorUpdate =>
        rcases exec_governorUpdate_cases e with rfl | ⟨-, rfl⟩
        · exact ⟨rfl, rfl⟩
        · rw [governorStep_pos]
          exact ⟨rfl, rfl⟩
      | tagRead tag => exact absurd rfl (htag tag)
      | storeReadComplete image =>
        rw [(exec_storeReadComplete_keeps e).2]
        exact ⟨rfl, rfl⟩
      | powerOn => exact absurd rfl hpower
      | supplyBelowDipThreshold => exact absurd rfl hbelow
      | supplyDip lineHeld => exact absurd rfl (hdip lineHeld)
      | serviceRestart => exact absurd rfl hrestart
    · have hcoasts := exec_coasts c hc e
      exact ⟨hcoasts.sec, hcoasts.facing⟩

end Sys2Proof.Proofs
end

section
/-! PROOFS. The driver port: what each pulse and each silence of its two input channels does (R152 to R162), and
when a pulse of the motor output begins and ends (R163). -/

namespace Sys2Proof.Proofs

open Sys2Proof.Machine Sys2Proof.Laws

/-! ## The class of a width (R152) -/

theorem classOf_glitch {width : Nat} (h : width < 20) : classOf width = .glitch := if_pos h

theorem classOf_invalid {width : Nat} (h : (20 ≤ width ∧ width < 900) ∨ 2100 < width) :
    classOf width = .invalid := by
  rcases h with ⟨hmeasured, hshort⟩ | hlong
  · rw [classOf, if_neg (not_lt.mpr hmeasured), if_pos hshort]
  · rw [classOf, if_neg (by omega), if_neg (by omega), if_neg (not_le.mpr hlong)]

theorem classOf_valid {width : Nat} (hlow : 900 ≤ width) (hhigh : width ≤ 2100) : classOf width = .valid := by
  rw [classOf, if_neg (by omega), if_neg (not_lt.mpr hlow), if_pos hhigh]

/-! ## The throttle channel (R154 to R157) -/

section Throttle

variable {width : Nat} {s : State}

theorem throttle_glitch (h : classOf width = .glitch) : throttle width s = s := by
  rw [throttle, h]

theorem throttle_invalid (h : classOf width = .invalid) :
    throttle width s = raise .invalidPulses (s.setDrv { s.drv with validRun := 0 }) := by
  rw [throttle, h]

theorem throttle_valid (h : classOf width = .valid) : throttle width s = validThrottle width s := by
  rw [throttle, h]

theorem validThrottle_noFailsafe (h : s.drv.failsafe = false) : validThrottle width s =
    s.setDrv { s.drv with throttleWidth := width, silence := some 300 } :=
  if_pos h

theorem validThrottle_counts (h : s.drv.failsafe = true) (hrun : s.drv.validRun ≤ 1) : validThrottle width s =
    s.setDrv { s.drv with throttleWidth := width, silence := some 300, validRun := s.drv.validRun + 1 } :=
  (if_neg (ne_false_of_eq_true h)).trans (if_pos (Nat.lt_succ_of_le hrun))

theorem validThrottle_third (h : s.drv.failsafe = true) (hrun : 2 ≤ s.drv.validRun) : validThrottle width s =
    endFailsafe width (s.setDrv { s.drv with throttleWidth := width, silence := some 300 }) :=
  (if_neg (ne_false_of_eq_true h)).trans (if_neg (not_lt.mpr hrun))

theorem endFailsafe_reset (h : s.drv.failsafeCause = .reset) : endFailsafe width s =
    s.setDrv { s.drv with failsafe := false, validRun := 0 } :=
  if_neg (by rw [h]; nofun)

theorem endFailsafe_silence (h : s.drv.failsafeCause = .silence) : endFailsafe width s =
    post .drv .failsafeEnded (.num width) noDetail noDetail
      (s.setDrv { s.drv with failsafe := false, validRun := 0 }) :=
  if_pos h

theorem throttleSilent_failsafe (h : s.drv.failsafe = true) :
    throttleSilent s = s.setDrv { s.drv with silence := none, validRun := 0 } :=
  if_pos h

theorem throttleSilent_begins (h : s.drv.failsafe = false) : throttleSilent s =
    post .drv .failsafe (.num s.drv.throttleWidth) (.mode s.node.mode) noDetail
      (s.setDrv { s.drv with silence := none, failsafe := true, failsafeCause := .silence, validRun := 0 }) :=
  if_neg (by rw [h]; decide)

theorem exec_throttlePulse (hup : s.held = false) (width : Nat) :
    exec (.throttlePulse width) s = .next (throttle width s) :=
  whileUp_up hup _

theorem exec_throttlePulse_valid (hup : s.held = false) (hlow : 900 ≤ width) (hhigh : width ≤ 2100) :
    exec (.throttlePulse width) s = .next (validThrottle width s) :=
  (exec_throttlePulse hup width).trans (congrArg _ (throttle_valid (classOf_valid hlow hhigh)))

theorem exec_silenceTimer (hup : s.held = false) (hrun : s.drv.silence.isSome) :
    exec .silenceTimer s = .next (throttleSilent s) :=
  (whileUp_up hup _).trans (congrArg _ (if_pos hrun))

end Throttle

/-! ## The function channel (R159 to R162) -/

section Function

variable {width : Nat} {c : FnPosition} {s : State}

theorem functionInput_glitch (h : classOf width = .glitch) : functionInput width s = s := by
  rw [functionInput, h]

theorem functionInput_invalid (h : classOf width = .invalid) : functionInput width s = raise .invalidPulses s := by
  rw [functionInput, h]

theorem functionInput_valid (h : classOf width = .valid) :
    functionInput width s = validFunction (functionClass width) s := by
  rw [functionInput, h]

theorem validFunction_drops (h : c = s.drv.position) : validFunction c s =
    s.setDrv { s.drv with fnSilence := some 300, candidate := none } :=
  if_pos h

theorem validFunction_starts (h : c ≠ s.drv.position) (hcandidate : s.drv.candidate ≠ some c) :
    validFunction c s =
      s.setDrv { s.drv with fnSilence := some 300, candidate := some c, candidateSince := s.time } :=
  (if_neg h).trans (if_pos hcandidate)

theorem validFunction_waits (h : c ≠ s.drv.position) (hcandidate : s.drv.candidate = some c)
    (hage : age s.time s.drv.candidateSince < 300) :
    validFunction c s = s.setDrv { s.drv with fnSilence := some 300 } :=
  ((if_neg h).trans (if_neg (not_not.mpr hcandidate))).trans (if_pos hage)

theorem validFunction_settles (h : c ≠ s.drv.position) (hcandidate : s.drv.candidate = some c)
    (hage : 300 ≤ age s.time s.drv.candidateSince) :
    validFunction c s = confirmFunction c (s.setDrv { s.drv with fnSilence := some 300 }) :=
  ((if_neg h).trans (if_neg (not_not.mpr hcandidate))).trans (if_neg (not_lt.mpr hage))

theorem exec_functionPulse (hup : s.held = false) (width : Nat) :
    exec (.functionPulse width) s = .next (functionInput width s) :=
  whileUp_up hup _

theorem exec_functionPulse_valid (hup : s.held = false) (hlow : 900 ≤ width) (hhigh : width ≤ 2100) :
    exec (.functionPulse width) s = .next (validFunction (functionClass width) s) :=
  (exec_functionPulse hup width).trans (congrArg _ (functionInput_valid (classOf_valid hlow hhigh)))

theorem exec_functionSilenceTimer (hup : s.held = false) (hrun : s.drv.fnSilence.isSome) :
    exec .functionSilenceTimer s = .next (s.setDrv { s.drv with candidate := none, fnSilence := none }) :=
  (whileUp_up hup _).trans (congrArg _ (if_pos hrun))

end Function

/-! ## The motor output (R163) -/

section Motor

variable {s : State}

theorem exec_frameTimer_neutral (hup : s.held = false) (hneutral : s.drv.output = .neutral)
    (hrun : s.drv.frameTimer.isSome) :
    exec .frameTimer s = .next (s.setDrv (beginPulse 1500 { s.drv with frameTimer := some 20 })) :=
  (whileUp_up hup _).trans (congrArg _ (if_pos ⟨hneutral, hrun⟩))

theorem exec_frameTimer_governed (hup : s.held = false) (hgoverned : s.drv.output = .governed) :
    exec .frameTimer s = .next s :=
  (whileUp_up hup _).trans (congrArg _ (if_neg fun ⟨hneutral, _⟩ => by rw [hgoverned] at hneutral; cases hneutral))

/-- The end of a pulse is no guarded meaning: it acts in reset too (R165). -/
theorem exec_motorPulseEnd (s : State) : exec .motorPulseEnd s = .next (s.setDrv { s.drv with emitting := none }) :=
  rfl

end Motor

/-- Settles O48: a width has one class, and what a valid pulse or a silence does turns on the channel's record. -/
theorem driverChannelsFollowTheirPulses : Obligations.DriverChannelsFollowTheirPulses := by
  refine ⟨fun w s hup => ⟨fun hglitch => ?_, fun hinvalid => ?_, fun hlow hhigh => ?valid, fun hrun => ?silent⟩,
    fun w s hup => ⟨fun hglitch => ?_, fun hinvalid => ?_, fun hlow hhigh => ?function, fun hrun => ?_⟩,
    fun s => ⟨exec_frameTimer_neutral, exec_frameTimer_governed, exec_motorPulseEnd s⟩⟩
  · exact (exec_throttlePulse hup w).trans (congrArg _ (throttle_glitch (classOf_glitch hglitch)))
  · exact (exec_throttlePulse hup w).trans (congrArg _ (throttle_invalid (classOf_invalid hinvalid)))
  case valid =>
    have hvalid := exec_throttlePulse_valid hup hlow hhigh
    exact ⟨fun hoff => hvalid.trans (congrArg _ (validThrottle_noFailsafe hoff)),
      fun hon hfew => hvalid.trans (congrArg _ (validThrottle_counts hon hfew)),
      fun hon hthird hcause =>
        hvalid.trans (congrArg _ ((validThrottle_third hon hthird).trans (endFailsafe_reset hcause))),
      fun hon hthird hcause =>
        hvalid.trans (congrArg _ ((validThrottle_third hon hthird).trans (endFailsafe_silence hcause)))⟩
  case silent =>
    have hsilent := exec_silenceTimer hup hrun
    exact ⟨fun hon => hsilent.trans (congrArg _ (throttleSilent_failsafe hon)),
      fun hoff => hsilent.trans (congrArg _ (throttleSilent_begins hoff))⟩
  · exact (exec_functionPulse hup w).trans (congrArg _ (functionInput_glitch (classOf_glitch hglitch)))
  · exact (exec_functionPulse hup w).trans (congrArg _ (functionInput_invalid (classOf_invalid hinvalid)))
  case function =>
    have hvalid := exec_functionPulse_valid hup hlow hhigh
    exact ⟨fun hsame => hvalid.trans (congrArg _ (validFunction_drops hsame)),
      fun hother hnew => hvalid.trans (congrArg _ (validFunction_starts hother hnew)),
      fun hother hstands hage => hvalid.trans (congrArg _ (validFunction_waits hother hstands hage)),
      fun hother hstands hage => hvalid.trans (congrArg _ (validFunction_settles hother hstands hage))⟩
  · exact exec_functionSilenceTimer hup hrun

end Sys2Proof.Proofs
end

section
/-! PROOFS. The tags on the trailer line (R168, R169): what a request reaches, what the node makes of an answer
window, and tags that gain or lose the line. -/

namespace Sys2Proof.Proofs

open Sys2Proof.Machine

/-! ## What a request reaches (R168, R169)

Tags with an address let a request through to the tags behind them, so each request goes down the line tag by tag. -/

section Line

variable {front back : List Tag} {g : Tag} {a : Nat}

theorem tagAnswering_append (h : ∀ x ∈ front, x.address.isSome) (back : List Tag) (a : Nat) :
    tagAnswering (front ++ back) a = (tagAnswering front a).or (tagAnswering back a) := by
  induction front with
  | nil => rfl
  | cons t ts ih =>
    obtain ⟨k, hk⟩ := Option.isSome_iff_exists.mp (h t List.mem_cons_self)
    simp only [List.cons_append, tagAnswering, hk]
    split
    · rfl
    · exact ih fun x hx => h x (List.mem_cons_of_mem t hx)

/-- Among tags with an address nothing answers but a tag at the address polled. -/
theorem tagAnswering_eq_none_iff (h : ∀ x ∈ front, x.address.isSome) :
    tagAnswering front a = none ↔ ∀ x ∈ front, x.address ≠ some a := by
  induction front with
  | nil => simp [tagAnswering]
  | cons t ts ih =>
    obtain ⟨k, hk⟩ := Option.isSome_iff_exists.mp (h t List.mem_cons_self)
    have hrest := ih fun x hx => h x (List.mem_cons_of_mem t hx)
    by_cases hka : k = a <;> simp [tagAnswering, hk, hka, hrest]

theorem tagAnswering_append_of_none (h : ∀ x ∈ front, x.address.isSome) (hother : ∀ x ∈ front, x.address ≠ some a)
    (back : List Tag) : tagAnswering (front ++ back) a = tagAnswering back a := by
  rw [tagAnswering_append h, (tagAnswering_eq_none_iff h).mpr hother, Option.none_or]

theorem assignTag_append (h : ∀ x ∈ front, x.address.isSome) (a : Nat) (back : List Tag) :
    assignTag a (front ++ back) = front ++ assignTag a back := by
  induction front with
  | nil => rfl
  | cons t ts ih =>
    obtain ⟨k, hk⟩ := Option.isSome_iff_exists.mp (h t List.mem_cons_self)
    simp only [List.cons_append, assignTag, hk, ih fun x hx => h x (List.mem_cons_of_mem t hx)]

theorem forgetTag_append (h : ∀ x ∈ front, x.address.isSome) (hother : ∀ x ∈ front, x.address ≠ some a)
    (back : List Tag) : forgetTag a (front ++ back) = front ++ forgetTag a back := by
  induction front with
  | nil => rfl
  | cons t ts ih =>
    obtain ⟨k, hk⟩ := Option.isSome_iff_exists.mp (h t List.mem_cons_self)
    have hka : k ≠ a := fun hka => hother t List.mem_cons_self (hka ▸ hk)
    simp only [List.cons_append, forgetTag, hk, if_neg hka,
      ih (fun x hx => h x (List.mem_cons_of_mem t hx)) fun x hx => hother x (List.mem_cons_of_mem t hx)]

theorem lampTags_append (h : ∀ x ∈ front, x.address.isSome) (l : Lamps) (back : List Tag) :
    lampTags l (front ++ back) = front.map (fun x => { x with lamps := l }) ++ lampTags l back := by
  induction front with
  | nil => rfl
  | cons t ts ih =>
    obtain ⟨k, hk⟩ := Option.isSome_iff_exists.mp (h t List.mem_cons_self)
    simp only [List.cons_append, List.map_cons, lampTags, hk, ih fun x hx => h x (List.mem_cons_of_mem t hx)]

/-- The POLL to address 0 is answered in front by a tag at address 0, and else by the first UNASSIGNED tag. -/
theorem tagAnswering_discovery (h : ∀ x ∈ front, x.address.isSome) (hg : g.address = none) (back : List Tag) :
    tagAnswering (front ++ g :: back) 0 = if front.any (·.address == some 0) then tagAnswering front 0 else some g := by
  have hbehind : tagAnswering (g :: back) 0 = some g := by simp [tagAnswering, hg]
  rw [tagAnswering_append h, hbehind]
  split
  · next hfront =>
    have hanswers : tagAnswering front 0 ≠ none := fun hnone => by
      obtain ⟨x, hx, hzero⟩ := List.any_eq_true.mp hfront
      exact (tagAnswering_eq_none_iff h).mp hnone x hx (beq_iff_eq.mp hzero)
    obtain ⟨t, ht⟩ := Option.ne_none_iff_exists'.mp hanswers
    rw [ht, Option.some_or]
  · next hfront =>
    have hnone : tagAnswering front 0 = none := (tagAnswering_eq_none_iff h).mpr fun x hx hzero =>
      hfront (List.any_eq_true.mpr ⟨x, hx, beq_iff_eq.mpr hzero⟩)
    rw [hnone, Option.none_or]

end Line

/-! ## The answer window (R169) -/

/-- The conditions of R169 on the answer to a POLL. -/
def PollAnswerFits (address : Nat) (id : Option TrailerId) (a : TagAnswer) : Prop :=
  a.address = address ∧ 100 ≤ a.record.length ∧ a.record.length ≤ 1500 ∧ ∀ i, id = some i → i = a.record.id

theorem pollAnswerFits_iff {address : Nat} {id : Option TrailerId} {a : TagAnswer} :
    PollAnswerFits address id a ↔ a.address = address ∧ 100 ≤ a.record.length ∧ a.record.length ≤ 1500 ∧
      id.all (· == a.record.id) = true := by
  cases id <;> simp [PollAnswerFits]

theorem pollOutcome_answered {address : Nat} {id : Option TrailerId} {a : TagAnswer}
    (h : PollAnswerFits address id a) : pollOutcome address id (.contents a) = .answered a.record :=
  if_pos (pollAnswerFits_iff.mp h)

theorem pollOutcome_error {address : Nat} {id : Option TrailerId} {a : TagAnswer}
    (h : ¬PollAnswerFits address id a) : pollOutcome address id (.contents a) = .error :=
  if_neg (mt pollAnswerFits_iff.mpr h)

theorem assignOutcome_answered {address : Nat} {r : TagRecord} {a : TagAnswer} (haddress : a.address = address)
    (hid : a.record.id = r.id) : assignOutcome address r (.contents a) = .answered r :=
  if_pos ⟨haddress, hid⟩

theorem assignOutcome_error {address : Nat} {r : TagRecord} {a : TagAnswer}
    (h : a.address ≠ address ∨ a.record.id ≠ r.id) : assignOutcome address r (.contents a) = .error :=
  if_neg (not_and_or.mpr h)

/-! ## Gaining and losing the line (R168) -/

theorem exec_tagGainsLine_hitched {r : TagRecord} (hlow : 100 ≤ r.length) (hhigh : r.length ≤ 1500) (s : State) :
    exec (.tagGainsLine (.hitched r)) s = .next (s.setLine (s.line ++ [Tag.fresh r])) :=
  if_pos (decide_eq_true ⟨hlow, hhigh⟩)

theorem exec_tagGainsLine_recovered (place : Nat) (s : State) : exec (.tagGainsLine (.recovered place)) s =
    .next (s.setLine (s.line.modify place (fun t => Tag.fresh t.record))) :=
  rfl

theorem exec_tagLosesLine (place : Nat) (s : State) :
    exec (.tagLosesLine place) s = .next (s.setLine (s.line.take place)) :=
  rfl

/-- Settles O49: a request passes the tags that have an address, an answer window has one outcome, and a tag gains
the line at its end or in its place. -/
theorem trailerLineReachesAndLosesTags : Obligations.TrailerLineReachesAndLosesTags := by
  refine ⟨fun front back g a l hfront => ⟨tagAnswering_discovery hfront rfl back, fun hother => ?_,
      fun hassigned hother => ?_, assignTag_append hfront a _, fun hother => ?_, fun hother => ?_,
      lampTags_append hfront l _, ?_⟩,
    fun address id a r => ⟨pollOutcome_answered, pollOutcome_error, rfl, rfl, assignOutcome_answered,
      assignOutcome_error, rfl, rfl, fun t => ⟨rfl, rfl, rfl⟩, rfl, rfl⟩,
    fun s => ⟨fun r hlow hhigh => exec_tagGainsLine_hitched hlow hhigh s, fun front back g hline => ?_,
      fun front back hline => ?_⟩⟩
  · simp [tagAnswering_append_of_none hfront hother, tagAnswering]
  · simp [tagAnswering_append_of_none hfront hother, tagAnswering, hassigned]
  · simp [forgetTag_append hfront hother, forgetTag, Tag.fresh, Lamps.dark]
  · simp [forgetTag_append hfront hother, forgetTag]
  · simpa [lampTags] using lampTags_append hfront l []
  · rw [exec_tagGainsLine_recovered, hline, List.modify_eq_take_drop, List.take_left, List.drop_left]
    rfl
  · rw [exec_tagLosesLine, hline, List.take_left]
    rfl

end Sys2Proof.Proofs
end

section
/-! PROOFS. Polls, loss and popping (R171 to R175, R182): a pop as a number of removals from the top of the chain,
and the polls that lead to one. -/

namespace Sys2Proof.Proofs

open Sys2Proof.Machine Sys2Proof.Laws

/-! ## The removals of a pop (R174, R175) -/

/-- The TRAILER_DROPPED posts of the first removals of a pop at a stand, the top of the chain first (R175). -/
def droppedPosts (chain : List TrailerRecord) (m : Nat) : List Post :=
  (List.range m).filterMap (fun j => (chain[chain.length - j - 1]?).map (fun x =>
    ⟨.trl, .trailerDropped, .num (chain.length - j), .num x.record.id.toNat, .num 0⟩))

/-- The line after a FORGET to each of the top addresses of a chain, the highest first (R174). -/
def forgetTop (len m : Nat) (line : List Tag) : List Tag :=
  (List.range m).foldl (fun l j => forgetTag (len - j) l) line

/-- The state after the first `m` removals of a pop, with the given count of free values drawn. -/
def removeTop (still : Bool) (m draws : Nat) (u : State) : State :=
  { u with
    draws := draws
    trl := { u.trl with chain := u.trl.chain.take (u.trl.chain.length - m) }
    line := forgetTop u.trl.chain.length m u.line
    mail := if still then { u.mail with posts := u.mail.posts ++ droppedPosts u.trl.chain m } else u.mail }

theorem removeTop_zero (still : Bool) (u : State) : removeTop still 0 u.draws u = u := by
  simp [removeTop, forgetTop, droppedPosts]

theorem forgetTop_succ (len m : Nat) (line : List Tag) :
    forgetTop len (m + 1) line = forgetTag (len - m) (forgetTop len m line) := by
  simp [forgetTop, List.range_succ]

theorem droppedPosts_succ {chain : List TrailerRecord} {m : Nat} {r : TrailerRecord}
    (hr : chain[chain.length - m - 1]? = some r) : droppedPosts chain (m + 1) = droppedPosts chain m ++
      [⟨.trl, .trailerDropped, .num (chain.length - m), .num r.record.id.toNat, .num 0⟩] := by
  simp [droppedPosts, List.range_succ, hr]

theorem popTop_of_getLast {still : Bool} {s : State} {r : TrailerRecord} (h : s.trl.chain.getLast? = some r) :
    popTop still s =
      let s' := sendForget s.trl.chain.length (setChain s.trl.chain.dropLast s)
      if still then
        post .trl .trailerDropped (.num s.trl.chain.length) (.num r.record.id.toNat) noDetail s'
      else s' := by
  rw [popTop, h]

/-- Taking the top record off is one removal more. -/
theorem popTop_removeTop {still : Bool} {m draws : Nat} {u : State} (h : m < u.trl.chain.length) :
    popTop still (removeTop still m draws u) = removeTop still (m + 1) draws u := by
  obtain ⟨r, hr⟩ : ∃ r, u.trl.chain[u.trl.chain.length - m - 1]? = some r :=
    ⟨_, List.getElem?_eq_getElem (by omega)⟩
  have hlength : (removeTop still m draws u).trl.chain.length = u.trl.chain.length - m := by
    simp [removeTop]
  have hlast : (removeTop still m draws u).trl.chain.getLast? = some r := by
    rw [List.getLast?_eq_getElem?, hlength]
    simp only [removeTop]
    rw [List.getElem?_take_of_lt (by omega), hr]
  have hrest : (removeTop still m draws u).trl.chain.dropLast =
      u.trl.chain.take (u.trl.chain.length - (m + 1)) := by
    rw [List.dropLast_eq_take, hlength]
    simp only [removeTop, List.take_take]
    congr 1
    omega
  rw [popTop_of_getLast hlast, hlength, hrest]
  cases still <;>
    simp [removeTop, forgetTop_succ, droppedPosts_succ hr, post, sendForget, setChain, noDetail, State.setMail,
      State.setLine, State.setTrl]

/-! ## Where a pop stops (R182, log entry 35) -/

section Pop

variable {k : Nat} {still : Bool} {id : TrailerId} {count : Nat}

/-- A pop of `n` more records removes at least one; it ends behind the last, or is left part-way before it. -/
theorem popOn_removeTop {n m draws : Nat} {u : State} (hn : 0 < n) (hlen : m + n ≤ u.trl.chain.length) :
    ∃ m' draws', m < m' ∧ m' ≤ m + n ∧ popOn k still id count n (removeTop still m draws u) =
      if m' = m + n then popEnds k still id count (removeTop still m' draws' u)
      else setCycle (.popping k still id count) (removeTop still m' draws' u) := by
  induction n generalizing m draws with
  | zero => exact absurd hn (Nat.lt_irrefl 0)
  | succ n ih =>
    have htop : popTop still (removeTop still m draws u) = removeTop still (m + 1) draws u :=
      popTop_removeTop (by omega)
    cases n with
    | zero => exact ⟨m + 1, draws, by omega, le_rfl, by rw [popOn, htop, if_pos rfl]⟩
    | succ n =>
      have hdrawn : (removeTop still (m + 1) draws u).setDraws (draws + 1) =
        removeTop still (m + 1) (draws + 1) u := rfl
      rw [popOn, htop]
      by_cases hleft : Config.freeFlag draws
      · exact ⟨m + 1, draws + 1, by omega, by omega, (if_pos hleft).trans (if_neg (by omega)).symm⟩
      · obtain ⟨m', draws', hmore, hlast, hpop⟩ := ih (m := m + 1) (draws := draws + 1) (by omega) (by omega)
        exact ⟨m', draws', by omega, by omega, (if_neg hleft).trans (hpop.trans (by
          rw [show m + 1 + (n + 1) = m + (n + 1 + 1) by omega]))⟩

/-- The state in which a pop stops after `m` removals: ended behind the last record, or else left part-way. -/
def popStop (k : Nat) (still : Bool) (id : TrailerId) (count m draws : Nat) (u : State) : State :=
  if u.trl.chain.length + 1 = k + m then popEnds k still id count (removeTop still m draws u)
  else setCycle (.popping k still id count) (removeTop still m draws u)

/-- A pop from the lost address, from its beginning or where it was left. -/
theorem popOn_stops {len : Nat} {s : State} (hlen : s.trl.chain.length = len) (hlow : 1 ≤ k) (hhigh : k ≤ len) :
    ∃ m draws, 1 ≤ m ∧ k + m ≤ len + 1 ∧
      popOn k still id count (len + 1 - k) s = popStop k still id count m draws s := by
  subst hlen
  obtain ⟨m, draws, hmore, hlast, hpop⟩ := popOn_removeTop (k := k) (still := still) (id := id) (count := count)
    (n := s.trl.chain.length + 1 - k) (m := 0) (draws := s.draws) (u := s) (by omega) (by omega)
  rw [removeTop_zero] at hpop
  exact ⟨m, draws, hmore, by omega, hpop.trans (if_congr (by omega) rfl rfl)⟩

theorem step_pop_resumes {s : State} (hup : s.held = false) (hempty : s.pending = []) (hdue : dueCommands s = [])
    (hcycle : s.trl.cycle = .popping k still id count) :
    step s = .next (popOn k still id count (s.trl.chain.length + 1 - k) s) := by
  have hunder : popUnderWay s = true := by rw [popUnderWay, hcycle]
  simp only [step, hempty, idle, hdue, if_pos (And.intro hup hunder), popResumes, hcycle]

end Pop

/-! ## The cycle timer and the polls (R171 to R173) -/

section Poll

variable {k : Nat} {r : TrailerRecord} {rec : Reception} {s : State}

theorem exec_cycleTimer (hup : s.held = false) (hrun : s.trl.timer.isSome) :
    exec .cycleTimer s = .next (beginCycle s) :=
  (whileUp_up hup _).trans (congrArg _ (if_pos hrun))

theorem beginCycle_eq (s : State) : beginCycle s = s.setTrl { s.trl with
    timer := some (cycleInterval s)
    cycle := if s.trl.cycle = .idle then (if s.trl.chain = [] then .discovering else .polling 1)
      else s.trl.cycle } := by
  simp only [beginCycle, List.isEmpty_iff]
  split <;> rfl

theorem setMissed_eq (hr : s.trl.chain[k - 1]? = some r) (m : Nat) :
    setMissed k m s = setChain (s.trl.chain.set (k - 1) { r with missed := m }) s := by
  rw [setMissed, List.modify_eq_set_getElem?, hr]
  rfl

theorem exec_poll (hup : s.held = false) (hcycle : s.trl.cycle = .polling k) (hr : s.trl.chain[k - 1]? = some r)
    {o : LineOutcome} (ho : pollOutcome k (some r.record.id) (hear (pollAnswer s.line k) rec) = o) :
    exec (.poll rec) s = .next (pollEnds k r o s) := by
  refine (whileUp_up hup _).trans (congrArg _ ?_)
  simp only [pollWindow, hcycle, hr, ho]

theorem exec_poll_idle (hup : s.held = false) (hcycle : ∀ j, s.trl.cycle ≠ .polling j) :
    exec (.poll rec) s = .next s := by
  refine (whileUp_up hup _).trans (congrArg _ ?_)
  unfold pollWindow
  split
  · next j hj => exact absurd hj (hcycle j)
  · rfl

theorem afterPoll_setMissed (hr : s.trl.chain[k - 1]? = some r) (m : Nat) :
    afterPoll k (setMissed k m s) = s.setTrl { s.trl with
      chain := s.trl.chain.set (k - 1) { r with missed := m }
      cycle := if k < s.trl.chain.length then .polling (k + 1) else .discovering } := by
  rw [setMissed_eq hr, afterPoll, setChain, State.setTrl_trl, List.length_set]
  rfl

theorem countError_eq (o : LineOutcome) (s : State) :
    countError o s = if o = .error then raise .lineErrors s else s := by
  cases o <;> rfl

theorem countError_trl (o : LineOutcome) (s : State) : (countError o s).trl = s.trl := by
  cases o <;> rfl

theorem countError_pos (o : LineOutcome) (s : State) : (countError o s).pos = s.pos := by
  cases o <;> rfl

theorem pollEnds_unanswered {o : LineOutcome} (h : ∀ a, o ≠ .answered a) : pollEnds k r o s =
    if r.missed + 1 < 3 then afterPoll k (setMissed k (r.missed + 1) (countError o s))
    else popFrom k r.record.id (setMissed k (r.missed + 1) (countError o s)) := by
  cases o with
  | answered a => exact absurd rfl (h a)
  | silent => rfl
  | error => rfl

/-- A first or second miss (R173). -/
theorem pollEnds_missed {o : LineOutcome} (hr : s.trl.chain[k - 1]? = some r) (h : ∀ a, o ≠ .answered a)
    (hfew : r.missed < 2) : pollEnds k r o s = (countError o s).setTrl { s.trl with
      chain := s.trl.chain.set (k - 1) { r with missed := r.missed + 1 }
      cycle := if k < s.trl.chain.length then .polling (k + 1) else .discovering } := by
  rw [pollEnds_unanswered h, if_pos (by omega), afterPoll_setMissed (by rwa [countError_trl]), countError_trl]

/-- The third miss begins a pop of every record from the lost address up (R174, R175). -/
theorem pollEnds_lost {o : LineOutcome} (hr : s.trl.chain[k - 1]? = some r) (h : ∀ a, o ≠ .answered a)
    (hthird : 2 ≤ r.missed) (hlow : 1 ≤ k) : ∃ m draws, 1 ≤ m ∧ k + m ≤ s.trl.chain.length + 1 ∧
      pollEnds k r o s = popStop k (stationary s) r.record.id (s.trl.chain.length + 1 - k) m draws
        ((countError o s).setTrl
          { s.trl with chain := s.trl.chain.set (k - 1) { r with missed := r.missed + 1 } }) := by
  have hhigh : k ≤ s.trl.chain.length := by
    have hlt := (List.getElem?_eq_some_iff.mp hr).1
    omega
  rw [pollEnds_unanswered h, if_neg (by omega), setMissed_eq (by rwa [countError_trl]), popFrom, setChain,
    State.setTrl_trl, countError_trl, List.length_set, stationary, State.setTrl_pos, countError_pos]
  exact popOn_stops List.length_set hlow hhigh

end Poll

/-- Settles O50: an answer or a miss goes on to the next step, and the third miss begins a pop, which is a number
of removals wherever it stops. -/
theorem pollsCountMissesAndPop : Obligations.PollsCountMissesAndPop := by
  unfold Obligations.PollsCountMissesAndPop
  intro popped
  have hstop (k : Nat) (still : Bool) (id : TrailerId) (count m draws : Nat) (u : State) :
      popStop k still id count m draws u = popped u k still id count m draws := by
    by_cases hend : u.trl.chain.length + 1 = k + m
    · simp only [popStop, popped, if_pos hend]
      cases still <;> rfl
    · simp only [popStop, popped, if_neg hend]
      cases still <;> rfl
  refine ⟨fun k r rec s hup => ⟨fun hrun => ?timer, fun hcycle hlow hr => ?poll, exec_poll_idle hup⟩,
    fun k still id count s hup hempty hdue hcycle hlow hhigh => ?resumes⟩
  case timer =>
    rw [exec_cycleTimer hup hrun, beginCycle_eq]
    rfl
  case poll =>
    refine ⟨fun a hanswered => (exec_poll hup hcycle hr hanswered).trans (congrArg _ (afterPoll_setMissed hr 0)),
      fun hmissed hfew => ?missed, fun hmissed hthird => ?lost⟩
    case missed =>
      refine (exec_poll hup hcycle hr rfl).trans (congrArg _ ((pollEnds_missed hr hmissed hfew).trans ?_))
      rw [countError_eq]
      rfl
    case lost =>
      obtain ⟨m, draws, hmore, hlast, hpop⟩ := pollEnds_lost hr hmissed hthird hlow
      rw [hstop, countError_eq] at hpop
      exact ⟨m, draws, hmore, hlast, (exec_poll hup hcycle hr rfl).trans (congrArg _ hpop)⟩
  case resumes =>
    obtain ⟨m, draws, hmore, hlast, hpop⟩ := popOn_stops rfl hlow hhigh
    exact ⟨m, draws, hmore, hlast, (step_pop_resumes hup hempty hdue hcycle).trans
      (congrArg _ (hpop.trans (hstop k still id count m draws s)))⟩

end Sys2Proof.Proofs
end

section
/-! PROOFS. Discovery and hitching (R176 to R179), and the lamp step (R180) that ends a cycle. -/

namespace Sys2Proof.Proofs

open Sys2Proof.Machine Sys2Proof.Laws

/-! ## The lamp step (R167, R180) -/

theorem hazard_iff (s : State) : hazard s = true ↔
    (s.cvy.own.trailerLoss || s.cvy.own.standoff || s.cvy.own.intrusion) = true ∨ s.cvy.foreign ≠ [] ∨
      ∃ e ∈ s.clm.entries, e.state = .standoff := by
  rw [hazard, Bool.or_eq_true, Bool.not_eq_true', ← Bool.not_eq_true, haltSetEmpty_iff, not_not, inStandoff_iff,
    Bool.or_eq_true, Bool.or_eq_true]
  simp only [or_assoc]

theorem lampTrailers_iff (s : State) : lampTrailers s = true ↔
    ∃ r ∈ s.trl.chain, r.record.braked = true ∨ r.record.lamp = true := by
  simp only [lampTrailers, List.any_eq_true, Bool.or_eq_true]

theorem lampStep_sends {s : State} (hworked : lampTrailers s = true)
    (hdiffer : s.trl.lastLamps ≠ some (lampStates s) ∨ s.trl.refresh = true) :
    lampStep s = { s with
      trl := { s.trl with cycle := .idle, lastLamps := some (lampStates s), refresh := false }
      line := lampTags (lampStates s) s.line } := by
  rw [lampStep, if_pos (by simpa [hworked] using hdiffer)]
  rfl

theorem lampStep_quiet {s : State} (h : ¬lampTrailers s = true ∨
    (s.trl.lastLamps = some (lampStates s) ∧ s.trl.refresh = false)) :
    lampStep s = { s with trl := { s.trl with cycle := .idle } } := by
  rw [lampStep, if_neg (by simpa [Classical.or_iff_not_imp_left] using h)]
  rfl

/-! ## Discovery (R176 to R179) -/

section Discovery

variable {rec : Reception} {s : State}

/-- The lowest place of a trailer ID in the chain is one address below the record's (R177). -/
theorem addressOf_eq_some {chain : List TrailerRecord} {id : TrailerId} {k : Nat}
    (hplace : ∃ x, chain[k]? = some x ∧ x.record.id = id)
    (hfirst : ∀ j < k, ∀ x, chain[j]? = some x → x.record.id ≠ id) : addressOf chain id = some (k + 1) := by
  obtain ⟨x, hx, hid⟩ := hplace
  obtain ⟨hk, rfl⟩ := List.getElem?_eq_some_iff.mp hx
  have hfind : chain.findIdx? (fun r => r.record.id == id) = some k :=
    List.findIdx?_eq_some_iff_getElem.mpr ⟨hk, beq_iff_eq.mpr hid, fun j hj heq =>
      hfirst j hj _ (List.getElem?_eq_getElem (hj.trans hk)) (beq_iff_eq.mp heq)⟩
  rw [addressOf, hfind]
  rfl

theorem addressOf_eq_none {chain : List TrailerRecord} {id : TrailerId} (h : ∀ x ∈ chain, x.record.id ≠ id) :
    addressOf chain id = none := by
  rw [addressOf, List.findIdx?_eq_none_iff.mpr fun x hx => beq_eq_false_iff_ne.mpr (h x hx)]
  rfl

theorem breakSilence_eq (s : State) : breakSilence s =
    s.setTrl { s.trl with silent := if s.trl.overlength then 0 else s.trl.silent } := by
  unfold breakSilence
  split <;> rfl

theorem tooLong_again (r : TagRecord) (h : s.trl.overlength = true) :
    tooLong r s = s.setTrl { s.trl with overlength := true, silent := 0 } :=
  if_pos h

theorem tooLong_first (r : TagRecord) (h : s.trl.overlength = false) : tooLong r s =
    post .trl .overlength (.num r.id.toNat) (.num r.length) noDetail
      (s.setTrl { s.trl with overlength := true, silent := 0 }) :=
  if_neg (ne_true_of_eq_false h)

theorem silentDiscovery_fits (h : s.trl.overlength = false) : silentDiscovery s = s :=
  if_neg (ne_true_of_eq_false h)

theorem silentDiscovery_counts (h : s.trl.overlength = true) (hfew : s.trl.silent < 2) :
    silentDiscovery s = s.setTrl { s.trl with silent := s.trl.silent + 1 } :=
  (if_pos h).trans (if_pos (Nat.succ_lt_succ hfew))

theorem silentDiscovery_third (h : s.trl.overlength = true) (hthird : 2 ≤ s.trl.silent) :
    silentDiscovery s = s.setTrl { s.trl with overlength := false, silent := 0 } :=
  (if_pos h).trans (if_neg (by omega))

theorem discoveryEnds_known {r : TagRecord} {k : Nat} (h : addressOf s.trl.chain r.id = some k) :
    discoveryEnds (.answered r) s = setCycle (.assigning k r true) (breakSilence s) := by
  simp only [discoveryEnds, h]

theorem discoveryEnds_new {r : TagRecord} (h : ∀ x ∈ s.trl.chain, x.record.id ≠ r.id) :
    discoveryEnds (.answered r) s =
      if s.trl.chain.length < 4 then setCycle (.assigning (s.trl.chain.length + 1) r false) (breakSilence s)
      else lampStep (tooLong r s) := by
  simp only [discoveryEnds, addressOf_eq_none h]

theorem exec_discovery (hup : s.held = false) (hcycle : s.trl.cycle = .discovering) {o : LineOutcome}
    (ho : pollOutcome 0 none (hear (pollAnswer s.line 0) rec) = o) :
    exec (.discovery rec) s = .next (discoveryEnds o s) := by
  refine (whileUp_up hup _).trans (congrArg _ ?_)
  rw [discoveryWindow, hcycle, ← ho]

theorem exec_discovery_idle (hup : s.held = false) (hcycle : s.trl.cycle ≠ .discovering) :
    exec (.discovery rec) s = .next s := by
  refine (whileUp_up hup _).trans (congrArg _ ?_)
  unfold discoveryWindow
  split
  · next hdiscovering => exact absurd hdiscovering hcycle
  · rfl

end Discovery

/-! ## The ASSIGN (R176, R177) -/

theorem exec_assign {k : Nat} {r : TagRecord} {rejoin : Bool} {rec : Reception} {s : State} (hup : s.held = false)
    (hcycle : s.trl.cycle = .assigning k r rejoin) {o : LineOutcome}
    (ho : assignOutcome k r (hear (assignAnswer s.line k) rec) = o) :
    exec (.assign rec) s = .next (assignEnds k r rejoin o (s.setLine (assignTag k s.line))) := by
  refine (whileUp_up hup _).trans (congrArg _ ?_)
  rw [assignWindow, hcycle, ← ho]

/-- Settles O51: discovery and ASSIGN by the outcome of their answer windows, and the lamp step by whether there is
something to send and a trailer to send it to. -/
theorem discoveryAssignsAndLampsFollow : Obligations.DiscoveryAssignsAndLampsFollow := by
  refine ⟨fun rec s hup => ⟨fun hcycle => ?discovery, exec_discovery_idle hup⟩,
    fun k r rejoin rec s hup hcycle => ?assign, fun s => ⟨hazard s, hazard_iff s, fun hworked => ?_, fun hquiet => ?_⟩⟩
  case discovery =>
    refine ⟨fun a k ho hplace hfirst => ?_, fun a ho hnew hroom => ?_, fun a ho hnew hfull => ?overlength,
      fun ho => ?silent, fun ho => exec_discovery hup hcycle ho⟩
    · rw [exec_discovery hup hcycle ho, discoveryEnds_known (addressOf_eq_some hplace hfirst), breakSilence_eq]
      rfl
    · rw [exec_discovery hup hcycle ho, discoveryEnds_new hnew, if_pos hroom, breakSilence_eq]
      rfl
    case overlength =>
      have hends := exec_discovery hup hcycle ho
      rw [discoveryEnds_new hnew, if_neg (not_lt.mpr hfull)] at hends
      refine ⟨fun hagain => ?_, fun hfirst => ?_⟩
      · rw [tooLong_again a hagain] at hends
        exact hends
      · rw [tooLong_first a hfirst] at hends
        exact hends
    case silent =>
      have hends : exec (.discovery rec) s = .next (lampStep (silentDiscovery s)) := exec_discovery hup hcycle ho
      refine ⟨fun hfits => ?_, fun hover hfew => ?_, fun hover hthird => ?_⟩
      · rwa [silentDiscovery_fits hfits] at hends
      · rwa [silentDiscovery_counts hover hfew] at hends
      · rwa [silentDiscovery_third hover hthird] at hends
  case assign =>
    refine ⟨fun a ho hnew => ?_, fun a ho hback => ?_, fun ho => exec_assign hup hcycle ho,
      fun ho => exec_assign hup hcycle ho⟩
    · subst hnew
      exact exec_assign hup hcycle ho
    · subst hback
      exact exec_assign hup hcycle ho
  · exact lampStep_sends ((lampTrailers_iff s).mpr hworked)
  · exact lampStep_quiet (hquiet.imp_left (mt (lampTrailers_iff s).mp))

end Sys2Proof.Proofs
end

section
/-! PROOFS. The resets (R184, R185): what an abandoned ASSIGN and a lost supply do to the trailer line, and the node
as each reset leaves it. -/

namespace Sys2Proof.Proofs

open Sys2Proof.Machine Sys2Proof.Laws

/-! ## The trailer line at a reset (R168, R171) -/

/-- An abandoned ASSIGN leaves a mark on the trailer line and on the count of free values alone. -/
theorem abandonAssign_eq (s : State) :
    abandonAssign s = { s with line := (abandonAssign s).line, draws := (abandonAssign s).draws } := by
  unfold abandonAssign
  split
  · dsimp only
    split <;> rfl
  · rfl

theorem abandonAssign_line {s : State} (h : ∀ a r j, s.trl.cycle ≠ .assigning a r j) :
    (abandonAssign s).line = s.line := by
  unfold abandonAssign
  split
  · next a r j hcycle => exact absurd hcycle (h a r j)
  · rfl

theorem assignTag_records (address : Nat) (tags : List Tag) :
    (assignTag address tags).map (·.record) = tags.map (·.record) := by
  induction tags with
  | nil => rfl
  | cons t ts ih =>
    unfold assignTag
    split
    · rfl
    · rw [List.map_cons, List.map_cons, ih]

/-- Whether or not its tag had taken an ASSIGN, the trailers on the line are the same. -/
theorem abandonAssign_records (s : State) :
    (abandonAssign s).line.map (·.record) = s.line.map (·.record) := by
  unfold abandonAssign
  split
  · dsimp only
    split
    · exact assignTag_records _ s.line
    · rfl
  · rfl

theorem renewTags_records (s : State) : (renewTags s).line.map (·.record) = s.line.map (·.record) := by
  simp [renewTags, Tag.fresh, Function.comp_def]

/-- Tags that lost power come back UNASSIGNED and dark. -/
theorem renewTags_fresh {s : State} {t : Tag} (h : t ∈ (renewTags s).line) :
    t.address = none ∧ t.lamps = ⟨false, false, false⟩ := by
  obtain ⟨u, -, rfl⟩ := List.mem_map.mp h
  exact ⟨rfl, rfl⟩

/-! ## The node after a reset -/

/-- A reset carries over from an abandoned ASSIGN what it left on the trailer line and in the count of free
values. -/
theorem resetNode_abandonAssign (cause : ResetCause) (count : Nat) (j : Journal) (c : Counters) (s : State) :
    resetNode cause count j c (abandonAssign s) = { resetNode cause count j c s with
      line := (abandonAssign s).line
      draws := (abandonAssign s).draws } := by
  rw [abandonAssign_eq s]
  rfl

/-- A POWER-ON clears journal and counters and finds the tags unpowered (R168, R184). -/
theorem exec_powerOn (s : State) :
    exec .powerOn s = .next (resetNode .powerOn 0 Journal.cleared Counters.zero (renewTags s)) := rfl

/-- Below the dip threshold the node is held at its reset values (R184). -/
theorem exec_supplyBelowDipThreshold (s : State) : exec .supplyBelowDipThreshold s = .next
    { resetBlocks s.node.resetCause 0 Journal.cleared Counters.zero s with
      held := true
      line := (abandonAssign s).line
      draws := (abandonAssign s).draws } := by
  change Host.Outcome.next { resetBlocks s.node.resetCause 0 Journal.cleared Counters.zero (abandonAssign s) with
    held := true } = _
  rw [abandonAssign_eq s]
  rfl

/-- The tags as a dip leaves them, by whether the trailer line held up (R184). -/
def dippedLine (lineHeld : Bool) (s : State) : List Tag :=
  if lineHeld then (abandonAssign s).line else (renewTags (abandonAssign s)).line

theorem exec_supplyDip (lineHeld : Bool) (s : State) : exec (.supplyDip lineHeld) s = .next
    { resetNode .supply 0 Journal.cleared Counters.zero s with
      line := dippedLine lineHeld s
      draws := (abandonAssign s).draws } := by
  have hreset := resetNode_abandonAssign .supply 0 Journal.cleared Counters.zero s
  cases lineHeld with
  | true => exact congrArg Host.Outcome.next hreset
  | false => exact congrArg (fun t => Host.Outcome.next { t with line := dippedLine false s }) hreset

theorem dippedLine_lost_records (s : State) :
    (dippedLine false s).map (·.record) = s.line.map (·.record) :=
  (renewTags_records _).trans (abandonAssign_records s)

/-- Settles O5: each command's next state is known, and what it keeps is read off it. -/
theorem powerOnAndDipRestartTheNode : Obligations.PowerOnAndDipRestartTheNode := by
  refine ⟨exec_powerOn, fun s => ⟨⟨_, exec_supplyBelowDipThreshold s, ?held⟩, fun lineHeld =>
    ⟨_, exec_supplyDip lineHeld s, ?dip⟩⟩⟩
  case held => exact ⟨rfl, rfl, rfl, rfl, rfl, rfl, rfl, rfl, rfl, rfl, rfl, rfl, rfl⟩
  case dip =>
    refine ⟨rfl, rfl, rfl, rfl, rfl, rfl, rfl, rfl, rfl, rfl, rfl, rfl, rfl, rfl, rfl, ?_, ?_⟩
    · rintro rfl hidle
      exact abandonAssign_line hidle
    · rintro rfl
      exact ⟨dippedLine_lost_records s, fun _ => renewTags_fresh⟩

/-! ## SERVICE RESTART -/

theorem journal_take_room {j : Journal} (h : j.fill < 16) (r : JournalRecord) : j.take r = { j with
    places := j.places.set j.putIndex (some r)
    putIndex := (j.putIndex + 1) % 16
    fill := j.fill + 1 } :=
  if_pos h

theorem journal_take_full {j : Journal} (h : j.fill = 16) (r : JournalRecord) :
    j.take r = { j with lost := min 255 (j.lost + 1) } :=
  if_neg (h ▸ Nat.lt_irrefl 16)

/-- Settles O6: the reset state with journal and counters kept, START in the journal or lost. -/
theorem serviceRestartKeepsJournalAndCounters : Obligations.ServiceRestartKeepsJournalAndCounters := by
  intro s hup hanswer
  have hreset := (exec_serviceRestart hup hanswer).trans (congrArg _ (resetNode_abandonAssign _ _ _ _ s))
  exact ⟨_, hreset, rfl, rfl, rfl, rfl, fun hroom => journal_take_room hroom _,
    fun hfull => journal_take_full hfull _, rfl, rfl, rfl, rfl, rfl, rfl, rfl, rfl, rfl, rfl,
    abandonAssign_line⟩

end Sys2Proof.Proofs
end

section
/-! PROOFS. The settings load up to its verdict (R186, R187): failed reads, and the structural checks of a complete
image, the first that fails deciding. -/

namespace Sys2Proof.Proofs

open Sys2Proof.Machine Sys2Proof.Laws

/-! ## Failed reads (R186) -/

/-- A fault ends the load in UNCONFIGURED: a CONFIG_FAULT record and the FORGETs, and nothing else is touched. -/
theorem loadFails_eq (cause : FaultCause) (detail : Nat) (s : State) : loadFails cause detail s = { s with
    node := { s.node with
      mode := .unconfigured
      faultCause := some cause
      faultDetail := detail
      store := .idle
      retryTimer := none }
    line := forgetTag 1 (forgetTag 2 (forgetTag 3 (forgetTag 4 s.line)))
    mail := { s.mail with
      posts := s.mail.posts ++ [⟨.node, .configFault, .fault cause, .num detail, .num 0⟩] } } := by
  simp only [loadFails, forgetAll, sendForget, post, noDetail, State.setNode, State.setLine, State.setMail]

theorem readFailed_again {s : State} (h : s.node.loadAttempts < 3) :
    readFailed s = { s with node := { s.node with store := .retry, retryTimer := some 10 } } :=
  if_pos h

theorem readFailed_third {s : State} (h : s.node.loadAttempts = 3) : readFailed s = loadFails .store 3 s := by
  unfold readFailed
  rw [if_neg (h ▸ Nat.lt_irrefl 3), h]

section Read

variable {s : State} (hup : s.held = false)
include hup

theorem exec_loadRetry (hretry : s.node.store = .retry) : exec .loadRetry s = .next { s with node := { s.node with
    store := .reading, retryTimer := none, loadAttempts := s.node.loadAttempts + 1 } } :=
  (whileUp_up hup _).trans (congrArg _ (if_pos hretry))

/-- No acknowledgement and a stopped transfer are alike (R186). -/
theorem exec_readFails {c : Instr} (hreading : s.node.store = .reading) (hc : c = .storeNoAck ∨ c = .storeByteTimeout) :
    exec c s = .next (readFailed s) := by
  rcases hc with rfl | rfl <;> exact (whileUp_up hup _).trans (congrArg _ (if_pos hreading))

end Read

/-- Settles O7, by the number of reads already begun. -/
theorem storeReadsAreTriedThreeTimes : Obligations.StoreReadsAreTriedThreeTimes := by
  refine ⟨fun s => exec_loadRetry, fun c s hup hreading hc => ⟨fun hfew => ?_, fun hthird => ?_⟩⟩
  · rw [exec_readFails hup hreading hc, readFailed_again hfew]
  · rw [exec_readFails hup hreading hc, readFailed_third hthird, loadFails_eq]

/-! ## What each check says (R187) -/

theorem linkAtFault_iff (img : List Byte) (l : Nat) :
    linkAtFault img l = true ↔ (32 ≤ l ∧ l ≤ 254) ∨ (l < 32 ∧ kindCode img l = 0) := by
  simp [linkAtFault]

theorem sectionAtFault_iff (img : List Byte) (i : Nat) : sectionAtFault img i = true ↔ kindCode img i > 3 ∨
    (kindCode img i ≠ 0 ∧ ∃ l ∈ linkBytes img i, (32 ≤ l ∧ l ≤ 254) ∨ (l < 32 ∧ kindCode img l = 0)) := by
  simp only [sectionAtFault, Bool.or_eq_true, Bool.and_eq_true, List.any_eq_true, linkAtFault_iff, decide_eq_true_eq,
    bne_iff_ne]

theorem adjacentSingle_iff (img : List Byte) (i : Nat) : adjacentSingle img i = true ↔
    kindCode img i = 2 ∧ ∃ j < 32, kindCode img j = 2 ∧ (j ∈ linkBytes img i ∨ i ∈ linkBytes img j) := by
  simp only [adjacentSingle, singleInImage, neighbours, Bool.and_eq_true, Bool.or_eq_true, List.any_eq_true,
    List.mem_range, List.contains_iff_mem, beq_iff_eq]

/-! ## The checks in order (R187) -/

/-- The lowest of the 32 entries at which a test fails. -/
theorem find_entry {p : Nat → Bool} {i : Nat} (hi : i < 32) (hp : p i = true) (hlow : ∀ j < i, ¬p j = true) :
    (List.range 32).find? p = some i := by
  rw [List.find?_range_eq_some]
  exact ⟨hp, List.mem_range.mpr hi, fun j hj => by simpa using hlow j hj⟩

theorem find_noEntry {p : Nat → Bool} (h : ∀ i < 32, ¬p i = true) : (List.range 32).find? p = none :=
  List.find?_eq_none.mpr fun i hi => h i (List.mem_range.mp hi)

/-- The checks of the section table (R187, checks 5 to 7). -/
def tableFault (img : List Byte) : Option (FaultCause × Nat) :=
  match (List.range 32).find? (sectionAtFault img) with
  | some i => some (.sec, i)
  | none =>
    if singleCount img > 8 then some (.singleCount, singleCount img)
    else match (List.range 32).find? (adjacentSingle img) with
      | some i => some (.singleAdjacent, i)
      | none => none

section Checks

variable {img : List Byte}

theorem structuralFault_sum (h : imageSum img ≠ imageWord img 419) : structuralFault img = some (.sum, imageSum img) :=
  if_pos h

variable (hsum : imageSum img = imageWord img 419)
include hsum

theorem structuralFault_format (h : ¬(imageByte img 0 = 1 ∧ imageWord img 1 = 421)) :
    structuralFault img = some (.format, imageByte img 0) := by
  unfold structuralFault
  rw [if_neg (not_not.mpr hsum), if_pos (not_and_or.mp h)]

variable (hformat : imageByte img 0 = 1 ∧ imageWord img 1 = 421)
include hformat

theorem structuralFault_station (h : ¬(1 ≤ imageByte img 4 ∧ imageByte img 4 ≤ 62)) :
    structuralFault img = some (.station, imageByte img 4) := by
  have hsound : ¬(imageByte img 0 ≠ 1 ∨ imageWord img 1 ≠ 421) := by omega
  exact (if_neg (not_not.mpr hsum)).trans ((if_neg hsound).trans (if_pos (by omega)))

variable (hstation : 1 ≤ imageByte img 4 ∧ imageByte img 4 ≤ 62)
include hstation

/-- An image whose header is sound is judged by its section table. -/
theorem structuralFault_eq_tableFault : structuralFault img = tableFault img := by
  have hsound : ¬(imageByte img 0 ≠ 1 ∨ imageWord img 1 ≠ 421) := by omega
  exact (if_neg (not_not.mpr hsum)).trans ((if_neg hsound).trans (if_neg (by omega)))

end Checks

section Table

variable {img : List Byte} {i : Nat}

theorem tableFault_sec (hi : i < 32) (hbad : sectionAtFault img i = true)
    (hlow : ∀ j < i, ¬sectionAtFault img j = true) : tableFault img = some (.sec, i) := by
  rw [tableFault, find_entry hi hbad hlow]

variable (hsections : ∀ j < 32, ¬sectionAtFault img j = true)
include hsections

theorem tableFault_singleCount (h : singleCount img > 8) : tableFault img = some (.singleCount, singleCount img) := by
  rw [tableFault, find_noEntry hsections]
  exact if_pos h

variable (hcount : singleCount img ≤ 8)
include hcount

theorem tableFault_singleAdjacent (hi : i < 32) (hbad : adjacentSingle img i = true)
    (hlow : ∀ j < i, ¬adjacentSingle img j = true) : tableFault img = some (.singleAdjacent, i) := by
  rw [tableFault, find_noEntry hsections, find_entry hi hbad hlow]
  exact if_neg (not_lt.mpr hcount)

theorem tableFault_none (h : ∀ j < 32, ¬adjacentSingle img j = true) : tableFault img = none := by
  rw [tableFault, find_noEntry hsections, find_noEntry h]
  exact if_neg (not_lt.mpr hcount)

end Table

/-! ## The verdict (R187, R191) -/

/-- The listen timer starts with LISTENING (R191). -/
theorem enterListening_node (s : State) : (enterListening s).node = { s.node with
    mode := .listening, listenTimer := some 1000, store := .idle, retryTimer := none } := rfl

section Verdict

variable {img : List Byte} {s : State} (hup : s.held = false) (hreading : s.node.store = .reading)
  (hlength : img.length = 421)
include hup hreading hlength

theorem exec_faultyImage {cause : FaultCause} {detail : Nat} (h : structuralFault img = some (cause, detail)) :
    exec (.storeReadComplete img) s = .next (loadFails cause detail s) := by
  rw [exec_storeReadComplete hup hreading hlength, readCompletes_faulty h]

theorem exec_soundImage (h : structuralFault img = none) :
    exec (.storeReadComplete img) s = .next (enterListening (handSettings img (postClamped img s))) := by
  rw [exec_storeReadComplete hup hreading hlength, readCompletes_sound h]

end Verdict

/-- Settles O8: each check is one test of structuralFault, made where those before it have passed. -/
theorem firstFailingImageCheckDecides : Obligations.FirstFailingImageCheckDecides := by
  intro img s hup hreading hlength failed b kind links sum sumOk formatOk stationOk badSection singles adjacent result
  have hfailed {cause : FaultCause} {detail : Nat} (h : structuralFault img = some (cause, detail)) :
      result = failed cause detail :=
    (exec_faultyImage hup hreading hlength h).trans (congrArg _ (loadFails_eq cause detail s))
  have hbad (i : Nat) : badSection i ↔ sectionAtFault img i = true := (sectionAtFault_iff img i).symm
  have hbeside (i : Nat) : adjacent i ↔ adjacentSingle img i = true := (adjacentSingle_iff img i).symm
  simp only [hbad, hbeside]
  refine ⟨fun hsum => hfailed (structuralFault_sum hsum),
    fun hsum hformat => hfailed (structuralFault_format hsum hformat),
    fun hsum hformat hstation => hfailed (structuralFault_station hsum hformat hstation),
    fun hsum hformat hstation => ?_⟩
  have htable : structuralFault img = tableFault img := structuralFault_eq_tableFault hsum hformat hstation
  refine ⟨fun i hi hfault hlow => hfailed (htable.trans (tableFault_sec hi hfault hlow)),
    fun hsections => ⟨fun hmany => hfailed (htable.trans (tableFault_singleCount hsections hmany)), fun hfew => ?_⟩⟩
  refine ⟨fun i hi hfault hlow => hfailed (htable.trans (tableFault_singleAdjacent hsections hfew hi hfault hlow)),
    fun hnone => ?_⟩
  have hsound := exec_soundImage hup hreading hlength (htable.trans (tableFault_none hsections hfew hnone))
  refine ⟨_, hsound, ?_⟩
  rw [enterListening_node]
  exact ⟨rfl, rfl⟩

end Sys2Proof.Proofs
end

section
/-! PROOFS. The node mode after the load (R191 to R195): into RUNNING, the park test, and out of PARKED. -/

namespace Sys2Proof.Proofs

open Sys2Proof.Machine Sys2Proof.Laws

/-! ## RUNNING (R131, R191, R192) -/

/-- CLM checks no position in a node that has none (R109). -/
theorem positionCheck_noFix {s : State} (h : s.pos.record.validity = .none) (before move : Option Nat) :
    positionCheck before move s = s :=
  if_neg fun hfix => hfix.2 h

theorem exec_listenTimer {s : State} (hup : s.held = false) (hmode : s.node.mode = .listening)
    (hruns : s.node.listenTimer.isSome) : exec .listenTimer s = .next (enterRunning s) :=
  (whileUp_up hup _).trans (congrArg _ (if_pos ⟨hmode, hruns⟩))

/-- The node in RUNNING, before CLM has made its check. -/
def running (s : State) : State := { s with
  node := { s.node with mode := .running, listenTimer := none }
  gov := { s.gov with timer := some 20 } }

/-- CLM's check changes its own state and messages alone. -/
theorem enterRunning_frame_clm (s : State) : blank footClm (enterRunning s) = blank footClm (running s) :=
  positionCheck_frame rfl none none (running s)

theorem enterRunning_node (s : State) : (enterRunning s).node = (running s).node :=
  blank_node (enterRunning_frame_clm s) rfl

theorem enterRunning_gov (s : State) : (enterRunning s).gov = (running s).gov :=
  blank_gov (enterRunning_frame_clm s) rfl

theorem enterRunning_trl (s : State) : (enterRunning s).trl = s.trl :=
  blank_trl (s := running s) (enterRunning_frame_clm s) rfl

theorem enterRunning_eq (s : State) : enterRunning s = { s with
    node := (enterRunning s).node
    gov := (enterRunning s).gov
    clm := (enterRunning s).clm
    mail := (enterRunning s).mail
    draws := (enterRunning s).draws } := by
  rw [enterRunning_node, enterRunning_gov]
  exact eq_of_blank_footClm (enterRunning_frame_clm s)

theorem enterRunning_noFix {s : State} (h : s.pos.record.validity = .none) : enterRunning s = running s :=
  positionCheck_noFix (s := running s) h none none

/-! ## The park test (R193, R194) -/

theorem own_any_iff (o : OwnCauses) :
    o.any = true ↔ o.trailerLoss = true ∨ o.standoff = true ∨ o.intrusion = true := by
  simp [OwnCauses.any, or_assoc]

/-- The halt set is empty without an own entry and without a foreign one (R93). -/
theorem haltSetEmpty_iff_own (c : Cvy) : haltSetEmpty c = true ↔
    ¬((c.own.trailerLoss = true ∨ c.own.standoff = true ∨ c.own.intrusion = true) ∨ c.foreign ≠ []) := by
  rw [haltSetEmpty_iff, or_assoc, or_assoc]

theorem throttleCentred_iff (s : State) : throttleCentred s = true ↔
    s.node.settings.centreTrim - s.node.settings.deadband ≤ s.drv.throttleWidth ∧
      s.drv.throttleWidth ≤ s.node.settings.centreTrim + s.node.settings.deadband := by
  simp [throttleCentred]

theorem claimsAnything_iff (s : State) : claimsAnything s = true ↔ ∃ e ∈ s.clm.entries, e.state ≠ .none := by
  simp [claimsAnything]

section ParkTest

variable {s : State}

theorem parkTest_moving (h : s.gov.speed ≠ 0 ∨ s.pos.speed ≠ 0) : parkTest s = refusePark .moving s := if_pos h

variable (hstill : ¬(s.gov.speed ≠ 0 ∨ s.pos.speed ≠ 0))
include hstill

theorem parkTest_halted (h : ¬haltSetEmpty s.cvy = true) : parkTest s = sendGesture s := by
  rw [parkTest, if_neg hstill, if_pos h]

variable (hempty : haltSetEmpty s.cvy = true)
include hempty

theorem parkTest_failsafe (h : s.drv.failsafe = true) : parkTest s = refusePark .failsafe s := by
  rw [parkTest, if_neg hstill, if_neg (not_not.mpr hempty), if_pos h]

variable (hsafe : s.drv.failsafe = false)
include hsafe

theorem parkTest_throttle (h : ¬throttleCentred s = true) : parkTest s = refusePark .throttle s := by
  rw [parkTest, if_neg hstill, if_neg (not_not.mpr hempty), if_neg (by rw [hsafe]; decide), if_pos h]

variable (hcentred : throttleCentred s = true)
include hcentred

theorem parkTest_claim (h : claimsAnything s = true) : parkTest s = refusePark .claim s := by
  rw [parkTest, if_neg hstill, if_neg (not_not.mpr hempty), if_neg (by rw [hsafe]; decide),
    if_neg (not_not.mpr hcentred), if_pos h]

theorem parkTest_parks (h : ¬claimsAnything s = true) : parkTest s = enterParked s := by
  rw [parkTest, if_neg hstill, if_neg (not_not.mpr hempty), if_neg (by rw [hsafe]; decide),
    if_neg (not_not.mpr hcentred), if_neg h]

end ParkTest

/-! ## Out of PARKED (R55, R171, R195) -/

/-- The node as it leaves PARKED, before it enters RUNNING: the beacon timer re-armed with a jitter draw alone,
and the cycle timer shortened. -/
def unparked (s : State) : State :=
  let r := drawRegister (s.air.generator.getD 0)
  { s with
    trl := { s.trl with timer := s.trl.timer.map (min 200) }
    air := { s.air with generator := s.air.generator.map (fun _ => r), beacon := some (drawValue r 15) } }

theorem leaveParked_eq (s : State) : leaveParked s = enterRunning (unparked s) := by
  unfold leaveParked armBeacon draw
  simp only [Nat.zero_add]
  rfl

theorem leaveParked_node (s : State) : (leaveParked s).node = (running s).node := by
  rw [leaveParked_eq, enterRunning_node]
  rfl

theorem leaveParked_gov (s : State) : (leaveParked s).gov = (running s).gov := by
  rw [leaveParked_eq, enterRunning_gov]
  rfl

theorem leaveParked_trl (s : State) : (leaveParked s).trl = (unparked s).trl := by
  rw [leaveParked_eq, enterRunning_trl]

theorem leaveParked_air (s : State) : (leaveParked s).air = (unparked s).air := by
  rw [leaveParked_eq, enterRunning_air]

/-- Leaving PARKED is the check of the position in the state with the change of mode made. -/
theorem leaveParked_check (s : State) : leaveParked s = positionCheck none none { s with
    node := (leaveParked s).node
    gov := (leaveParked s).gov
    trl := (leaveParked s).trl
    air := (leaveParked s).air } := by
  rw [leaveParked_node, leaveParked_gov, leaveParked_trl, leaveParked_air, leaveParked_eq]
  rfl

theorem leaveParked_changes (s : State) : leaveParked s = { s with
    node := (leaveParked s).node
    gov := (leaveParked s).gov
    clm := (leaveParked s).clm
    trl := (leaveParked s).trl
    mail := (leaveParked s).mail
    draws := (leaveParked s).draws
    air := (leaveParked s).air } := by
  rw [leaveParked_trl, leaveParked_air, leaveParked_eq]
  exact enterRunning_eq (unparked s)

/-- The generator makes one draw, and the beacon timer gets its value (R55, R58). -/
theorem unparked_seeded {s : State} {r : BitVec 16} (h : s.air.generator = some r) :
    (unparked s).air.generator = some (generatorSteps 8 r) ∧
      (unparked s).air.beacon = some (generatorSteps 8 r &&& 15#16).toNat := by
  simp only [unparked, h]
  exact ⟨rfl, rfl⟩

theorem drawValue_le (r : BitVec 16) : drawValue r 15 ≤ 15 := by
  rw [drawValue, BitVec.toNat_and]
  exact Nat.and_le_right

/-! ## The function change (R193, R195) -/

section Change

variable {s : State} {c : FnChange} {rest : List FnChange} (hup : s.held = false)
  (hchange : s.mail.nodeChanges = c :: rest)
include hup hchange

/-- The change is taken from its queue, and NODE acts on it. -/
theorem exec_nodeFunctionChange : exec .nodeFunctionChange s =
    .next (nodeChange c (s.setMail { s.mail with nodeChanges := rest })) := by
  refine (whileUp_up hup _).trans (congrArg _ ?_)
  rw [nodeTakesChange, hchange]

theorem exec_nodeChange_parks (hmode : s.node.mode = .running) (hpark : c.new = .park) :
    exec .nodeFunctionChange s = .next (parkTest (s.setMail { s.mail with nodeChanges := rest })) := by
  rw [exec_nodeFunctionChange hup hchange, nodeChange, State.setMail_node, hmode]
  exact congrArg _ (if_pos hpark)

theorem exec_nodeChange_unparks (hmode : s.node.mode = .parked) (hpark : c.new ≠ .park) :
    exec .nodeFunctionChange s = .next (leaveParked (s.setMail { s.mail with nodeChanges := rest })) := by
  rw [exec_nodeFunctionChange hup hchange, nodeChange, State.setMail_node, hmode]
  exact congrArg _ (if_pos hpark)

/-- Any other change is taken without action (R193). -/
theorem exec_nodeChange_idle (h : (s.node.mode = .running ∧ c.new ≠ .park) ∨
      (s.node.mode = .parked ∧ c.new = .park) ∨
      s.node.mode = .starting ∨ s.node.mode = .unconfigured ∨ s.node.mode = .listening) :
    exec .nodeFunctionChange s = .next (s.setMail { s.mail with nodeChanges := rest }) := by
  rw [exec_nodeFunctionChange hup hchange, nodeChange, State.setMail_node]
  rcases h with ⟨hmode, hnew⟩ | ⟨hmode, hnew⟩ | hmode | hmode | hmode
  · rw [hmode]
    exact congrArg _ (if_neg hnew)
  · rw [hmode]
    exact congrArg _ (if_neg (not_not.mpr hnew))
  all_goals rw [hmode]

end Change

/-- Settles O11: RUNNING is entered by one check of the position, the park test refuses for its first reason, and a
change that asks for nothing is only taken. -/
theorem listenAndParkChangeTheMode : Obligations.ListenAndParkChangeTheMode := by
  refine ⟨fun s hup hmode hruns => ?listen, fun s c rest hup hchange => ?change⟩
  case listen =>
    refine ⟨_, exec_listenTimer hup hmode hruns, rfl, enterRunning_node s, enterRunning_gov s, enterRunning_eq s,
      fun hnoFix => ?_⟩
    rw [enterRunning_noFix hnoFix]
    exact ⟨rfl, rfl, rfl⟩
  case change =>
    intro taken refused g moving ownStands halted centred claimed result
    refine ⟨fun hmode hpark => ?park, fun hmode hpark => ?unpark, exec_nodeChange_idle hup hchange⟩
    case park =>
      let u : State := s.setMail taken
      have hresult {t : State} (h : parkTest u = t) : result = .next t :=
        (exec_nodeChange_parks hup hchange hmode hpark).trans (congrArg _ h)
      have hempty (h : ¬halted) : haltSetEmpty u.cvy = true := (haltSetEmpty_iff_own s.cvy).mpr h
      refine ⟨fun h => hresult (parkTest_moving h), fun hstill h n own hown hn => ?halted,
        fun hstill hhalt h => hresult (parkTest_failsafe hstill (hempty hhalt) h),
        fun hstill hhalt hsafe h =>
          hresult (parkTest_throttle hstill (hempty hhalt) hsafe (mt (throttleCentred_iff u).mp h)),
        fun hstill hhalt hsafe hcentred h => hresult (parkTest_claim hstill (hempty hhalt) hsafe
          ((throttleCentred_iff u).mpr hcentred) ((claimsAnything_iff u).mpr h)),
        fun hstill hhalt hsafe hcentred h => hresult (parkTest_parks hstill (hempty hhalt) hsafe
          ((throttleCentred_iff u).mpr hcentred) (mt (claimsAnything_iff u).mp h))⟩
      have hfull : ¬haltSetEmpty u.cvy = true := fun hnone => (haltSetEmpty_iff_own s.cvy).mp hnone h
      have hany : s.cvy.own.any = own := Bool.eq_iff_iff.mpr ((own_any_iff _).trans hown.symm)
      subst hn hany
      exact hresult (parkTest_halted hstill hfull)
    case unpark =>
      let u : State := s.setMail taken
      have hair := leaveParked_air u
      refine ⟨_, exec_nodeChange_unparks hup hchange hmode hpark, leaveParked_node u, leaveParked_gov u,
        ⟨_, drawValue_le (drawRegister (s.air.generator.getD 0)), congrArg Air.beacon hair⟩,
        fun r hr => ?draw, leaveParked_check u, fun hnoFix => ?noFix, leaveParked_trl u, ?air,
        leaveParked_changes u⟩
      case draw =>
        rw [hair]
        exact unparked_seeded hr
      case noFix =>
        rw [leaveParked_eq, enterRunning_noFix (s := unparked u) hnoFix]
        exact ⟨rfl, rfl, rfl⟩
      case air =>
        rw [hair]
        rfl

end Sys2Proof.Proofs
end

section
/-! PROOFS. Every command: which of them are answered, which act while the node is held in reset, and that none
reaches the queue of commands (R184; assumption log 15, 16). -/

namespace Sys2Proof.Proofs

open Sys2Proof.Machine Sys2Proof.Laws

/-! ## Guarded commands (R184) -/

/-- The commands that act on a node held in reset: the ends of the hold, the end of the motor pulse, and what
happens outside the node (assumption log 15). -/
inductive ActsWhileHeld : Instr → Prop
  | powerOn : ActsWhileHeld .powerOn
  | supplyBelowDipThreshold : ActsWhileHeld .supplyBelowDipThreshold
  | supplyDip (lineHeld : Bool) : ActsWhileHeld (.supplyDip lineHeld)
  | motorPulseEnd : ActsWhileHeld .motorPulseEnd
  | carrierAppears : ActsWhileHeld .carrierAppears
  | carrierAbsent : ActsWhileHeld .carrierAbsent
  | tagGainsLine (gain : TagGain) : ActsWhileHeld (.tagGainsLine gain)
  | tagLosesLine (place : Nat) : ActsWhileHeld (.tagLosesLine place)

/-- A trailer that can have been built gains the line in every state. -/
theorem exec_tagGainsLine_answers {gain : TagGain} (h : (Instr.tagGainsLine gain).wellFormed = true) (s : State) :
    ∃ t, exec (.tagGainsLine gain) s = .next t :=
  ⟨_, if_pos h⟩

/-- The meaning of every other command that names an event is guarded by the hold. -/
theorem exec_guarded {c : Instr} (hwf : c.wellFormed = true) (hc : ¬ActsWhileHeld c) :
    ∃ f, ∀ s, exec c s = whileUp s f := by
  cases c with
  | powerOn => exact absurd .powerOn hc
  | supplyBelowDipThreshold => exact absurd .supplyBelowDipThreshold hc
  | supplyDip lineHeld => exact absurd (.supplyDip lineHeld) hc
  | motorPulseEnd => exact absurd .motorPulseEnd hc
  | carrierAppears => exact absurd .carrierAppears hc
  | carrierAbsent => exact absurd .carrierAbsent hc
  | tagGainsLine gain => exact absurd (.tagGainsLine gain) hc
  | tagLosesLine place => exact absurd (.tagLosesLine place) hc
  | storeReadComplete image => exact ⟨_, fun _ => if_pos hwf⟩
  | _ => exact ⟨_, fun _ => rfl⟩

theorem exec_answers {c : Instr} (hwf : c.wellFormed = true) (s : State) : ∃ t, exec c s = .next t := by
  by_cases hc : ActsWhileHeld c
  · cases hc with
    | tagGainsLine gain => exact exec_tagGainsLine_answers hwf s
    | _ => exact ⟨_, rfl⟩
  · obtain ⟨f, hf⟩ := exec_guarded hwf hc
    rw [hf]
    exact whileUp_answers s f

/-- Settles O3: the commands that act while the node is held are those the statement leaves out. -/
theorem heldNodeTakesNoEvent : Obligations.HeldNodeTakesNoEvent := by
  intro c s hheld hwf hpower hbelow hdip hpulse happears habsent hgains hloses
  have hc : ¬ActsWhileHeld c := by
    rintro (_ | _ | lineHeld | _ | _ | _ | gain | place)
    · exact hpower rfl
    · exact hbelow rfl
    · exact hdip lineHeld rfl
    · exact hpulse rfl
    · exact happears rfl
    · exact habsent rfl
    · exact hgains gain rfl
    · exact hloses place rfl
  obtain ⟨f, hf⟩ := exec_guarded hwf hc
  rw [hf]
  exact whileUp_held hheld f

/-! ## Operands that name no event (assumption log 16) -/

theorem exec_storeReadComplete_refused {img : List Byte} (h : img.length ≠ 421) (s : State) :
    exec (.storeReadComplete img) s = .refused (.illFormed "STORE_READ_COMPLETE") :=
  if_neg (by simp [Instr.wellFormed, Config.imageBytes, h])

theorem exec_tagGainsLine_refused {r : TagRecord} (h : ¬(100 ≤ r.length ∧ r.length ≤ 1500)) (s : State) :
    exec (.tagGainsLine (.hitched r)) s = .refused (.illFormed "TAG_GAINS_LINE") :=
  if_neg (by simpa [Instr.wellFormed, TagRecord.wellFormed] using h)

/-! ## The queue of commands -/

/-- Everything but the queue of commands. -/
abbrev footCommand : Foot :=
  { held := true, time := true, pos := true, air := true, peer := true, cvy := true, clm := true, gov := true,
    drv := true, trl := true, line := true, node := true, journal := true, counters := true, service := true,
    mail := true, draws := true }

theorem serviceRestart_frame (s : State) : blank footCommand (serviceRestart s) = blank footCommand s := by
  unfold serviceRestart
  split
  · rw [resetNode_abandonAssign]
    rfl
  · rfl

/-- No command reaches the queue: the resets by what they leave, the others by their footprints. -/
theorem exec_frame {c : Instr} {s t : State} (e : exec c s = .next t) : blank footCommand t = blank footCommand s := by
  cases c with
  | powerOn => cases e; rfl
  | supplyBelowDipThreshold => rw [exec_supplyBelowDipThreshold] at e; cases e; rfl
  | supplyDip lineHeld => rw [exec_supplyDip] at e; cases e; rfl
  | serviceRestart => exact whileUp_frame serviceRestart_frame e
  | loadRetry => exact execLoadRetry_frame rfl e
  | storeNoAck => exact execStoreNoAck_frame rfl e
  | storeByteTimeout => exact execStoreByteTimeout_frame rfl e
  | storeReadComplete image => exact execStoreReadComplete_frame rfl image e
  | listenTimer => exact execListenTimer_frame rfl e
  | tagRead tag => exact execTagRead_frame rfl tag e
  | wheelPulse => exact execWheelPulse_frame rfl e
  | binTimer => exact execBinTimer_frame rfl e
  | receiveByte start byte => exact execReceiveByte_frame rfl start byte e
  | byteGapTimeout => exact execByteGapTimeout_frame rfl e
  | peerTakesPosition => exact execPeerTakesPosition_frame rfl e
  | peerSweep => exact execPeerSweep_frame rfl e
  | cvyTakesPosition => exact execCvyTakesPosition_frame rfl e
  | cvyTakesHalt => exact execCvyTakesHalt_frame rfl e
  | cvyTakesResume => exact execCvyTakesResume_frame rfl e
  | cvySweep => exact execCvySweep_frame rfl e
  | cvyFunctionChange => exact execCvyFunctionChange_frame rfl e
  | ownCauseAdd source => exact execOwnCauseAdd_frame rfl source e
  | ownCauseRemove source => exact execOwnCauseRemove_frame rfl source e
  | acknowledgeGesture => exact execAcknowledgeGesture_frame rfl e
  | cvyHaltNotice => exact execCvyHaltNotice_frame rfl e
  | clmTakesPosition => exact execClmTakesPosition_frame rfl e
  | clmTakesClaim => exact execClmTakesClaim_frame rfl e
  | clmTakesRelease => exact execClmTakesRelease_frame rfl e
  | clmSweep => exact execClmSweep_frame rfl e
  | claimWindow sec => exact execClaimWindow_frame rfl sec e
  | clmClaimNotice => exact execClmClaimNotice_frame rfl e
  | clmReleaseNotice => exact execClmReleaseNotice_frame rfl e
  | addRequest slot => exact execAddRequest_frame rfl slot e
  | releaseAddRequest => exact execReleaseAddRequest_frame rfl e
  | positionAddRequest => exact execPositionAddRequest_frame rfl e
  | cancelRequest slot => exact execCancelRequest_frame rfl slot e
  | beaconTimer => exact execBeaconTimer_frame rfl e
  | beaconNotice => exact execBeaconNotice_frame rfl e
  | carrierAppears => exact execCarrierAppears_frame rfl e
  | carrierAbsent => exact execCarrierAbsent_frame rfl e
  | quietTimer => exact execQuietTimer_frame rfl e
  | countdownTick => exact execCountdownTick_frame rfl e
  | doneSignal => exact execDoneSignal_frame rfl e
  | transceiverTimeout => exact execTransceiverTimeout_frame rfl e
  | governorUpdate => exact execGovernorUpdate_frame rfl e
  | frameTimer => exact execFrameTimer_frame rfl e
  | motorPulseEnd => exact execMotorPulseEnd_frame rfl e
  | throttlePulse width => exact execThrottlePulse_frame rfl width e
  | silenceTimer => exact execSilenceTimer_frame rfl e
  | functionPulse width => exact execFunctionPulse_frame rfl width e
  | functionSilenceTimer => exact execFunctionSilenceTimer_frame rfl e
  | nodeFunctionChange => exact execNodeFunctionChange_frame rfl e
  | cycleTimer => exact execCycleTimer_frame rfl e
  | poll r => exact execPoll_frame rfl r e
  | discovery r => exact execDiscovery_frame rfl r e
  | assign r => exact execAssign_frame rfl r e
  | journalPost block => exact execJournalPost_frame rfl block e
  | status => exact execStatus_frame rfl e
  | peers => exact execPeers_frame rfl e
  | claims => exact execClaims_frame rfl e
  | roster => exact execRoster_frame rfl e
  | trailers => exact execTrailers_frame rfl e
  | journal => exact execJournal_frame rfl e
  | counters => exact execCounters_frame rfl e
  | ack index => exact execAck_frame rfl index e
  | clearCounters => exact execClearCounters_frame rfl e
  | restart => exact execRestart_frame rfl e
  | unknown => exact execUnknown_frame rfl e
  | busy => exact execBusy_frame rfl e
  | tagGainsLine gain => exact execTagGainsLine_frame rfl gain e
  | tagLosesLine place => exact execTagLosesLine_frame rfl place e
  | answerEnded => exact execAnswerEnded_frame rfl e

theorem exec_pending {c : Instr} {s t : State} (e : exec c s = .next t) : t.pending = s.pending :=
  blank_pending (exec_frame e) rfl

end Sys2Proof.Proofs
end

section
/-! PROOFS. The step on an empty queue (assumption log 10): what has come due, sorted by what it comes from, and the
millisecond that passes with none due. -/

namespace Sys2Proof.Proofs

open Sys2Proof.Machine

/-! ## What a due command comes from -/

/-- The sources of the commands that the node itself puts into its queue. -/
inductive Source
  | pulse | timer | window | post | request | haltNotice | releaseNotice | claimNotice | positionNotice
  | cause (src : CauseSource)
  | cvyChange | nodeChange | gesture | peerQueue | cvyQueue | clmQueue

/-- The sources, in the order in which the idle node asks them. -/
def sources : List Source :=
  [.pulse, .timer, .window, .post, .request, .haltNotice, .releaseNotice, .claimNotice, .positionNotice,
    .cause .trl, .cause .clm, .cvyChange, .nodeChange, .gesture, .peerQueue, .cvyQueue, .clmQueue]

/-- The source of a command; none for what comes from outside the node or needs no waiting. -/
def sourceOf : Instr → Option Source
  | .motorPulseEnd => some .pulse
  | .loadRetry | .listenTimer | .binTimer | .byteGapTimeout | .peerSweep | .cvySweep | .clmSweep | .beaconTimer
  | .quietTimer | .countdownTick | .transceiverTimeout | .governorUpdate | .frameTimer | .silenceTimer
  | .functionSilenceTimer | .cycleTimer => some .timer
  | .claimWindow _ => some .window
  | .journalPost _ => some .post
  | .addRequest _ | .releaseAddRequest | .positionAddRequest | .cancelRequest _ => some .request
  | .cvyHaltNotice => some .haltNotice
  | .clmReleaseNotice => some .releaseNotice
  | .clmClaimNotice => some .claimNotice
  | .beaconNotice => some .positionNotice
  | .ownCauseAdd src | .ownCauseRemove src => some (.cause src)
  | .cvyFunctionChange => some .cvyChange
  | .nodeFunctionChange => some .nodeChange
  | .acknowledgeGesture => some .gesture
  | .peerTakesPosition => some .peerQueue
  | .cvyTakesPosition | .cvyTakesHalt | .cvyTakesResume => some .cvyQueue
  | .clmTakesPosition | .clmTakesClaim | .clmTakesRelease => some .clmQueue
  | _ => none

/-- What is due from one source. -/
def dueFrom (s : State) : Source → List Instr
  | .pulse => pulseCommands s
  | .timer => timerCommands s
  | .window => windowCommands s
  | .post => (s.mail.posts.head?.map (fun p => Instr.journalPost p.block)).toList
  | .request => slotOrder.filterMap (fun id => (requestsOf s.mail id).head?.map (requestCommand id))
  | .haltNotice => (s.mail.haltNotices.head?.map (fun _ => Instr.cvyHaltNotice)).toList
  | .releaseNotice => (s.mail.releaseNotices.head?.map (fun _ => Instr.clmReleaseNotice)).toList
  | .claimNotice => (s.mail.claimNotices.head?.map (fun _ => Instr.clmClaimNotice)).toList
  | .positionNotice => (s.mail.positionNotices.head?.map (fun _ => Instr.beaconNotice)).toList
  | .cause src => ((causesOf s.mail src).head?.map (causeCommand src)).toList
  | .cvyChange => (s.mail.cvyChanges.head?.map (fun _ => Instr.cvyFunctionChange)).toList
  | .nodeChange => (s.mail.nodeChanges.head?.map (fun _ => Instr.nodeFunctionChange)).toList
  | .gesture => if s.mail.gestures = 0 then [] else [.acknowledgeGesture]
  | .peerQueue => (s.air.peerQueue.head?.map (fun _ => Instr.peerTakesPosition)).toList
  | .cvyQueue => (s.air.cvyQueue.head?.bind cvyCommand).toList
  | .clmQueue => (s.air.clmQueue.head?.bind clmCommand).toList

theorem mem_sources (o : Source) : o ∈ sources := by
  rcases o with _ | _ | _ | _ | _ | _ | _ | _ | _ | src | _ | _ | _ | _ | _ | _
  case cause => cases src <;> simp [sources]
  all_goals simp [sources]

/-- A node whose supply is up asks every source. -/
theorem dueCommands_eq {s : State} (hup : s.held = false) : dueCommands s = sources.flatMap (dueFrom s) := by
  simp only [dueCommands, hup, mailCommands, sources, List.flatMap_cons, List.flatMap_nil, List.append_assoc,
    List.append_nil]
  rfl

/-! ## One oldest element -/

section Oldest

variable {α : Type} {queue : List α}

theorem mem_oldest {f : α → Instr} {c : Instr} :
    c ∈ (queue.head?.map f).toList ↔ ∃ x rest, queue = x :: rest ∧ f x = c := by
  cases queue <;> simp [eq_comm]

/-- Whatever waits is taken by the one command. -/
theorem mem_oldest_const {c : Instr} : c ∈ (queue.head?.map (fun _ => c)).toList ↔ queue ≠ [] := by
  cases queue <;> simp

theorem mem_oldest_some {f : α → Option Instr} {c : Instr} :
    c ∈ (queue.head?.bind f).toList ↔ ∃ x rest, queue = x :: rest ∧ f x = some c := by
  cases queue <;> simp

end Oldest

/-! ## Each source (R43, R95, R112, R163) -/

theorem mem_pulseCommands {s : State} {c : Instr} :
    c ∈ pulseCommands s ↔ c = .motorPulseEnd ∧ ∃ p, s.drv.emitting = some p ∧ p.left = 0 := by
  simp [pulseCommands, Option.any_eq_true, and_comm]

theorem mem_timerCommands {s : State} {c : Instr} : c ∈ timerCommands s ↔ (some 0, c) ∈ timers s := by
  simp [timerCommands, isDue]

/-- Each timer has its own command, so a command is due exactly when its timer has run down. -/
theorem mem_timerCommands_of_timer {s : State} {x : Timer × Instr} (h : x ∈ timers s) :
    x.2 ∈ timerCommands s ↔ x.1 = some 0 := by
  have hnodup : ((timers s).map Prod.snd).Nodup := by simp [timers]
  rw [mem_timerCommands]
  refine ⟨fun hdue => ?_, fun hzero => hzero ▸ h⟩
  exact congrArg Prod.fst (List.inj_on_of_nodup_map hnodup h hdue rfl)

theorem mem_windowCommands {s : State} {c : Instr} : c ∈ windowCommands s ↔ ∃ e ∈ s.clm.entries,
    (e.state = .claiming ∧ ∃ w, e.window = some w ∧ w.expiry = s.time) ∧ .claimWindow e.sec = c := by
  simp [windowCommands, Option.any_eq_true]

/-- The command by which a slot takes an add request (R43). -/
def addCommand (id : SlotId) : Instr := requestCommand id (.add .position)

theorem mem_requests {s : State} {c : Instr} : c ∈ dueFrom s .request ↔
    ∃ id r rest, requestsOf s.mail id = r :: rest ∧ requestCommand id r = c := by
  have hoption {id : SlotId} : (requestsOf s.mail id).head?.map (requestCommand id) = some c ↔
      ∃ r rest, requestsOf s.mail id = r :: rest ∧ requestCommand id r = c := by
    rw [← Option.mem_toList, mem_oldest]
  have hevery (id : SlotId) : id ∈ slotOrder := by cases id <;> simp [slotOrder]
  simp only [dueFrom, List.mem_filterMap, hoption, hevery, true_and]

theorem mem_requests_cancel {s : State} {id : SlotId} :
    .cancelRequest id ∈ dueFrom s .request ↔ ∃ rest, requestsOf s.mail id = .cancel :: rest := by
  rw [mem_requests]
  constructor
  · rintro ⟨j, r | _, rest, hqueue, hc⟩
    · cases j <;> nomatch hc
    · cases hc
      exact ⟨rest, hqueue⟩
  · rintro ⟨rest, hqueue⟩
    exact ⟨id, .cancel, rest, hqueue, rfl⟩

/-- Each slot takes its add requests by a command of its own. -/
theorem mem_requests_add {s : State} {id : SlotId} :
    addCommand id ∈ dueFrom s .request ↔ ∃ c rest, requestsOf s.mail id = .add c :: rest := by
  rw [mem_requests]
  constructor
  · rintro ⟨j, c | _, rest, hqueue, hc⟩
    · have hslot : j = id := by
        revert hc
        cases j <;> cases id <;> simp [requestCommand, addCommand]
      exact ⟨c, rest, hslot ▸ hqueue⟩
    · cases id <;> nomatch hc
  · rintro ⟨c, rest, hqueue⟩
    exact ⟨id, .add c, rest, hqueue, by cases id <;> rfl⟩

theorem mem_causes {s : State} {src : CauseSource} {c : Instr} : c ∈ dueFrom s (.cause src) ↔
    ∃ r rest, causesOf s.mail src = r :: rest ∧ causeCommand src r = c :=
  mem_oldest

theorem causeCommand_add (src : CauseSource) (r : CauseRequest) :
    causeCommand src r = .ownCauseAdd src ↔ r.add = true := by
  simp [causeCommand]

theorem causeCommand_remove (src : CauseSource) (r : CauseRequest) :
    causeCommand src r = .ownCauseRemove src ↔ r.add = false := by
  simp [causeCommand]

theorem mem_gesture {s : State} {c : Instr} :
    c ∈ dueFrom s .gesture ↔ c = .acknowledgeGesture ∧ s.mail.gestures ≠ 0 := by
  simp only [dueFrom]
  split <;> simp_all

/-! ## Telegrams for their owners (R36) -/

section Telegrams

variable (r : Received)

theorem cvyCommand_position : cvyCommand r = some .cvyTakesPosition ↔ ∃ b, r.telegram.matter = .position b := by
  unfold cvyCommand
  split <;> simp_all

theorem cvyCommand_halt : cvyCommand r = some .cvyTakesHalt ↔ ∃ c, r.telegram.matter = .halt c := by
  unfold cvyCommand
  split <;> simp_all

theorem cvyCommand_resume : cvyCommand r = some .cvyTakesResume ↔ r.telegram.matter = .resume := by
  unfold cvyCommand
  split <;> simp_all

theorem clmCommand_position : clmCommand r = some .clmTakesPosition ↔ ∃ b, r.telegram.matter = .position b := by
  unfold clmCommand
  split <;> simp_all

theorem clmCommand_claim :
    clmCommand r = some .clmTakesClaim ↔ ∃ a d w n, r.telegram.matter = .claim a d w n := by
  unfold clmCommand
  split <;> simp_all

theorem clmCommand_release : clmCommand r = some .clmTakesRelease ↔ ∃ l, r.telegram.matter = .release l := by
  unfold clmCommand
  split <;> simp_all

end Telegrams

/-! ## The source of a due command -/

theorem sourceOf_requestCommand (id : SlotId) (r : Request) : sourceOf (requestCommand id r) = some .request := by
  cases r with
  | add c => cases id <;> rfl
  | cancel => rfl

theorem sourceOf_causeCommand (src : CauseSource) (r : CauseRequest) :
    sourceOf (causeCommand src r) = some (.cause src) := by
  unfold causeCommand
  split <;> rfl

theorem sourceOf_timer {s : State} {x : Timer × Instr} (h : x ∈ timers s) : sourceOf x.2 = some .timer := by
  have hevery : ∀ y ∈ timers s, sourceOf y.2 = some .timer := by simp [timers, sourceOf]
  exact hevery x h

theorem sourceOf_cvyCommand {r : Received} {c : Instr} (h : cvyCommand r = some c) : sourceOf c = some .cvyQueue := by
  unfold cvyCommand at h
  split at h <;> cases h <;> rfl

theorem sourceOf_clmCommand {r : Received} {c : Instr} (h : clmCommand r = some c) : sourceOf c = some .clmQueue := by
  unfold clmCommand at h
  split at h <;> cases h <;> rfl

/-- What is due from a source is a command of that source. -/
theorem sourceOf_dueFrom {s : State} {o : Source} {c : Instr} (h : c ∈ dueFrom s o) : sourceOf c = some o := by
  have hoption {α : Type} {queue : List α} {f : α → Instr} (hf : ∀ x, sourceOf (f x) = some o)
      (hc : c ∈ (queue.head?.map f).toList) : sourceOf c = some o := by
    obtain ⟨x, -, -, rfl⟩ := mem_oldest.mp hc
    exact hf x
  cases o with
  | pulse =>
    obtain ⟨rfl, -⟩ := mem_pulseCommands.mp h
    rfl
  | timer => exact sourceOf_timer (mem_timerCommands.mp h)
  | window =>
    obtain ⟨e, -, -, rfl⟩ := mem_windowCommands.mp h
    rfl
  | request =>
    obtain ⟨id, r, -, -, rfl⟩ := mem_requests.mp h
    exact sourceOf_requestCommand id r
  | cause src => exact hoption (sourceOf_causeCommand src) h
  | gesture =>
    obtain ⟨rfl, -⟩ := mem_gesture.mp h
    rfl
  | cvyQueue =>
    obtain ⟨r, -, -, hr⟩ := mem_oldest_some.mp h
    exact sourceOf_cvyCommand hr
  | clmQueue =>
    obtain ⟨r, -, -, hr⟩ := mem_oldest_some.mp h
    exact sourceOf_clmCommand hr
  | _ => exact hoption (fun _ => rfl) h

section Due

variable {s : State} (hup : s.held = false) {c : Instr}
include hup

/-- A command is due when its source has it due. -/
theorem mem_dueCommands {o : Source} (ho : sourceOf c = some o) : c ∈ dueCommands s ↔ c ∈ dueFrom s o := by
  rw [dueCommands_eq hup, List.mem_flatMap]
  refine ⟨fun ⟨p, _, hp⟩ => ?_, fun h => ⟨o, mem_sources o, h⟩⟩
  have hsame : o = p := Option.some.inj (ho.symm.trans (sourceOf_dueFrom hp))
  exact hsame ▸ hp

/-- What has no source inside the node is never due. -/
theorem not_mem_dueCommands (ho : sourceOf c = none) : c ∉ dueCommands s := by
  rw [dueCommands_eq hup, List.mem_flatMap]
  rintro ⟨p, -, hp⟩
  exact nomatch ho.symm.trans (sourceOf_dueFrom hp)

end Due

/-! ## The idle node (assumption log 10) -/

section Idle

variable {s : State}

theorem idle_due (h : dueCommands s ≠ []) : idle s = s.setPending (dueCommands s) := by
  unfold idle
  split
  · next hnone => exact absurd hnone h
  · next c cs hdue => rw [hdue]

theorem idle_notDue (h : dueCommands s = []) :
    idle s = if s.held = false ∧ popUnderWay s then popResumes s else tick s := by
  rw [idle, h]

theorem tick_pending (s : State) : (tick s).pending = s.pending := by
  unfold tick
  split <;> rfl

theorem popResumes_pending (s : State) : (popResumes s).pending = s.pending :=
  Laws.blank_pending (Laws.popResumes_frame (G := Laws.footTrl) rfl s) rfl

/-- What is due is what then waits. -/
theorem idle_pending (hempty : s.pending = []) : (idle s).pending = dueCommands s := by
  by_cases hdue : dueCommands s = []
  · rw [idle_notDue hdue, hdue]
    split
    · rw [popResumes_pending, hempty]
    · rw [tick_pending, hempty]
  · rw [idle_due hdue]
    rfl

theorem popUnderWay_false (h : ∀ k b i n, s.trl.cycle ≠ .popping k b i n) : ¬popUnderWay s = true := by
  unfold popUnderWay
  split
  · next k b i n hcycle => exact absurd hcycle (h k b i n)
  all_goals exact Bool.false_ne_true

theorem idle_tick (hdue : dueCommands s = []) (h : ∀ k b i n, s.trl.cycle ≠ .popping k b i n) : idle s = tick s := by
  rw [idle_notDue hdue, if_neg fun hpop => popUnderWay_false h hpop.2]

theorem step_idle (hempty : s.pending = []) : step s = .next (idle s) := by
  rw [step, hempty]

/-- Below the dip threshold only the end of the motor pulse can be due (R165, R184). -/
theorem dueCommands_held (hheld : s.held = true) : dueCommands s = pulseCommands s := if_pos hheld

theorem idle_held (hheld : s.held = true) (hdue : pulseCommands s = []) : idle s = s.setDrv (tickPulse s.drv) := by
  have hnot : ¬(s.held = false ∧ popUnderWay s = true) := fun hpop => nomatch hheld.symm.trans hpop.1
  rw [idle_notDue ((dueCommands_held hheld).trans hdue), if_neg hnot]
  exact if_pos hheld

end Idle

section HeldPulse

variable {s : State} (hempty : s.pending = []) (hheld : s.held = true)
include hempty hheld

theorem step_held_pulseEnds {w : Nat} (hpulse : s.drv.emitting = some ⟨w, 0⟩) :
    step s = .next (s.setPending [.motorPulseEnd]) := by
  have hdue : dueCommands s = [.motorPulseEnd] := by simp [dueCommands_held hheld, pulseCommands, hpulse]
  rw [step_idle hempty, idle_due (by simp [hdue]), hdue]

theorem step_held_pulse {w n : Nat} (hpulse : s.drv.emitting = some ⟨w, n + 1⟩) :
    step s = .next (s.setDrv { s.drv with emitting := some ⟨w, n + 1 - 1000⟩ }) := by
  rw [step_idle hempty, idle_held hheld (by simp [pulseCommands, hpulse]), tickPulse, hpulse]
  rfl

theorem step_held_quiet (hpulse : s.drv.emitting = none) : step s = .next s := by
  have hsame : tickPulse s.drv = s.drv := by
    rw [tickPulse, hpulse]
    exact congrArg (fun p => { s.drv with emitting := p }) hpulse.symm
  rw [step_idle hempty, idle_held hheld (by simp [pulseCommands, hpulse]), hsame]
  rfl

end HeldPulse

/-- Settles O2: answers by the guard of each command, the queue by its frame, and the empty queue by what each source
has due. -/
theorem commandsAnswerAndKeepTheQueue : Obligations.CommandsAnswerAndKeepTheQueue := by
  refine ⟨⟨fun c s hwf => exec_answers hwf s, fun img s h => exec_storeReadComplete_refused h s,
    fun r s h => exec_tagGainsLine_refused h s⟩, fun c s t => exec_pending, fun s hempty hup => ?idle,
    fun s hempty hheld => ⟨fun w => step_held_pulseEnds hempty hheld, fun w n => step_held_pulse hempty hheld,
      step_held_quiet hempty hheld⟩⟩
  intro m expiries takings heard less
  have hdue {c : Instr} {o : Source} (ho : sourceOf c = some o) : c ∈ (idle s).pending ↔ c ∈ dueFrom s o := by
    rw [idle_pending hempty]
    exact mem_dueCommands hup ho
  have hnone {c : Instr} (ho : sourceOf c = none) : c ∉ (idle s).pending := by
    rw [idle_pending hempty]
    exact not_mem_dueCommands hup ho
  refine ⟨idle s, step_idle hempty, fun x hx => ?expiry, ?taking, fun id => (hdue rfl).trans mem_requests_cancel,
    fun b => ?post, fun src => ⟨?add, ?remove⟩, ?telegrams, fun sec => ?window, ?pulse,
    ⟨hnone rfl, fun _ => hnone rfl, fun _ _ => hnone rfl, fun _ => hnone rfl⟩, fun hwaits => ?joins,
    fun hno hpop => ?passes⟩
  case expiry => exact (hdue (sourceOf_timer hx)).trans (mem_timerCommands_of_timer hx)
  case taking =>
    simp only [takings, List.forall_mem_cons]
    exact ⟨(hdue rfl).trans mem_oldest_const, (hdue rfl).trans mem_oldest_const, (hdue rfl).trans mem_oldest_const,
      (hdue rfl).trans mem_oldest_const, (hdue rfl).trans mem_oldest_const, (hdue rfl).trans mem_oldest_const,
      (hdue rfl).trans (mem_gesture.trans (and_iff_right rfl)), (hdue rfl).trans mem_oldest_const,
      (hdue rfl).trans (mem_requests_add (id := .release)), (hdue rfl).trans (mem_requests_add (id := .position)),
      (hdue rfl).trans (mem_requests_add (id := .claim)), (hdue rfl).trans (mem_requests_add (id := .halt)), nofun⟩
  case post =>
    refine (hdue rfl).trans (mem_oldest.trans ?_)
    simp only [Instr.journalPost.injEq]
    rfl
  case add =>
    refine (hdue rfl).trans (mem_causes.trans ?_)
    simp only [causeCommand_add]
    rfl
  case remove =>
    refine (hdue rfl).trans (mem_causes.trans ?_)
    simp only [causeCommand_remove]
    rfl
  case telegrams =>
    refine ⟨(hdue rfl).trans (mem_oldest_some.trans ?_), (hdue rfl).trans (mem_oldest_some.trans ?_),
      (hdue rfl).trans (mem_oldest_some.trans ?_), (hdue rfl).trans (mem_oldest_some.trans ?_),
      (hdue rfl).trans (mem_oldest_some.trans ?_), (hdue rfl).trans (mem_oldest_some.trans ?_)⟩
    · simp only [cvyCommand_position, heard]
    · simp only [cvyCommand_halt, heard]
    · simp only [cvyCommand_resume, heard]
    · simp only [clmCommand_position, heard]
    · simp only [clmCommand_claim, heard]
    · simp only [clmCommand_release, heard]
  case window =>
    refine (hdue rfl).trans (mem_windowCommands.trans ?_)
    simp only [Instr.claimWindow.injEq, and_comm, and_left_comm]
  case pulse => exact (hdue (o := .pulse) rfl).trans (mem_pulseCommands.trans (and_iff_right rfl))
  case joins =>
    rw [idle_pending hempty] at hwaits ⊢
    exact idle_due hwaits
  case passes =>
    rw [idle_pending hempty] at hno
    rw [idle_tick hno hpop]
    exact if_neg (by simp [hup])

end Sys2Proof.Proofs
end

section
/-! PROOFS. The fields of the settings image (R1 to R3, R37, R188): each at its place, brought into its range. -/

namespace Sys2Proof.Proofs

open Sys2Proof.Machine

/-! ## Values in range (R188) -/

theorem clampTo_zero (hi n : Nat) : clampTo 0 hi n = min hi n := by
  unfold clampTo
  omega

/-- A default action above 1 is replaced by 0, so rejecting is in use exactly when it was read (R188). -/
theorem defaultAction_reject (img : List Byte) :
    ((takeDefaultAction img).used == 1) = decide (imageByte img 47 = 1) := by
  rw [Bool.eq_iff_iff, beq_iff_eq, decide_eq_true_eq, takeDefaultAction]
  dsimp only
  split <;> omega

/-- The settings in use, each the value taken at its index. -/
theorem settingsOf_eq (img : List Byte) : settingsOf img =
    { tractorLength := clampTo 150 1500 (imageWord img 5)
      couplingGap := clampTo 0 100 (imageByte img 7)
      overlengthAllowance := clampTo 0 1500 (imageWord img 8)
      mmPerPulse := clampTo 8 255 (imageByte img 10)
      lostDistance := clampTo 1000 8000 (imageWord img 11)
      centreTrim := clampTo 1450 1550 (imageWord img 13)
      deadband := clampTo 10 60 (imageByte img 15)
      vmax := clampTo 100 1023 (imageWord img 16)
      reverseCap := clampTo 40 300 (imageWord img 18)
      standstillGap := clampTo 50 400 (imageWord img 20)
      headway := clampTo 20 200 (imageByte img 22)
      accelUp := clampTo 50 1000 (imageWord img 23)
      accelDown := clampTo 50 1500 (imageWord img 25)
      accelBrake := clampTo 200 3000 (imageWord img 27)
      crawlCap := clampTo 40 200 (imageByte img 29)
      escStart := clampTo 0 200 (imageByte img 30)
      escGain := clampTo 16 1023 (imageWord img 31)
      beaconInterval := clampTo 50 250 (imageByte img 33)
      contentionCode := clampTo 0 3 (imageByte img 34)
      peerLapse := clampTo 300 3000 (imageWord img 35)
      joinGap := clampTo 300 3000 (imageWord img 37)
      breakGap := (takeBreakGap img).used
      approachDistance := clampTo 600 4000 (imageWord img 41)
      claimWindow := clampTo 100 1000 (imageWord img 43)
      stopMargin := clampTo 30 300 (imageWord img 45)
      defaultReject := decide (imageByte img 47 = 1)
      watermark := clampTo 0 16 (imageByte img 48) } := by
  rw [← defaultAction_reject]
  rfl

/-! ## The tables (R1, R3, R37) -/

/-- An entry of a kind in use: its three settings in range, its links cut to sections of the map. -/
def sectionRead (img : List Byte) (k : SectionKind) (i : Nat) : SectionEntry :=
  ⟨k, clampTo 256 16383 (imageWord img (sectionPlace i + 1)), clampTo 50 1000 (imageWord img (sectionPlace i + 3)),
    clampTo 40 1023 (imageWord img (sectionPlace i + 5)), linkOf (imageByte img (sectionPlace i + 7)),
    linkOf (imageByte img (sectionPlace i + 8))⟩

theorem sectionTaken_used {img : List Byte} {i : Nat} (h : kindCode img i ≠ 0) :
    usedAt (sectionTaken img i) (sectionPlace i + 1) = clampTo 256 16383 (imageWord img (sectionPlace i + 1)) ∧
      usedAt (sectionTaken img i) (sectionPlace i + 3) = clampTo 50 1000 (imageWord img (sectionPlace i + 3)) ∧
      usedAt (sectionTaken img i) (sectionPlace i + 5) = clampTo 40 1023 (imageWord img (sectionPlace i + 5)) := by
  simp [sectionTaken, h, usedAt, takeWordIn]

theorem sectionOf_absent {img : List Byte} {i : Nat} (h : kindCode img i = 0) :
    sectionOf img i = SectionEntry.absent := by
  unfold sectionOf
  rw [h]
  rfl

/-- The kind codes of the sections in use. -/
def usedKinds : List (Nat × SectionKind) := [(1, .road), (2, .single), (3, .yard)]

theorem sectionOf_used {img : List Byte} {i : Nat} {k : Nat × SectionKind} (hk : k ∈ usedKinds)
    (h : kindCode img i = k.1) : sectionOf img i = sectionRead img k.2 i := by
  have hused : ∀ x ∈ usedKinds, x.1 ≠ 0 := by decide
  have hcode : kindCode img i ≠ 0 := h ▸ hused k hk
  obtain ⟨hlength, hspacing, hlimit⟩ := sectionTaken_used hcode
  rw [sectionRead, ← hlength, ← hspacing, ← hlimit]
  unfold sectionOf
  rw [h]
  simp only [usedKinds, List.mem_cons, List.not_mem_nil, or_false] at hk
  rcases hk with rfl | rfl | rfl <;> rfl

theorem bne_zero_eq_decide (n : Nat) : (n != 0) = decide (n ≠ 0) := by
  rw [Bool.eq_iff_iff, bne_iff_ne, decide_eq_true_eq]

theorem windowOf_eq (img : List Byte) (j : Nat) : windowOf img j =
    ⟨decide (imageByte img (windowPlace j) ≠ 0), BitVec.ofNat 12 (imageWord img (windowPlace j + 1)),
      BitVec.ofNat 12 (imageWord img (windowPlace j + 3)), min 31 (imageByte img (windowPlace j + 5)),
      min 6 (imageByte img (windowPlace j + 6))⟩ := by
  simp [windowOf, usedAt, windowTaken, takeByteIn, clampTo_zero, bne_zero_eq_decide]

/-- A filter element of an unknown code is disabled (R37). -/
theorem filterOf_unknown {img : List Byte} {k : Nat}
    (h : imageByte img (filterPlace k + 1) > 2 ∨ imageByte img (filterPlace k + 4) > 3) :
    filterOf img k = FilterElement.disabled := by
  have htaken : (filterTaken img k).isEmpty = false := by
    unfold filterTaken
    split
    · rfl
    · next hmatch => rw [if_pos (h.resolve_left hmatch)]; rfl
  rw [filterOf, htaken]
  rfl

/-- The codes of the match types and of the filter actions. -/
def matchCodes : List (Nat × MatchType) := [(0, .range), (1, .pair), (2, .masked)]
def actionCodes : List (Nat × FilterAction) := [(0, .accept), (1, .pin), (2, .reject), (3, .watch)]

theorem filterOf_known {img : List Byte} {k : Nat} {m : Nat × MatchType} {a : Nat × FilterAction}
    (hm : m ∈ matchCodes) (ha : a ∈ actionCodes) (hmatch : imageByte img (filterPlace k + 1) = m.1)
    (haction : imageByte img (filterPlace k + 4) = a.1) : filterOf img k =
      ⟨decide (imageByte img (filterPlace k) ≠ 0), m.2, BitVec.ofNat 6 (imageByte img (filterPlace k + 2)),
        BitVec.ofNat 6 (imageByte img (filterPlace k + 3)), a.2⟩ := by
  have hlow : ∀ x ∈ matchCodes, ¬x.1 > 2 := by decide
  have hsmall : ∀ x ∈ actionCodes, ¬x.1 > 3 := by decide
  have htaken : (filterTaken img k).isEmpty = true := by
    rw [filterTaken, hmatch, haction, if_neg (hlow m hm), if_neg (hsmall a ha)]
    rfl
  unfold filterOf
  dsimp only
  rw [if_pos htaken, bne_zero_eq_decide, hmatch, haction]
  simp only [matchCodes, List.mem_cons, List.not_mem_nil, or_false] at hm
  simp only [actionCodes, List.mem_cons, List.not_mem_nil, or_false] at ha
  rcases hm with rfl | rfl | rfl <;> rcases ha with rfl | rfl | rfl | rfl <;> rfl

/-! ## The settings taken (R188) -/

/-- The one-byte settings with a numeric range, as index, least and greatest value. -/
def byteSettings : List (Nat × Nat × Nat) :=
  [(7, 0, 100), (10, 8, 255), (15, 10, 60), (22, 20, 200), (29, 40, 200), (30, 0, 200), (33, 50, 250), (34, 0, 3),
    (48, 0, 16)]

/-- The two-byte settings, the break gap aside, likewise. -/
def wordSettings : List (Nat × Nat × Nat) :=
  [(5, 150, 1500), (8, 0, 1500), (11, 1000, 8000), (13, 1450, 1550), (16, 100, 1023), (18, 40, 300), (20, 50, 400),
    (23, 50, 1000), (25, 50, 1500), (27, 200, 3000), (31, 16, 1023), (35, 300, 3000), (37, 300, 3000), (41, 600, 4000),
    (43, 100, 1000), (45, 30, 300)]

theorem mem_settingsTaken {img : List Byte} {x : Taken} : x ∈ settingsTaken img ↔
    (∃ y ∈ byteSettings, x = takeByteIn img y.1 y.2.1 y.2.2) ∨
      (∃ y ∈ wordSettings, x = takeWordIn img y.1 y.2.1 y.2.2) ∨ x = takeBreakGap img ∨ x = takeDefaultAction img := by
  simp only [settingsTaken, byteSettings, wordSettings, List.mem_cons, List.not_mem_nil, or_false, exists_eq_or_imp,
    exists_eq_left]
  grind

/-- The settings of a section entry that have a range, as place in the entry, least and greatest value. -/
def sectionSettings : List (Nat × Nat × Nat) := [(1, 256, 16383), (3, 50, 1000), (5, 40, 1023)]

theorem mem_sectionTaken {img : List Byte} {i : Nat} {x : Taken} : x ∈ sectionTaken img i ↔
    kindCode img i ≠ 0 ∧ ∃ y ∈ sectionSettings, x = takeWordIn img (sectionPlace i + y.1) y.2.1 y.2.2 := by
  unfold sectionTaken
  split <;> simp_all [sectionSettings]

theorem mem_windowTaken {img : List Byte} {j : Nat} {x : Taken} : x ∈ windowTaken img j ↔
    x = ⟨windowPlace j + 5, imageByte img (windowPlace j + 5), min 31 (imageByte img (windowPlace j + 5))⟩ ∨
      x = ⟨windowPlace j + 6, imageByte img (windowPlace j + 6), min 6 (imageByte img (windowPlace j + 6))⟩ := by
  simp [windowTaken, takeByteIn, clampTo_zero]

/-- An unknown match type is noted, or else an unknown action. -/
theorem mem_filterTaken {img : List Byte} {k : Nat} {x : Taken} : x ∈ filterTaken img k ↔
    (imageByte img (filterPlace k + 1) > 2 ∧ x = ⟨filterPlace k + 1, imageByte img (filterPlace k + 1), 0⟩) ∨
      (imageByte img (filterPlace k + 1) ≤ 2 ∧ imageByte img (filterPlace k + 4) > 3 ∧
        x = ⟨filterPlace k + 4, imageByte img (filterPlace k + 4), 0⟩) := by
  unfold filterTaken
  split
  · next hmatch => simp [hmatch, not_le.mpr hmatch]
  · next hmatch =>
    split
    · next haction => simp [hmatch, haction, not_lt.mp hmatch]
    · next haction => simp [hmatch, haction]

/-- A record is made of each setting whose value used differs from the value read. -/
theorem mem_clamped {img : List Byte} {x : Taken} : x ∈ clamped img ↔ x.used ≠ x.read ∧
    (x ∈ settingsTaken img ∨ (∃ i < 32, x ∈ sectionTaken img i) ∨ (∃ j < 6, x ∈ windowTaken img j) ∨
      ∃ k < 8, x ∈ filterTaken img k) := by
  simp only [clamped, takenAll, List.mem_filter, List.mem_append, List.mem_flatMap, List.mem_range, bne_iff_ne,
    or_assoc, and_comm]

/-! ## The order of the records (R188) -/

/-- The indices ascend, from a first place up to a place behind the last. -/
def Ascends (lo hi : Nat) (l : List Nat) : Prop := l.Pairwise (· < ·) ∧ ∀ n ∈ l, lo ≤ n ∧ n < hi

theorem Ascends.append {lo mid hi : Nat} {l l' : List Nat} (hlo : lo ≤ mid) (hhi : mid ≤ hi) (h : Ascends lo mid l)
    (h' : Ascends mid hi l') : Ascends lo hi (l ++ l') := by
  obtain ⟨hpair, hbounds⟩ := h
  obtain ⟨hpair', hbounds'⟩ := h'
  refine ⟨List.pairwise_append.mpr ⟨hpair, hpair', fun a ha b hb => ?_⟩, fun n hn => ?_⟩
  · exact lt_of_lt_of_le (hbounds a ha).2 (hbounds' b hb).1
  · rcases List.mem_append.mp hn with hn | hn
    · exact ⟨(hbounds n hn).1, lt_of_lt_of_le (hbounds n hn).2 hhi⟩
    · exact ⟨hlo.trans (hbounds' n hn).1, (hbounds' n hn).2⟩

/-- A table of entries of one size. -/
theorem ascends_flatMap {place size : Nat} {f : Nat → List Nat}
    (h : ∀ i, Ascends (place + size * i) (place + size * (i + 1)) (f i)) (n : Nat) :
    Ascends place (place + size * n) ((List.range n).flatMap f) := by
  induction n with
  | zero => exact ⟨List.Pairwise.nil, nofun⟩
  | succ n ih =>
    rw [List.range_succ, List.flatMap_append, List.flatMap_singleton]
    exact ih.append (Nat.le_add_right _ _) (Nat.add_le_add_left (Nat.mul_le_mul_left _ n.le_succ) _) (h n)

theorem ascends_settings (img : List Byte) : Ascends 0 49 ((settingsTaken img).map (·.index)) := by
  change Ascends 0 49 [5, 7, 8, 10, 11, 13, 15, 16, 18, 20, 22, 23, 25, 27, 29, 30, 31, 33, 34, 35, 37, 39, 41, 43, 45,
    47, 48]
  unfold Ascends
  decide

theorem ascends_section (img : List Byte) (i : Nat) :
    Ascends (49 + 9 * i) (49 + 9 * (i + 1)) ((sectionTaken img i).map (·.index)) := by
  unfold sectionTaken
  split
  · exact ⟨List.Pairwise.nil, nofun⟩
  · simp [Ascends, takeWordIn, sectionPlace]
    omega

theorem ascends_window (img : List Byte) (j : Nat) :
    Ascends (337 + 7 * j) (337 + 7 * (j + 1)) ((windowTaken img j).map (·.index)) := by
  simp [Ascends, windowTaken, takeByteIn, windowPlace]
  omega

theorem ascends_filter (img : List Byte) (k : Nat) :
    Ascends (379 + 5 * k) (379 + 5 * (k + 1)) ((filterTaken img k).map (·.index)) := by
  unfold filterTaken
  split
  · simp [Ascends, filterPlace]
    omega
  · split
    · simp [Ascends, filterPlace]
      omega
    · exact ⟨List.Pairwise.nil, nofun⟩

theorem ascends_takenAll (img : List Byte) : Ascends 0 419 ((takenAll img).map (·.index)) := by
  simp only [takenAll, List.map_append, List.map_flatMap]
  have hsections := ascends_flatMap (ascends_section img) 32
  have hwindows := ascends_flatMap (ascends_window img) 6
  have hfilters := ascends_flatMap (ascends_filter img) 8
  exact (((ascends_settings img).append (by decide) (by decide) hsections).append (by decide) (by decide)
    hwindows).append (by decide) (by decide) hfilters

theorem clamped_ascending (img : List Byte) : ((clamped img).map (·.index)).Pairwise (· < ·) :=
  (ascends_takenAll img).1.sublist (List.filter_sublist.map _)

end Sys2Proof.Proofs
end

section
/-! PROOFS. A sound load (R189): what each block takes from the image, and what starts with LISTENING. -/

namespace Sys2Proof.Proofs

open Sys2Proof.Machine

/-! ## The records of the settings brought into range (R188) -/

/-- The journal post of a setting brought into range. -/
def clampPost (x : Taken) : Post := ⟨.node, .settingClamped, .num x.index, .num x.read, .num x.used⟩

theorem foldl_clampPost (l : List Taken) (s : State) :
    l.foldl (fun s x => post .node .settingClamped (.num x.index) (.num x.read) (.num x.used) s) s =
      s.setMail { s.mail with posts := s.mail.posts ++ l.map clampPost } := by
  induction l generalizing s with
  | nil =>
    rw [List.foldl_nil, List.map_nil, List.append_nil]
    rfl
  | cons x l ih =>
    rw [List.foldl_cons, ih, List.map_cons, List.append_cons]
    rfl

theorem postClamped_eq (img : List Byte) (s : State) :
    postClamped img s = s.setMail { s.mail with posts := s.mail.posts ++ (clamped img).map clampPost } :=
  foldl_clampPost (clamped img) s

/-! ## The claim table (R99) -/

theorem sectionOf_kind_single (img : List Byte) (i : Nat) :
    (sectionOf img i).kind = .single ↔ kindCode img i = 2 := by
  unfold sectionOf
  split <;> simp_all [SectionEntry.absent]

theorem isSingle_sections (img : List Byte) {i : Nat} (hi : i < 32) :
    isSingle ((List.range 32).map (sectionOf img)) i = (kindCode img i == 2) := by
  have hentry : sectionAt ((List.range 32).map (sectionOf img)) i = sectionOf img i := by
    simp [sectionAt, hi]
  rw [isSingle, hentry, Bool.eq_iff_iff, beq_iff_eq, beq_iff_eq, sectionOf_kind_single]

/-- The SINGLE sections of the table handed out are those of the image. -/
theorem singles_eq (img : List Byte) : (List.range 32).filter (isSingle ((List.range 32).map (sectionOf img))) =
    (List.range 32).filter (fun i => kindCode img i == 2) :=
  List.filter_congr fun _ hi => isSingle_sections img (List.mem_range.mp hi)

theorem built_sections (l : List Nat) : (l.map ClaimEntry.built).map (·.sec) = l := by
  rw [List.map_map]
  exact List.map_id l

/-! ## LISTENING (R55, R68, R78, R106, R171, R191) -/

theorem enterListening_eq (s : State) : enterListening s =
    let r := drawRegister (s.air.generator.getD 0)
    { s with
      node := { s.node with mode := .listening, listenTimer := some 1000, store := .idle, retryTimer := none }
      peer := { s.peer with sweep := some 100 }
      cvy := { s.cvy with sweep := some 100 }
      clm := { s.clm with sweep := some 100 }
      trl := { s.trl with timer := some 200 }
      line := forgetTag 1 (forgetTag 2 (forgetTag 3 (forgetTag 4 s.line)))
      air := { s.air with generator := s.air.generator.map (fun _ => r), beacon := some (drawValue r 15) } } := by
  simp only [enterListening, armBeacon, draw, forgetAll, sendForget, State.setLine, State.setAir, Nat.zero_add]

/-- Settles O9: the load hands out what was read, each field lies at its place, and the ranges are those of
SettingsInRange. -/
theorem soundLoadHandsOutTheSettings : Obligations.SoundLoadHandsOutTheSettings := by
  refine ⟨fun img s hup hreading hlength hsound => ?load, fun img => ?fields, defaults_inRange, settingsOf_inRange⟩
  case load =>
    refine ⟨_, exec_soundImage hup hreading hlength hsound, ?_⟩
    rw [postClamped_eq, enterListening_eq]
    refine ⟨rfl, rfl, rfl, rfl, rfl, rfl, rfl, rfl, ⟨_, drawValue_le _, rfl⟩, ?_,
      List.forall_mem_map.mpr fun _ _ => rfl, ⟨rfl, rfl, rfl, rfl⟩, rfl, rfl, rfl, rfl, rfl⟩
    exact (built_sections _).trans (singles_eq img)
  case fields =>
    intro b word within joinGap breakGap link
    refine ⟨settingsOf_eq img, fun i _ => ?sections, fun j _ => windowOf_eq img j, fun k _ => ?filter,
      clamped_ascending img, fun x => ?records⟩
    case sections =>
      exact ⟨sectionOf_absent, sectionOf_used (k := (1, .road)) (by simp [usedKinds]),
        sectionOf_used (k := (2, .single)) (by simp [usedKinds]),
        sectionOf_used (k := (3, .yard)) (by simp [usedKinds])⟩
    case filter =>
      exact ⟨fun hunknown => congrArg FilterElement.enable (filterOf_unknown hunknown),
        fun m hm a ha => filterOf_known hm ha⟩
    case records =>
      rw [mem_clamped, mem_settingsTaken]
      simp only [mem_sectionTaken, mem_windowTaken, mem_filterTaken, or_assoc]
      rfl

end Sys2Proof.Proofs
end

section
/-! PROOFS. The service unit's journal, counters and service line: the journal as a queue (R197 to R199), the
counters (R201), requests and the end of an answer (R202, R204). -/

namespace Sys2Proof.Proofs

open Sys2Proof.Machine Sys2Proof.Laws Sys2Proof.Safety

/-! ## The journal's places (R197) -/

section Journal

variable {j : Journal}

theorem journal_records_length (j : Journal) : j.records.length = j.fill := by
  simp [Journal.records]

theorem journal_records_getElem? {k : Nat} (h : k < j.fill) : j.records[k]? = some (j.held k) := by
  simp [Journal.records, h]

/-- A held place other than the put place keeps its record. -/
theorem journal_held_set {n k : Nat} (r : JournalRecord) (h : (j.getIndex + k) % 16 ≠ n) :
    Journal.held { j with places := j.places.set n (some r) } k = j.held k := by
  simp only [Journal.held, List.getD_eq_getElem?_getD, List.getElem?_set_ne (Ne.symm h)]

/-- With room, what was held keeps its place, and the new record has the put place (R197). -/
theorem journal_held_take (hinv : JournalInv j) (hroom : j.fill < 16) (r : JournalRecord) {k : Nat} (hk : k ≤ j.fill) :
    (j.take r).held k = if k < j.fill then j.held k else (j.putIndex, some r) := by
  obtain ⟨hplaces, hget, hput, -, -, -⟩ := hinv
  rw [journal_take_room hroom]
  split
  · next hlt => exact journal_held_set r (by omega)
  · next hlt =>
    obtain rfl : k = j.fill := by omega
    simp [Journal.held, ← hput, hplaces, show j.putIndex < 16 by omega]

theorem journal_records_take (hinv : JournalInv j) (hroom : j.fill < 16) (r : JournalRecord) :
    (j.take r).records = j.records ++ [(j.putIndex, some r)] := by
  have hfill : (j.take r).fill = j.fill + 1 := by rw [journal_take_room hroom]
  rw [Journal.records, hfill, List.range_succ, List.map_append, List.map_singleton,
    journal_held_take hinv hroom r le_rfl, if_neg (lt_irrefl _)]
  refine congrArg (· ++ _) (List.map_congr_left fun k hk => ?_)
  have hlt : k < j.fill := List.mem_range.mp hk
  rw [journal_held_take hinv hroom r hlt.le, if_pos hlt]

theorem journalInv_take (hinv : JournalInv j) (r : JournalRecord) : JournalInv (j.take r) := by
  by_cases hroom : j.fill < 16
  · have hheld (k : Nat) (hk : k ≤ j.fill) : ((j.take r).held k).2.isSome := by
      rw [journal_held_take hinv hroom r hk]
      split
      · next hlt => exact hinv.held k hlt
      · rfl
    obtain ⟨hplaces, hget, hput, -, hlost, -⟩ := hinv
    rw [journal_take_room hroom] at hheld ⊢
    exact ⟨by simpa using hplaces, hget, by dsimp only; omega, hroom, hlost, fun k hk => hheld k (Nat.le_of_lt_succ hk)⟩
  · rw [Journal.take, if_neg hroom]
    exact { hinv with lost := Nat.min_le_left _ _ }

/-! ## Giving records up (R199) -/

/-- The held place at a rank is the index of that rank. -/
theorem journal_rankOf_iff (hinv : JournalInv j) {i k : Nat} (hi : i < 16) (hk : k < 16) :
    j.rankOf i = k + 1 ↔ (j.held k).1 = i := by
  have hget := hinv.get
  simp only [Journal.rankOf, Journal.held]
  omega

theorem journal_holds_iff (hinv : JournalInv j) {i : Nat} (hi : i < 16) :
    j.holds i = true ↔ ∃ x ∈ j.records, x.1 = i := by
  have hfill := hinv.fill
  have hmem : (∃ x ∈ j.records, x.1 = i) ↔ ∃ k < j.fill, (j.held k).1 = i := by
    simp [Journal.records]
  rw [hmem, Journal.holds, Bool.and_eq_true, decide_eq_true_iff, decide_eq_true_iff]
  constructor
  · rintro ⟨-, hrank⟩
    have hrankOf : j.rankOf i = (j.rankOf i - 1) + 1 := by simp only [Journal.rankOf]; omega
    exact ⟨j.rankOf i - 1, by omega, (journal_rankOf_iff hinv hi (by omega)).mp hrankOf⟩
  · rintro ⟨k, hk, hheld⟩
    have hrank := (journal_rankOf_iff hinv hi (by omega)).mpr hheld
    exact ⟨hi, by omega⟩

/-- The journal without the record at place `k` and every older one. -/
theorem journal_giveUp_eq (hinv : JournalInv j) {i k : Nat} (hi : i < 16) (hk : k < 16) (hheld : (j.held k).1 = i) :
    j.giveUp i = { j with getIndex := (j.getIndex + (k + 1)) % 16, fill := j.fill - (k + 1) } := by
  have hplace : (j.getIndex + k) % 16 = i := hheld
  rw [Journal.giveUp, (journal_rankOf_iff hinv hi hk).mpr hheld]
  congr 1
  omega

/-- With the oldest records given up, the others stand in their places. -/
theorem journal_held_skip (j : Journal) (n k fill : Nat) :
    Journal.held { j with getIndex := (j.getIndex + n) % 16, fill := fill } k = j.held (n + k) := by
  have hplace : ((j.getIndex + n) % 16 + k) % 16 = (j.getIndex + (n + k)) % 16 := by omega
  simp only [Journal.held, hplace]

theorem journal_records_skip (j : Journal) (n : Nat) :
    Journal.records { j with getIndex := (j.getIndex + n) % 16, fill := j.fill - n } = j.records.drop n := by
  refine List.ext_getElem (by simp [Journal.records]) fun k _ _ => ?_
  simp [Journal.records, journal_held_skip]

theorem journalInv_skip (hinv : JournalInv j) {n : Nat} (hn : n ≤ j.fill) :
    JournalInv { j with getIndex := (j.getIndex + n) % 16, fill := j.fill - n } := by
  obtain ⟨hplaces, hget, hput, hfill, hlost, hheld⟩ := hinv
  refine ⟨hplaces, Nat.mod_lt _ (by decide), by dsimp only; omega, by dsimp only; omega, hlost, fun k hk => ?_⟩
  rw [journal_held_skip]
  exact hheld (n + k) (by dsimp only at hk; omega)

/-- What a held index gives up keeps the journal a queue. -/
theorem journalInv_giveUp (hinv : JournalInv j) {i : Nat} (h : j.holds i = true) : JournalInv (j.giveUp i) := by
  have hfill := hinv.fill
  obtain ⟨hi, hrank⟩ : i < 16 ∧ j.rankOf i ≤ j.fill := by simpa [Journal.holds] using h
  have hrankOf : j.rankOf i = (j.rankOf i - 1) + 1 := by simp only [Journal.rankOf]; omega
  rw [journal_giveUp_eq hinv hi (by omega) ((journal_rankOf_iff hinv hi (by omega)).mp hrankOf)]
  exact journalInv_skip hinv (by omega)

end Journal

/-! ## Posts (R197, R198) -/

/-- The oldest element that a test picks is the one with none picked before it. -/
theorem takeOldest_append {α : Type} {p : α → Bool} {before : List α} (hbefore : ∀ y ∈ before, p y = false) {x : α}
    (hx : p x = true) (after : List α) : takeOldest p (before ++ x :: after) = some (x, before ++ after) := by
  induction before with
  | nil => exact if_pos hx
  | cons y ys ih =>
    have hrest := ih fun z hz => hbefore z (List.mem_cons_of_mem y hz)
    simp only [List.cons_append, takeOldest, hbefore y List.mem_cons_self, hrest, Bool.false_eq_true, if_false]

theorem exec_journalPost {block : BlockId} {before after : List Post} {p : Post} {s : State} (hup : s.held = false)
    (hposts : s.mail.posts = before ++ p :: after) (hbefore : ∀ q ∈ before, q.block ≠ block) (hp : p.block = block) :
    exec (.journalPost block) s = .next (setJournal (s.svc.journal.take (p.record s.time))
      (s.setMail { s.mail with posts := before ++ after })) := by
  have holdest : takeOldest (fun q => q.block == block) s.mail.posts = some (p, before ++ after) :=
    hposts ▸ takeOldest_append (by simpa using hbefore) (by simpa using hp) after
  refine (whileUp_up hup _).trans (congrArg _ ?_)
  simp only [takePost, holdest]

/-! ## Requests (R202) -/

/-- A request that completes while the service line is free is acted on. -/
theorem request_free {s : State} (h : s.svc.answer = none) (f : State → State) : request f s = f s := by
  rw [request, h]

/-- A request that completes while an answer is being sent waits for its BUSY answer. -/
theorem request_waits {s : State} (h : s.svc.answer ≠ none) (f : State → State) :
    request f s = { s with svc := { s.svc with waiting := s.svc.waiting + 1 } } := by
  obtain ⟨a, ha⟩ := Option.ne_none_iff_exists'.mp h
  rw [request, ha]
  rfl

section Free

variable {s : State} (hup : s.held = false) (hfree : s.svc.answer = none)
include hup hfree

theorem whileUp_request (f : State → State) : whileUp s (request f) = .next (f s) := by
  rw [whileUp_up hup, request_free hfree]

theorem exec_ack (i : Nat) : exec (.ack i) s = .next (acknowledgeIndex i s) :=
  whileUp_request hup hfree _

theorem exec_clearCounters : exec .clearCounters s = .next (clearCounters s) :=
  whileUp_request hup hfree _

theorem exec_restart : exec .restart s = .next (restartRequest s) :=
  whileUp_request hup hfree _

end Free

/-- Settles O52: a post by the room there is, and an ACK by the place of the index among the held records. -/
theorem journalKeepsRecordsInOrder : Obligations.JournalKeepsRecordsInOrder := by
  refine ⟨fun block before after p s hup hposts hbefore hp => ?post, fun j hinv =>
    ⟨fun r hroom => ⟨journal_records_take hinv hroom r, journalInv_take hinv r⟩,
      fun r hfull => by rw [journal_take_full hfull]; rfl, fun i s hup hfree hj hi => ?ack⟩⟩
  case post =>
    rw [exec_journalPost hup hposts hbefore hp]
    refine ⟨fun hroom => ?_, fun hfull => ?_⟩
    · rw [journal_take_room hroom]
      rfl
    · rw [Journal.take, if_neg (not_lt.mpr hfull)]
      rfl
  case ack =>
    subst hj
    rw [exec_ack hup hfree i]
    have hholds := journal_holds_iff hinv hi
    refine ⟨fun k rec older newer hrecords hk => ?held, fun hother => ?other⟩
    case held =>
      have hlength := journal_records_length s.svc.journal
      have hplace : s.svc.journal.records[k]? = some (i, rec) := by simp [hrecords, hk]
      rw [hrecords, List.length_append, List.length_cons] at hlength
      have hlt : k < s.svc.journal.fill := by omega
      have hheld : (s.svc.journal.held k).1 = i := by
        rw [journal_records_getElem? hlt, Option.some_inj] at hplace
        rw [hplace]
      have hgiveUp := journal_giveUp_eq hinv hi (hlt.trans_le hinv.fill) hheld
      have hdrop : s.svc.journal.records.drop (k + 1) = newer := by simp [hrecords, hk]
      rw [acknowledgeIndex, if_pos (hholds.mpr ⟨(i, rec), by simp [hrecords], rfl⟩), hgiveUp]
      exact ⟨_, rfl, (journal_records_skip _ _).trans hdrop, rfl, journalInv_skip hinv hlt, rfl, rfl, rfl, rfl⟩
    case other =>
      rw [acknowledgeIndex, if_neg fun h => ?_]
      · rfl
      · obtain ⟨x, hx, hxi⟩ := hholds.mp h
        exact hother x hx hxi

/-! ## The counters (R201) -/

theorem counters_read_zero (id : CounterId) : Counters.zero.read id = 0 := by
  cases id <;> rfl

/-- A counter raised is one higher up to its limit, and the others stand. -/
theorem counters_read_raise (c : Counters) (i j : CounterId) :
    (c.raise i).read j = if i = j then min 65535 (c.read j + 1) else c.read j := by
  cases i <;> cases j <;> rfl

/-! ## The end of an answer (R202) -/

theorem answerEnds_iff (a : Option Answer) : answerEnds a = true ↔ ∃ x, a = some x ∧ x ≠ .restarting := by
  cases a <;> simp [answerEnds]

section AnswerEnd

variable {s : State} (hup : s.held = false)
include hup

theorem exec_busy : exec .busy s = .next (busy s) :=
  whileUp_up hup _

theorem exec_answerEnded : exec .answerEnded s = .next (answerEnded s) :=
  whileUp_up hup _

end AnswerEnd

/-- Settles O54: the requests on a free line, then the end of an answer by what is being sent and whether a request
waits. -/
theorem countersClearAndRestartIsAsked : Obligations.CountersClearAndRestartIsAsked := by
  refine ⟨fun s hup => ?_, fun i j c => ⟨?_, fun hne => ?_⟩⟩
  · rw [exec_busy hup, exec_answerEnded hup]
    refine ⟨fun hfree => ?free, fun a ha hends => ?ends, fun h => ?stays⟩
    case free =>
      rw [exec_clearCounters hup hfree, exec_restart hup hfree, restartRequest]
      refine ⟨⟨_, rfl, counters_read_zero, rfl, rfl⟩, fun hmoving => ?_, fun hstands => ?_⟩
      · rw [if_pos hmoving]
        rfl
      · rw [if_neg hstands]
        rfl
    case ends =>
      have hanswer : answerEnds s.svc.answer = true := (answerEnds_iff _).mpr ⟨a, ha, hends⟩
      refine ⟨fun n hn => ?_, fun hnone => ?_⟩
      · rw [busy, if_pos ⟨hanswer, by omega⟩, answerEnded, if_neg (by omega), hn]
        exact ⟨rfl, rfl⟩
      · rw [busy, if_neg (by omega), answerEnded, if_pos ⟨hanswer, hnone⟩]
        exact ⟨rfl, rfl⟩
    case stays =>
      have hanswer : ¬answerEnds s.svc.answer = true := by
        rcases h with h | h <;> simp [answerEnds_iff, h]
      rw [busy, if_neg fun h => hanswer h.1, answerEnded, if_neg fun h => hanswer h.1]
      exact ⟨rfl, rfl⟩
  · rw [counters_read_raise, if_pos rfl]
  · rw [counters_read_raise, if_neg hne]

end Sys2Proof.Proofs
end

section
/-! PROOFS. The read requests of the service line (R202, R203) and the fault lamp (R200): each answer in terms of the
state it is made from. -/

namespace Sys2Proof.Proofs

open Sys2Proof.Machine Sys2Proof.Laws

/-! ## The fault lamp (R200) -/

theorem watermarkReached_iff (s : State) : watermarkReached s = true ↔
    s.node.settings.watermark ≠ 0 ∧ s.node.settings.watermark ≤ s.svc.journal.fill := by
  simp [watermarkReached]

theorem crawlReported_iff (s : State) :
    crawlReported s = true ↔ s.gov.crawl = true ∨ s.node.mode = .unconfigured := by
  simp [crawlReported]

theorem faultLamp_iff (s : State) : faultLamp s = true ↔
    (s.node.settings.watermark ≠ 0 ∧ s.node.settings.watermark ≤ s.svc.journal.fill) ∨
      s.gov.crawl = true ∨ s.node.mode = .unconfigured ∨ s.drv.failsafe = true ∨
      s.trl.overlength = true ∨ s.cvy.own.trailerLoss = true ∨ s.cvy.own.standoff = true ∨
      s.cvy.own.intrusion = true ∨ s.cvy.foreign ≠ [] := by
  have hhalted : (!haltSetEmpty s.cvy) = true ↔ s.cvy.own.trailerLoss = true ∨ s.cvy.own.standoff = true ∨
      s.cvy.own.intrusion = true ∨ s.cvy.foreign ≠ [] := by
    rw [Bool.not_eq_true', ← Bool.not_eq_true, haltSetEmpty_iff, not_not]
  simp only [faultLamp, Bool.or_eq_true, watermarkReached_iff, crawlReported_iff, hhalted, or_assoc]

/-! ## PEERS (R77) -/

theorem mem_peersAnswer {s : State} {l : PeerLine} : l ∈ peersAnswer s ↔
    ∃ i e, s.peer.entries[i]? = some (some e) ∧ l = ⟨i, e, age s.time e.received, peerFresh s e⟩ := by
  simp only [peersAnswer, List.mem_map, Prod.exists, mem_indexedEntries, eq_comm (b := l)]

theorem peersAnswer_ascending (s : State) : ((peersAnswer s).map (·.index)).Pairwise (· < ·) := by
  rw [peersAnswer, List.map_map, List.pairwise_map]
  exact indexedEntries_ascending _

/-! ## ROSTER (R88, R91) -/

/-- What the roster order reads of a line, as a member. -/
def rosterMember (l : RosterLine) : Member :=
  ⟨l.station, l.rank, l.pred, l.sec, l.facing, l.distance, l.parked, 0⟩

theorem lineBefore_eq (sections : List SectionEntry) (a b : RosterLine) :
    a.before sections b = (rosterMember a).before sections (rosterMember b) := rfl

theorem insertLine_eq_orderedInsert (sections : List SectionEntry) (l : RosterLine) (ls : List RosterLine) :
    insertLine sections l ls = ls.orderedInsert (fun a b => a.before sections b = true) l := by
  induction ls with
  | nil => rfl
  | cons x xs ih => rw [insertLine, List.orderedInsert_cons, ih]

/-- Putting a line in its place is putting its member in its place. -/
theorem insertLine_map_rosterMember (sections : List SectionEntry) (l : RosterLine) (ls : List RosterLine) :
    (insertLine sections l ls).map rosterMember = insertMember sections (rosterMember l) (ls.map rosterMember) := by
  induction ls with
  | nil => rfl
  | cons x xs ih =>
    rw [insertLine, List.map_cons, insertMember, lineBefore_eq]
    split
    · rfl
    · rw [List.map_cons, ih]

theorem rosterLines_perm {s : State} (h : s.cvy.role ≠ .solo) :
    (rosterLines s).Perm (ownLine s :: s.cvy.members.map (memberLine s)) := by
  rw [rosterLines, if_neg h, insertLine_eq_orderedInsert]
  exact List.perm_orderedInsert _ _ _

/-- The lines of members in roster order, the own one put in its place, are in roster order. -/
theorem rosterLines_inOrder {s : State} (h : s.cvy.role ≠ .solo)
    (hmembers : s.cvy.members.Pairwise (InRosterOrder s.pos.sections)) :
    (rosterLines s).Pairwise (fun a b => InRosterOrder s.pos.sections (rosterMember a) (rosterMember b)) := by
  have hlines : ((s.cvy.members.map (memberLine s)).map rosterMember).Pairwise (InRosterOrder s.pos.sections) := by
    rw [List.map_map, List.pairwise_map]
    exact hmembers
  rw [rosterLines, if_neg h, ← List.pairwise_map, insertLine_map_rosterMember]
  exact insertMember_inOrder hlines

/-- Roster order of two lines by rank, progress and station (R91). -/
theorem inRosterOrder_iff (sections : List SectionEntry) (a b : Member) : InRosterOrder sections a b ↔
    a.rank < b.rank ∨ (a.rank = b.rank ∧
      (progress sections a.sec a.facing a.distance > progress sections b.sec b.facing b.distance ∨
        (progress sections a.sec a.facing a.distance = progress sections b.sec b.facing b.distance ∧
          a.station ≤ b.station))) := by
  rw [InRosterOrder, ← Bool.not_eq_true, memberBefore_iff]
  omega

/-! ## TRAILERS (R182) -/

theorem trailersAnswer_getElem? (s : State) (i : Nat) : (trailersAnswer s).chain[i]? =
    (s.trl.chain[i]?).map (fun r => (⟨i + 1, r⟩ : TrailerLine)) := by
  rw [trailersAnswer, List.getElem?_map]
  by_cases hi : i < s.trl.chain.length
  · simp [hi]
  · simp [not_lt.mp hi]

/-! ## Requests (R202) -/

theorem exec_readRequest {s : State} (hup : s.held = false) (hfree : s.svc.answer = none) (f : State → Answer) :
    whileUp s (readRequest f) = .next { s with svc := { s.svc with answer := some (f s) } } :=
  whileUp_request hup hfree _

/-- Settles O53, answer by answer. -/
theorem readRequestsAnswerFromTheStateOfNow : Obligations.ReadRequestsAnswerFromTheStateOfNow := by
  refine ⟨fun s hup => ⟨fun hfree => ?gives, fun hbusy c hc => ?waits⟩, faultLamp_iff, fun s => ?answers⟩
  case gives =>
    have hread := exec_readRequest hup hfree
    exact ⟨hread _, hread _, hread _, hread _, hread _, hread _, hread _, hread _⟩
  case waits =>
    have hwaits (f : State → State) := (whileUp_up hup (request f)).trans (congrArg _ (request_waits hbusy f))
    simp only [List.mem_cons, List.not_mem_nil, or_false] at hc
    obtain (rfl | rfl | rfl | rfl | rfl | rfl | rfl | rfl | rfl | rfl) | ⟨i, rfl⟩ := hc <;> exact hwaits _
  case answers =>
    intro old fresh line mine ro length place inOrder j
    refine ⟨?status, ⟨fun l => ?_, peersAnswer_ascending s⟩, rfl,
      ⟨rfl, rfl, rfl, rfl, rfl, rfl, rfl, fun hsolo => ⟨if_pos hsolo, if_pos hsolo⟩, fun hrole => ?roster⟩,
      ⟨rfl, rfl, rfl, trailersAnswer_getElem? s⟩, rfl⟩
    case status =>
      have hcrawl : crawlReported s = decide (s.gov.crawl = true ∨ s.node.mode = .unconfigured) :=
        Bool.eq_iff_iff.mpr ((crawlReported_iff s).trans decide_eq_true_iff.symm)
      rw [← hcrawl]
      rfl
    · exact mem_peersAnswer
    case roster =>
      have hplace (x : RosterLine) : place x = progress s.pos.sections x.sec x.facing x.distance :=
        (progress_eq _ _ _ _).symm
      have hperm : ro.roster.Perm (mine :: s.cvy.members.map line) := rosterLines_perm hrole
      refine ⟨hperm, ?_, fun hmembers => (rosterLines_inOrder hrole hmembers).imp fun {a b} hab => ?_⟩
      · rw [hperm.length_eq, List.length_cons, List.length_map]
        exact if_neg hrole
      · simp only [inOrder, hplace]
        exact (inRosterOrder_iff _ _ _).mp hab

end Sys2Proof.Proofs
end

section
/-! PROOFS. Every step keeps the trailer port in bounds (R170, R172 to R179): the chain and its counts apart from the
cycle, and what each command of TRL makes of both. -/

namespace Sys2Proof.Proofs

open Sys2Proof.Machine Sys2Proof.Laws Sys2Proof.Safety

/-! ## The chain and its counts -/

/-- The bounds of the trailer port with no pop part-way, whatever step of the cycle is under way (R170, R173). -/
structure ChainInv (t : Trl) : Prop where
  chain : t.chain.length ≤ 4
  missed : ∀ r ∈ t.chain, r.missed ≤ 2
  silent : t.silent ≤ 2
  counting : t.overlength = false → t.silent = 0

theorem trailerInv_of_chainInv {t : Trl} (h : ChainInv t) (hcycle : CycleInv t.chain.length t.cycle) :
    TrailerInv t where
  chain := h.chain
  missed := fun _ r hr => .inl (h.missed r (List.mem_of_getElem? hr))
  silent := h.silent
  counting := h.counting
  cycle := hcycle

/-- With no pop part-way no record has been missed three times. -/
theorem chainInv_of_trailerInv {t : Trl} (h : TrailerInv t)
    (hcycle : ∀ k still id count, t.cycle ≠ .popping k still id count) : ChainInv t where
  chain := h.chain
  missed := fun r hr => by
    obtain ⟨i, hi⟩ := List.mem_iff_getElem?.mp hr
    exact (h.missed i r hi).elim id fun ⟨_, still, id, count, hpop⟩ => absurd hpop (hcycle _ still id count)
  silent := h.silent
  counting := h.counting

/-- A record's missed count within its bound leaves the chain within its own. -/
theorem chainInv_set {t : Trl} (h : ChainInv t) (k : Nat) {r : TrailerRecord} (hr : r.missed ≤ 2) (c : Cycle) :
    ChainInv { t with chain := t.chain.set k r, cycle := c } where
  chain := by simpa using h.chain
  missed := fun x hx => (List.mem_or_eq_of_mem_set hx).elim (h.missed x) fun hxr => hxr ▸ hr
  silent := h.silent
  counting := h.counting

/-! ## The lamp step and the cycle timer (R171, R172, R180) -/

theorem lampStep_trailerInv {s : State} (h : ChainInv s.trl) : TrailerInv (lampStep s).trl := by
  unfold lampStep
  dsimp only
  split <;> exact trailerInv_of_chainInv { h with } trivial

theorem beginCycle_trailerInv {s : State} (h : TrailerInv s.trl) : TrailerInv (beginCycle s).trl := by
  rw [beginCycle_eq]
  by_cases hidle : s.trl.cycle = .idle
  · have hchain := chainInv_of_trailerInv h (by simp [hidle])
    refine trailerInv_of_chainInv { hchain with } ?_
    dsimp only [State.setTrl_trl]
    rw [if_pos hidle]
    split
    · trivial
    · next hused => exact ⟨le_rfl, List.length_pos_iff.mpr hused⟩
  · simp only [State.setTrl_trl, if_neg hidle]
    exact { h with }

/-! ## Polls, loss and popping (R173 to R175) -/

theorem popEnds_trl (k : Nat) (still : Bool) (id : TrailerId) (count : Nat) (s : State) :
    (popEnds k still id count s).trl = { s.trl with cycle := .discovering } := by
  unfold popEnds
  dsimp only
  split <;> rfl

/-- The bounds of the trailer port while the records from a lost address up go: no other record has been missed three
times. -/
structure LostInv (k : Nat) (t : Trl) : Prop where
  chain : t.chain.length ≤ 4
  missed : ∀ (i : Nat) (r : TrailerRecord), t.chain[i]? = some r → r.missed ≤ 2 ∨ (r.missed = 3 ∧ i + 1 = k)
  silent : t.silent ≤ 2
  counting : t.overlength = false → t.silent = 0

/-- Where a pop from a lost address stops, the records left are those below it, or the lost record still stands on
top of them with the removals to go. -/
theorem popStop_trailerInv {u : State} {k count m : Nat} (h : LostInv k u.trl) (hlow : 1 ≤ k)
    (hcount : u.trl.chain.length + 1 ≤ k + count ∧ k + count ≤ 5) (hmore : 1 ≤ m)
    (hlast : k + m ≤ u.trl.chain.length + 1) (still : Bool) (id : TrailerId) (draws : Nat) :
    TrailerInv (popStop k still id count m draws u).trl := by
  obtain ⟨hchain, hmissed, hsilent, hcounting⟩ := h
  have hrest : (u.trl.chain.take (u.trl.chain.length - m)).length = u.trl.chain.length - m := by simp
  have hleft (i : Nat) (r : TrailerRecord) (hr : (u.trl.chain.take (u.trl.chain.length - m))[i]? = some r) :
      i < u.trl.chain.length - m ∧ (r.missed ≤ 2 ∨ (r.missed = 3 ∧ i + 1 = k)) := by
    rw [List.getElem?_take, Option.ite_none_right_eq_some] at hr
    exact ⟨hr.1, hmissed i r hr.2⟩
  unfold popStop
  split
  · next hend =>
    rw [popEnds_trl]
    refine ⟨by dsimp only [removeTop]; omega, fun i r hr => .inl ?_, hsilent, hcounting, trivial⟩
    obtain ⟨hi, hr⟩ := hleft i r hr
    omega
  · next hgoes =>
    refine ⟨by dsimp only [setCycle, removeTop, State.setTrl]; omega, fun i r hr => ?_, hsilent, hcounting, ?_⟩
    · refine (hleft i r hr).2.imp_right fun ⟨hthree, hi⟩ => ⟨hthree, still, id, count, ?_⟩
      exact hi ▸ rfl
    · dsimp only [setCycle, removeTop, State.setTrl, CycleInv]
      omega

theorem popResumes_trailerInv {s : State} (h : TrailerInv s.trl) : TrailerInv (popResumes s).trl := by
  unfold popResumes
  split
  · next k still id count hcycle =>
    have hpop := h.cycle
    rw [hcycle] at hpop
    obtain ⟨hlow, hhigh, hgoes, hcount⟩ := hpop
    obtain ⟨m, draws, hmore, hlast, hstop⟩ :=
      popOn_stops (still := still) (id := id) (count := count) rfl hlow hhigh
    rw [hstop]
    have hlost : LostInv k s.trl := by
      refine ⟨h.chain, fun i r hr => (h.missed i r hr).imp_right ?_, h.silent, h.counting⟩
      rintro ⟨hthree, still', id', count', hsame⟩
      rw [hcycle] at hsame
      cases hsame
      exact ⟨hthree, rfl⟩
    exact popStop_trailerInv hlost hlow ⟨hgoes.le, hcount⟩ hmore hlast _ _ _
  · exact h

/-- What a POLL leads to names an address of the chain, or is discovery. -/
theorem cycleInv_afterPoll (n k : Nat) : CycleInv n (if k < n then .polling (k + 1) else .discovering) := by
  split
  · next hlt => exact ⟨Nat.succ_pos k, hlt⟩
  · trivial

/-- A chain within its bounds, one of its records missed once more. -/
theorem lostInv_missed {t : Trl} (h : ChainInv t) {k : Nat} (hlow : 1 ≤ k) {r : TrailerRecord} (hr : r ∈ t.chain) :
    LostInv k { t with chain := t.chain.set (k - 1) { r with missed := r.missed + 1 } } where
  chain := by simpa using h.chain
  missed := fun i x hx => by
    rw [List.getElem?_set] at hx
    split at hx
    · next hi =>
      obtain ⟨-, hx⟩ := Option.ite_none_right_eq_some.mp hx
      have hold := h.missed r hr
      obtain rfl := Option.some_inj.mp hx
      dsimp only
      omega
    · exact .inl (h.missed x (List.mem_of_getElem? hx))
  silent := h.silent
  counting := h.counting

/-- A record with its missed count within its bound, and the cycle going on (R173). -/
theorem polled_trailerInv {t : Trl} (h : ChainInv t) (k : Nat) {r : TrailerRecord} (hr : r.missed ≤ 2) :
    TrailerInv { t with
      chain := t.chain.set (k - 1) r
      cycle := if k < t.chain.length then .polling (k + 1) else .discovering } := by
  refine trailerInv_of_chainInv (chainInv_set h _ hr _) ?_
  rw [List.length_set]
  exact cycleInv_afterPoll _ k

section Poll

variable {k : Nat} {r : TrailerRecord} {s : State} (hr : s.trl.chain[k - 1]? = some r) (h : ChainInv s.trl)
include hr h

theorem pollEnds_missed_trailerInv (hlow : 1 ≤ k) {o : LineOutcome} (hmissed : ∀ a, o ≠ .answered a) :
    TrailerInv (pollEnds k r o s).trl := by
  by_cases hfew : r.missed < 2
  · rw [pollEnds_missed hr hmissed hfew]
    exact polled_trailerInv h k hfew
  · obtain ⟨m, draws, hmore, hlast, hpop⟩ := pollEnds_lost hr hmissed (not_lt.mp hfew) hlow
    have hlength := h.chain
    have hlost := lostInv_missed h hlow (List.mem_of_getElem? hr)
    have hset : (s.trl.chain.set (k - 1) { r with missed := r.missed + 1 }).length = s.trl.chain.length :=
      List.length_set
    rw [hpop]
    exact popStop_trailerInv hlost hlow (by dsimp only [State.setTrl]; omega) hmore
      (by dsimp only [State.setTrl]; omega) _ _ _

theorem pollEnds_trailerInv (hlow : 1 ≤ k) (o : LineOutcome) : TrailerInv (pollEnds k r o s).trl := by
  cases o with
  | answered a =>
    have hanswered : pollEnds k r (.answered a) s = afterPoll k (setMissed k 0 s) := rfl
    rw [hanswered, afterPoll_setMissed hr]
    exact polled_trailerInv h k (Nat.zero_le 2)
  | silent => exact pollEnds_missed_trailerInv hr h hlow nofun
  | error => exact pollEnds_missed_trailerInv hr h hlow nofun

end Poll

theorem pollWindow_trailerInv (r : Reception) {s : State} (h : TrailerInv s.trl) : TrailerInv (pollWindow r s).trl := by
  unfold pollWindow
  split
  · next k hcycle =>
    have hchain := chainInv_of_trailerInv h (by simp [hcycle])
    have hpoll := h.cycle
    rw [hcycle] at hpoll
    obtain ⟨hlow, -⟩ := hpoll
    split
    · next t ht => exact pollEnds_trailerInv ht hchain hlow _
    · exact trailerInv_of_chainInv { hchain with } trivial
  · exact h

/-! ## Discovery and hitching (R176 to R179) -/

theorem addressOf_bounds {chain : List TrailerRecord} {id : TrailerId} {k : Nat} (h : addressOf chain id = some k) :
    1 ≤ k ∧ k ≤ chain.length := by
  obtain ⟨i, hi, rfl⟩ := Option.map_eq_some_iff.mp h
  exact ⟨Nat.succ_pos i, (List.findIdx?_eq_some_iff_getElem.mp hi).1⟩

theorem breakSilence_chainInv {s : State} (h : ChainInv s.trl) : ChainInv (breakSilence s).trl := by
  unfold breakSilence
  split
  · exact { h with silent := Nat.zero_le 2, counting := fun _ => rfl }
  · exact h

theorem tooLong_chainInv (r : TagRecord) {s : State} (h : ChainInv s.trl) : ChainInv (tooLong r s).trl := by
  unfold tooLong
  dsimp only
  split <;> exact { h with silent := Nat.zero_le 2, counting := nofun }

theorem silentDiscovery_chainInv {s : State} (h : ChainInv s.trl) : ChainInv (silentDiscovery s).trl := by
  unfold silentDiscovery
  split
  · next hover =>
    split
    · next hfew =>
      exact { h with
        silent := Nat.le_of_lt_succ hfew
        counting := fun hnot => absurd (hover.symm.trans hnot) (by decide) }
    · exact { h with silent := Nat.zero_le 2, counting := fun _ => rfl }
  · exact h

theorem discoveryEnds_trailerInv (o : LineOutcome) {s : State} (h : ChainInv s.trl) :
    TrailerInv (discoveryEnds o s).trl := by
  have hbroken (c : Cycle) : ChainInv (setCycle c (breakSilence s)).trl := { breakSilence_chainInv h with }
  have hchain : (breakSilence s).trl.chain = s.trl.chain := by rw [breakSilence_eq]; rfl
  unfold discoveryEnds
  split
  · next r =>
    split
    · next k hk =>
      obtain ⟨hlow, hhigh⟩ := addressOf_bounds hk
      exact trailerInv_of_chainInv (hbroken _) ⟨hlow, hchain ▸ hhigh⟩
    · split
      · next hroom =>
        refine trailerInv_of_chainInv (hbroken _) ⟨Nat.succ_pos _, ?_⟩
        exact ⟨congrArg (·.length + 1) hchain.symm, hroom⟩
      · exact lampStep_trailerInv (tooLong_chainInv r h)
  · exact lampStep_trailerInv (silentDiscovery_chainInv h)
  · exact lampStep_trailerInv h

theorem discoveryWindow_trailerInv (r : Reception) {s : State} (h : TrailerInv s.trl) :
    TrailerInv (discoveryWindow r s).trl := by
  unfold discoveryWindow
  split
  · next hcycle => exact discoveryEnds_trailerInv _ (chainInv_of_trailerInv h (by simp [hcycle]))
  · exact h

theorem pushTrailer_chainInv (r : TagRecord) {s : State} (h : ChainInv s.trl) (hroom : s.trl.chain.length < 4) :
    ChainInv (pushTrailer r s).trl := by
  refine { h with chain := ?_, missed := fun x hx => ?_ }
  · simpa [pushTrailer, post] using hroom
  · rcases List.mem_append.mp hx with hx | hx
    · exact h.missed x hx
    · rw [List.mem_singleton.mp hx]
      exact Nat.zero_le 2

theorem setMissed_zero_chainInv (k : Nat) {s : State} (h : ChainInv s.trl) : ChainInv (setMissed k 0 s).trl := by
  cases hr : s.trl.chain[k - 1]? with
  | some r =>
    rw [setMissed_eq hr]
    exact chainInv_set h _ (Nat.zero_le 2) s.trl.cycle
  | none =>
    have hsame : setMissed k 0 s = setChain s.trl.chain s := by
      rw [setMissed, List.modify_eq_self (List.getElem?_eq_none_iff.mp hr)]
    exact hsame ▸ h

theorem assignEnds_trailerInv {k : Nat} {r : TagRecord} {rejoin : Bool} (o : LineOutcome) {s : State}
    (h : ChainInv s.trl) (hroom : rejoin = false → s.trl.chain.length < 4) :
    TrailerInv (assignEnds k r rejoin o s).trl := by
  unfold assignEnds
  split
  · refine lampStep_trailerInv ?_
    cases rejoin with
    | true => exact setMissed_zero_chainInv k h
    | false => exact pushTrailer_chainInv r h (hroom rfl)
  · refine lampStep_trailerInv ?_
    change ChainInv (countError o s).trl
    rwa [countError_trl]

theorem assignWindow_trailerInv (r : Reception) {s : State} (h : TrailerInv s.trl) :
    TrailerInv (assignWindow r s).trl := by
  unfold assignWindow
  split
  · next k rec rejoin hcycle =>
    refine assignEnds_trailerInv _ (s := s.setLine _) (chainInv_of_trailerInv h (by simp [hcycle])) fun hnew => ?_
    have hassign := h.cycle
    rw [hcycle, hnew] at hassign
    obtain ⟨-, hk, hfour⟩ := hassign
    exact hk ▸ hfour
  · exact h

end Sys2Proof.Proofs
end

section
/-! PROOFS. Every step keeps the counters within 0..65535 (R201): a counter changes only by being raised, so each
operation either leaves SVC alone or raises. -/

namespace Sys2Proof.Proofs

open Sys2Proof.Machine Sys2Proof.Laws Sys2Proof.Safety

/-! ## Raising -/

/-- An operation keeps the counters in range. -/
def KeepsCounters (f : State → State) : Prop :=
  ∀ s : State, CountersInv s.svc.counters → CountersInv (f s).svc.counters

theorem countersInv_raise {c : Counters} (h : CountersInv c) (id : CounterId) : CountersInv (c.raise id) := by
  intro j
  rw [counters_read_raise]
  split
  · exact Nat.min_le_left _ _
  · exact h j

theorem raise_keepsCounters (id : CounterId) : KeepsCounters (raise id) := fun _ h => countersInv_raise h id

/-- What leaves SVC alone keeps the counters. -/
theorem keepsCounters_of_svc {f : State → State} (hf : ∀ s, (f s).svc = s.svc) : KeepsCounters f :=
  fun s h => (hf s).symm ▸ h

/-- What leaves the counters out of its footprint keeps them. -/
theorem keepsCounters_of_frame {F : Foot} {f : State → State} (hf : ∀ s, blank F (f s) = blank F s)
    (hF : F.counters = false) : KeepsCounters f :=
  fun s h => (blank_counters (hf s) hF).symm ▸ h

theorem keepsCounters_ite {p : Prop} [Decidable p] {f : State → State} (hf : KeepsCounters f) {s : State}
    (h : CountersInv s.svc.counters) : CountersInv (if p then f s else s).svc.counters := by
  split
  · exact hf s h
  · exact h

theorem whileUp_keepsCounters {f : State → State} (hf : KeepsCounters f) {s t : State}
    (e : whileUp s f = .next t) (h : CountersInv s.svc.counters) : CountersInv t.svc.counters := by
  unfold whileUp at e
  split at e <;> cases e
  · exact h
  · exact hf s h

/-! ## POS, PEER and CLM (R5, R10, R67, R105) -/

theorem tagPlaced_keepsCounters (tag : TagNumber) (sec distance : Nat) :
    KeepsCounters (tagPlaced tag sec distance) := by
  intro s h
  unfold tagPlaced
  split
  · exact h
  · split
    · exact raise_keepsCounters _ s h
    · rwa [blank_counters (positionCheck_frame (G := footClm) rfl _ _ _) rfl]

theorem tagArrives_keepsCounters (tag : TagNumber) : KeepsCounters (tagArrives tag) := by
  intro s h
  unfold tagArrives
  split
  · exact raise_keepsCounters _ s h
  · exact raise_keepsCounters _ s h
  · exact tagPlaced_keepsCounters tag _ _ s h

theorem noteLost_svc (before : Position) (s : State) : (noteLost before s).svc = s.svc := by
  unfold noteLost
  split <;> rfl

theorem pulseArrives_keepsCounters : KeepsCounters pulseArrives := by
  intro s h
  unfold pulseArrives
  dsimp only
  split
  · exact h
  · unfold movePosition
    rw [blank_counters (positionCheck_frame (G := footClm) rfl _ _ _) rfl, noteLost_svc]
    exact h

theorem postWatched_svc (d : FilterAction) (station : Nat) (s : State) : (postWatched d station s).svc = s.svc := by
  unfold postWatched
  split <;> rfl

theorem peerTake_keepsCounters (station : Nat) (b : Beacon) (received : Time) (d : FilterAction) :
    KeepsCounters (peerTake station b received d) := by
  intro s h
  unfold peerTake
  split
  · exact h
  · split
    · rw [postWatched_svc]
      exact h
    · exact raise_keepsCounters _ s h

theorem peerTakesOldest_keepsCounters : KeepsCounters peerTakesOldest := by
  intro s h
  unfold peerTakesOldest
  split
  · exact h
  · dsimp only
    split
    · exact peerTake_keepsCounters _ _ _ _ _ h
    · exact h

theorem learnHold_keepsCounters (station : Nat) (b : Beacon) (received : Time) (hold : HoldEntry) :
    KeepsCounters (learnHold station b received hold) := by
  intro s h
  rw [learnHold_counters]
  split
  · exact countersInv_raise h _
  · exact h

theorem clmTakePosition_keepsCounters (station : Nat) (b : Beacon) (received : Time) :
    KeepsCounters (clmTakePosition station b received) := by
  intro s h
  unfold clmTakePosition
  rw [blank_counters (reviewChanged_frame (G := footClm) rfl _ _) rfl,
    blank_counters (dropOmitted_frame (G := footClm) rfl _ _ _) rfl]
  generalize b.holds = holds
  induction holds generalizing s with
  | nil => exact h
  | cons hold holds ih => exact ih _ (learnHold_keepsCounters station b received hold s h)

theorem clmTakes_keepsCounters {f : Received → Option (State → State)} (hf : ∀ r g, f r = some g → KeepsCounters g) :
    KeepsCounters (clmTakes f) := by
  intro s h
  unfold clmTakes
  split
  · exact h
  · split
    · next g hg => exact hf _ g hg _ h
    · exact h

/-! ## The receive path (R28 to R36) -/

theorem dispatchPeer_keepsCounters (r : Received) (d : FilterAction) : KeepsCounters (dispatchPeer r d) := by
  intro s h
  unfold dispatchPeer
  split
  · exact h
  · exact raise_keepsCounters _ s h

theorem dispatchCvy_keepsCounters (r : Received) : KeepsCounters (dispatchCvy r) := by
  intro s h
  unfold dispatchCvy
  split
  · exact h
  · exact raise_keepsCounters _ s h

theorem dispatchClm_keepsCounters (r : Received) : KeepsCounters (dispatchClm r) := by
  intro s h
  unfold dispatchClm
  split
  · exact h
  · exact raise_keepsCounters _ s h

theorem dispatchFiltered_keepsCounters (r : Received) : KeepsCounters (dispatchFiltered r) := by
  intro s h
  unfold dispatchFiltered
  split
  · exact raise_keepsCounters _ s h
  · exact dispatchPeer_keepsCounters r _ s h

theorem dispatch_keepsCounters (r : Received) : KeepsCounters (dispatch r) := by
  intro s h
  unfold dispatch
  split
  · exact dispatchClm_keepsCounters r _ (dispatchCvy_keepsCounters r _ (dispatchFiltered_keepsCounters r s h))
  · exact dispatchClm_keepsCounters r s h
  · exact dispatchClm_keepsCounters r s h
  · exact dispatchCvy_keepsCounters r s h
  · exact dispatchCvy_keepsCounters r s h

theorem noteClash_svc (kind : Nat) (s : State) : (noteClash kind s).svc = s.svc := by
  unfold noteClash
  split <;> rfl

theorem complete_keepsCounters (body : List Byte) (computed check : Byte) (received : Time) :
    KeepsCounters (complete body computed check received) := by
  intro s h
  unfold complete
  split
  · exact dispatch_keepsCounters _ _ (raise_keepsCounters _ s h)
  · rw [noteClash_svc]
    exact raise_keepsCounters _ s h
  · exact raise_keepsCounters _ s h

/-- A partial frame dropped as LENGTH (R29). -/
theorem dropFrame_keepsCounters : KeepsCounters fun s => raise .length (setAssembler .idle none s) :=
  fun s h => raise_keepsCounters .length (setAssembler .idle none s) h

theorem openFrame_keepsCounters (b : Byte) : KeepsCounters (openFrame b) := by
  intro s h
  unfold openFrame
  split
  · exact h
  · exact dropFrame_keepsCounters s h

theorem takeByte_keepsCounters (start : Bool) (b : Byte) : KeepsCounters (takeByte start b) := by
  intro s h
  unfold takeByte
  split
  · split
    · exact openFrame_keepsCounters b s h
    · exact h
  · split
    · exact openFrame_keepsCounters b _ (dropFrame_keepsCounters s h)
    · split
      · exact h
      · exact complete_keepsCounters _ _ _ _ _ h

theorem dropPartial_keepsCounters : KeepsCounters dropPartial := by
  intro s h
  unfold dropPartial
  split
  · exact h
  · exact dropFrame_keepsCounters s h

/-! ## The driver channels (R153) -/

theorem endFailsafe_svc (width : Nat) (s : State) : (endFailsafe width s).svc = s.svc := by
  unfold endFailsafe
  dsimp only
  split <;> rfl

theorem validThrottle_svc (width : Nat) (s : State) : (validThrottle width s).svc = s.svc := by
  unfold validThrottle
  dsimp only
  split
  · rfl
  · split
    · rfl
    · exact endFailsafe_svc width _

theorem throttle_keepsCounters (width : Nat) : KeepsCounters (throttle width) := by
  intro s h
  unfold throttle
  split
  · exact h
  · exact raise_keepsCounters _ _ h
  · rwa [validThrottle_svc]

theorem validFunction_svc (c : FnPosition) (s : State) : (validFunction c s).svc = s.svc := by
  unfold validFunction
  dsimp only
  repeat' split
  all_goals rfl

theorem functionInput_keepsCounters (width : Nat) : KeepsCounters (functionInput width) := by
  intro s h
  unfold functionInput
  split
  · exact h
  · exact raise_keepsCounters _ s h
  · rwa [validFunction_svc]

theorem throttleSilent_svc (s : State) : (throttleSilent s).svc = s.svc := by
  unfold throttleSilent
  split <;> rfl

/-! ## The trailer line (R169) -/

theorem countError_keepsCounters (o : LineOutcome) : KeepsCounters (countError o) := by
  intro s h
  cases o with
  | error => exact raise_keepsCounters _ s h
  | answered a => exact h
  | silent => exact h

theorem lampStep_svc (s : State) : (lampStep s).svc = s.svc := by
  unfold lampStep
  dsimp only
  split <;> rfl

theorem popTop_svc (still : Bool) (s : State) : (popTop still s).svc = s.svc := by
  unfold popTop
  split
  · rfl
  · dsimp only
    split <;> rfl

theorem popEnds_svc (k : Nat) (still : Bool) (id : TrailerId) (count : Nat) (s : State) :
    (popEnds k still id count s).svc = s.svc := by
  unfold popEnds
  dsimp only
  split <;> rfl

theorem popOn_svc (k : Nat) (still : Bool) (id : TrailerId) (count n : Nat) (s : State) :
    (popOn k still id count n s).svc = s.svc := by
  induction n generalizing s with
  | zero => exact popEnds_svc _ _ _ _ s
  | succ n ih =>
    cases n with
    | zero => exact (popEnds_svc _ _ _ _ _).trans (popTop_svc still s)
    | succ n =>
      unfold popOn
      dsimp only
      split
      · exact popTop_svc still s
      · exact (ih _).trans (popTop_svc still s)

theorem popResumes_svc (s : State) : (popResumes s).svc = s.svc := by
  unfold popResumes
  split
  · exact popOn_svc _ _ _ _ _ s
  · rfl

/-- Beside the pop and the cycle a POLL only counts an error. -/
theorem pollEnds_svc (k : Nat) (r : TrailerRecord) (o : LineOutcome) (s : State) :
    (pollEnds k r o s).svc = (countError o s).svc := by
  unfold pollEnds
  split
  · rfl
  · dsimp only
    split
    · rfl
    · exact popOn_svc _ _ _ _ _ _

theorem pollWindow_keepsCounters (r : Reception) : KeepsCounters (pollWindow r) := by
  intro s h
  unfold pollWindow
  split
  · split
    · rw [pollEnds_svc]
      exact countError_keepsCounters _ s h
    · exact h
  · exact h

theorem breakSilence_svc (s : State) : (breakSilence s).svc = s.svc := by
  rw [breakSilence_eq]
  rfl

theorem tooLong_svc (r : TagRecord) (s : State) : (tooLong r s).svc = s.svc := by
  unfold tooLong
  dsimp only
  split <;> rfl

theorem silentDiscovery_svc (s : State) : (silentDiscovery s).svc = s.svc := by
  unfold silentDiscovery
  repeat' split
  all_goals rfl

theorem discoveryEnds_svc (o : LineOutcome) (s : State) : (discoveryEnds o s).svc = (countError o s).svc := by
  unfold discoveryEnds
  split
  · split
    · exact breakSilence_svc s
    · split
      · exact breakSilence_svc s
      · exact (lampStep_svc _).trans (tooLong_svc _ s)
  · exact (lampStep_svc _).trans (silentDiscovery_svc s)
  · exact lampStep_svc _

theorem discoveryWindow_keepsCounters (r : Reception) : KeepsCounters (discoveryWindow r) := by
  intro s h
  unfold discoveryWindow
  split
  · rw [discoveryEnds_svc]
    exact countError_keepsCounters _ s h
  · exact h

theorem assignEnds_svc (k : Nat) (r : TagRecord) (rejoin : Bool) (o : LineOutcome) (s : State) :
    (assignEnds k r rejoin o s).svc = (countError o s).svc := by
  unfold assignEnds
  split
  · rw [lampStep_svc]
    split <;> rfl
  · exact lampStep_svc _

theorem assignWindow_keepsCounters (r : Reception) : KeepsCounters (assignWindow r) := by
  intro s h
  unfold assignWindow
  split
  · rw [assignEnds_svc]
    exact countError_keepsCounters _ _ h
  · exact h

/-! ## Channel access (R56, R57) -/

theorem wakeAccess_svc (s : State) : (wakeAccess s).svc = s.svc := by
  unfold wakeAccess
  split <;> rfl

theorem afterTransmission_svc (s : State) : (afterTransmission s).svc = s.svc := by
  unfold afterTransmission
  split <;> rfl

theorem handOverFrom_svc (ids : List SlotId) (s : State) : (handOverFrom ids s).svc = s.svc := by
  induction ids generalizing s with
  | nil => rfl
  | cons id ids ih =>
    unfold handOverFrom
    dsimp only
    split
    · split
      · exact ih _
      · rfl
    · exact ih _

theorem startCounting_svc (s : State) : (startCounting s).svc = s.svc := by
  unfold startCounting
  split
  · exact handOverFrom_svc _ _
  · rfl

theorem quietPassed_svc (s : State) : (quietPassed s).svc = s.svc := by
  unfold quietPassed
  split
  · exact startCounting_svc s
  · exact startCounting_svc _

theorem tickCount_svc (s : State) : (tickCount s).svc = s.svc := by
  unfold tickCount
  dsimp only
  split
  · exact handOverFrom_svc _ _
  · rfl

theorem carrierOn_svc (s : State) : (carrierOn s).svc = s.svc := by
  unfold carrierOn
  dsimp only
  split <;> rfl

theorem carrierOff_svc (s : State) : (carrierOff s).svc = s.svc := by
  unfold carrierOff
  dsimp only
  split <;> rfl

/-! ## The transmit slots (R42 to R51) -/

theorem notifyCancelled_svc (id : SlotId) (c : Option Content) (ns : List Nat) (s : State) :
    (notifyCancelled id c ns s).svc = s.svc := by
  unfold notifyCancelled
  split <;> rfl

theorem addSuperseding_svc (id : SlotId) (c : Content) (n : Nat) (s : State) :
    (addSuperseding id c n s).svc = s.svc := by
  unfold addSuperseding
  dsimp only
  split
  · exact wakeAccess_svc _
  · exact notifyCancelled_svc _ _ _ _
  · split
    · exact notifyCancelled_svc _ _ _ _
    · rfl

theorem addToReload_svc (x : Slot) (sec n : Nat) (s : State) : (addToReload x sec n s).svc = s.svc := by
  unfold addToReload
  dsimp only
  repeat' split
  · rfl
  · rfl
  · rfl
  · exact notifyCancelled_svc _ _ _ _

theorem addRelease_svc (sec n : Nat) (s : State) : (addRelease sec n s).svc = s.svc := by
  unfold addRelease
  dsimp only
  repeat' split
  · exact wakeAccess_svc _
  · rfl
  · rfl
  · exact addToReload_svc _ _ _ s
  · exact addToReload_svc _ _ _ s

theorem addPosition_keepsCounters (n : Nat) : KeepsCounters (addPosition n) := by
  intro s h
  unfold addPosition
  dsimp only
  split
  · rwa [wakeAccess_svc]
  · exact raise_keepsCounters _ _ h

theorem cancelSlot_svc (id : SlotId) (n : Nat) (s : State) : (cancelSlot id n s).svc = s.svc := by
  unfold cancelSlot
  dsimp only
  repeat' split
  · rfl
  · exact notifyCancelled_svc _ _ _ _
  · rfl
  · exact notifyCancelled_svc _ _ _ _
  · rfl

theorem takeRequest_keepsCounters (id : SlotId) {f : Request → Option (Nat → State → State)}
    (hf : ∀ r g n, f r = some g → KeepsCounters (g n)) : KeepsCounters (takeRequest id f) := by
  intro s h
  unfold takeRequest
  split
  · exact h
  · split
    · exact h
    · next g hg =>
      dsimp only
      split
      · exact hf _ g _ hg _ h
      · exact h

theorem noteBeacon_svc (id : SlotId) (s : State) : (noteBeacon id s).svc = s.svc := by
  unfold noteBeacon
  split <;> rfl

theorem finishSent_keepsCounters (id : SlotId) : KeepsCounters (finishSent id) := by
  intro s h
  have hsent := raise_keepsCounters .sent s h
  unfold finishSent
  dsimp only
  rw [afterTransmission_svc]
  change CountersInv (noteBeacon id _).svc.counters
  rw [noteBeacon_svc]
  exact hsent

theorem finishAborted_keepsCounters (id : SlotId) : KeepsCounters (finishAborted id) := by
  intro s h
  have haborted := raise_keepsCounters .aborted s h
  unfold finishAborted
  dsimp only
  rw [afterTransmission_svc]
  exact haborted

theorem onAirSlot_keepsCounters {f : SlotId → State → State} (hf : ∀ id, KeepsCounters (f id)) :
    KeepsCounters (onAirSlot f) := by
  intro s h
  unfold onAirSlot
  split
  · exact hf _ s h
  · exact h

end Sys2Proof.Proofs
end

section
/-! PROOFS. Every step keeps the journal a queue, the counters in range and the trailer port in bounds (R170, R197,
R201). -/

namespace Sys2Proof.Proofs

open Sys2Proof.Machine Sys2Proof.Laws Sys2Proof.Safety

/-! ## What a step keeps of the three -/

/-- From `s` to `t` the journal stays a queue, the counters stay in range and the trailer port in bounds. -/
structure TablesKept (s t : State) : Prop where
  journal : JournalInv s.svc.journal → JournalInv t.svc.journal
  counters : CountersInv s.svc.counters → CountersInv t.svc.counters
  trailers : TrailerInv s.trl → TrailerInv t.trl

theorem TablesKept.refl (s : State) : TablesKept s s := ⟨id, id, id⟩

section Frame

variable {F : Foot} {s t : State} (hframe : blank F t = blank F s)
include hframe

/-- What leaves all three out of its footprint keeps them. -/
theorem tablesKept_of_frame (hjournal : F.journal = false) (hcounters : F.counters = false) (htrl : F.trl = false) :
    TablesKept s t :=
  ⟨(blank_journal hframe hjournal).symm ▸ id, (blank_counters hframe hcounters).symm ▸ id,
    (blank_trl hframe htrl).symm ▸ id⟩

/-- What leaves journal and trailer port out of its footprint, and keeps the counters. -/
theorem tablesKept_of_counters (hkept : CountersInv s.svc.counters → CountersInv t.svc.counters)
    (hjournal : F.journal = false) (htrl : F.trl = false) : TablesKept s t :=
  ⟨(blank_journal hframe hjournal).symm ▸ id, hkept, (blank_trl hframe htrl).symm ▸ id⟩

/-- A guarded command that, of the three, changes the counters alone. -/
theorem tablesKept_of_counting {f : State → State} (hf : KeepsCounters f) (e : whileUp s f = .next t)
    (hjournal : F.journal = false) (htrl : F.trl = false) : TablesKept s t :=
  tablesKept_of_counters hframe (whileUp_keepsCounters hf e) hjournal htrl

/-- What leaves journal and counters out of its footprint, and keeps the trailer port. -/
theorem tablesKept_of_trailers (hkept : TrailerInv s.trl → TrailerInv t.trl)
    (hjournal : F.journal = false) (hcounters : F.counters = false) : TablesKept s t :=
  ⟨(blank_journal hframe hjournal).symm ▸ id, (blank_counters hframe hcounters).symm ▸ id, hkept⟩

/-- What leaves the counters and the trailer port out of its footprint, and keeps the journal. -/
theorem tablesKept_of_journal (hkept : JournalInv s.svc.journal → JournalInv t.svc.journal)
    (hcounters : F.counters = false) (htrl : F.trl = false) : TablesKept s t :=
  ⟨hkept, (blank_counters hframe hcounters).symm ▸ id, (blank_trl hframe htrl).symm ▸ id⟩

end Frame

/-- A command guarded by the hold of the node in reset. -/
theorem tablesKept_whileUp {f : State → State} (hf : ∀ s, TablesKept s (f s)) {s t : State}
    (e : whileUp s f = .next t) : TablesKept s t := by
  unfold whileUp at e
  split at e <;> cases e
  · exact .refl s
  · exact hf s

theorem tablesKept_ite {p : Prop} [Decidable p] {s t : State} (h : TablesKept s t) :
    TablesKept s (if p then t else s) := by
  split
  · exact h
  · exact .refl s

/-! ## The service unit (R197, R199, R201) -/

theorem takePost_journalInv (block : BlockId) {s : State} (h : JournalInv s.svc.journal) :
    JournalInv (takePost block s).svc.journal := by
  unfold takePost
  split
  · exact h
  · exact journalInv_take h _

theorem acknowledgeIndex_journalInv (i : Nat) {s : State} (h : JournalInv s.svc.journal) :
    JournalInv (acknowledgeIndex i s).svc.journal := by
  unfold acknowledgeIndex
  split
  · next hholds => exact journalInv_giveUp h hholds
  · exact h

theorem request_tablesKept {f : State → State} (hf : ∀ s, TablesKept s (f s)) (s : State) :
    TablesKept s (request f s) := by
  unfold request
  split
  · exact hf s
  · exact ⟨id, id, id⟩

theorem acknowledgeIndex_tablesKept (i : Nat) (s : State) : TablesKept s (acknowledgeIndex i s) :=
  tablesKept_of_journal (acknowledgeIndex_frame (G := footAck) rfl i s) (acknowledgeIndex_journalInv i) rfl rfl

theorem clearCounters_tablesKept (s : State) : TablesKept s (clearCounters s) :=
  ⟨id, fun _ => reset_countersInv, id⟩

/-! ## Resets (R184) -/

theorem journalInv_cleared : JournalInv Journal.cleared where
  places := rfl
  get := by decide
  put := rfl
  fill := by decide
  lost := by decide
  held := by decide

/-- A reset takes START into the journal it is given, and puts TRL at its reset values. -/
theorem resetNode_tablesKept {cause : ResetCause} {count : Nat} {j : Journal} {c : Counters} {s : State} (u : State)
    (hj : JournalInv s.svc.journal → JournalInv j) (hc : CountersInv s.svc.counters → CountersInv c) :
    TablesKept s (resetNode cause count j c u) :=
  ⟨fun h => journalInv_take (hj h) _, hc, fun _ => reset_trailerInv⟩

theorem serviceRestart_tablesKept (s : State) : TablesKept s (serviceRestart s) :=
  tablesKept_ite (resetNode_tablesKept _ id id)

/-! ## The settings load and parking (R171, R187) -/

theorem loadFails_tablesKept (cause : FaultCause) (detail : Nat) (s : State) :
    TablesKept s (loadFails cause detail s) := by
  rw [loadFails_eq]
  exact ⟨id, id, id⟩

theorem readFailed_tablesKept (s : State) : TablesKept s (readFailed s) := by
  unfold readFailed
  split
  · exact ⟨id, id, id⟩
  · exact loadFails_tablesKept _ _ s

theorem enterListening_tablesKept (s : State) : TablesKept s (enterListening s) := by
  have htrl : (forgetAll s).trl = s.trl := blank_trl (forgetAll_frame (G := footLine) rfl s) rfl
  refine ⟨id, id, fun h => ?_⟩
  rw [← htrl] at h
  exact { h with }

theorem readCompletes_tablesKept (img : List Byte) (s : State) : TablesKept s (readCompletes img s) := by
  unfold readCompletes
  split
  · exact loadFails_tablesKept _ _ s
  · have hframe : blank footPost (postClamped img s) = blank footPost s :=
      foldl_frame (fun s _ => post_frame rfl _ _ _ _ _ s) _ s
    have hclamped := tablesKept_of_frame hframe rfl rfl rfl
    have hentered := enterListening_tablesKept (handSettings img (postClamped img s))
    exact ⟨hentered.journal ∘ hclamped.journal, hentered.counters ∘ hclamped.counters,
      hentered.trailers ∘ hclamped.trailers⟩

/-- What ends a read of the store does so only while one is under way (R186). -/
theorem whileReading_tablesKept {f : State → State} (hf : ∀ s, TablesKept s (f s)) {s t : State}
    (e : whileUp s (fun s => if s.node.store = .reading then f s else s) = .next t) : TablesKept s t :=
  tablesKept_whileUp (fun s => tablesKept_ite (hf s)) e

theorem storeReadComplete_tablesKept (image : List Byte) {s t : State} (e : execStoreReadComplete image s = .next t) :
    TablesKept s t := by
  unfold execStoreReadComplete at e
  split at e
  · exact whileReading_tablesKept (readCompletes_tablesKept image) e
  · cases e

theorem parkTest_trl (s : State) : (parkTest s).trl = s.trl := by
  unfold parkTest
  repeat' split
  all_goals rfl

/-- Out of PARKED the cycle timer is shortened, and nothing else of TRL changes (R171). -/
theorem nodeChange_trailerInv (c : FnChange) {s : State} (h : TrailerInv s.trl) : TrailerInv (nodeChange c s).trl := by
  unfold nodeChange
  split
  · split
    · rwa [parkTest_trl]
    · exact h
  · split
    · unfold leaveParked
      rw [blank_trl (enterRunning_frame (G := footRun) rfl _) rfl]
      exact { h with }
    · exact h
  · exact h
  · exact h
  · exact h

theorem nodeTakesChange_trailerInv {s : State} (h : TrailerInv s.trl) : TrailerInv (nodeTakesChange s).trl := by
  unfold nodeTakesChange
  split
  · exact h
  · exact nodeChange_trailerInv _ h

theorem nodeTakesChange_tablesKept (s : State) : TablesKept s (nodeTakesChange s) :=
  tablesKept_of_trailers (nodeTakesChange_frame (G := footPark) rfl s) nodeTakesChange_trailerInv rfl rfl

/-! ## The trailer port -/

/-- A command of TRL leaves the journal alone. -/
theorem tablesKept_of_trl {f : State → State} (hframe : ∀ s, blank footTrl (f s) = blank footTrl s)
    (hcounters : KeepsCounters f) (htrl : ∀ {s : State}, TrailerInv s.trl → TrailerInv (f s).trl) (s : State) :
    TablesKept s (f s) :=
  ⟨(blank_journal (hframe s) rfl).symm ▸ id, hcounters s, htrl⟩

theorem beginCycle_tablesKept (s : State) : TablesKept s (beginCycle s) :=
  tablesKept_of_trl (beginCycle_frame rfl) (keepsCounters_of_svc fun s => by rw [beginCycle_eq]; rfl)
    beginCycle_trailerInv s

theorem popResumes_tablesKept : ∀ s, TablesKept s (popResumes s) :=
  tablesKept_of_trl (popResumes_frame rfl) (keepsCounters_of_svc popResumes_svc) popResumes_trailerInv

theorem tagGainsLine_tablesKept (gain : TagGain) {s t : State} (e : execTagGainsLine gain s = .next t) :
    TablesKept s t := by
  unfold execTagGainsLine at e
  split at e <;> cases e
  exact ⟨id, id, id⟩

/-! ## Every command -/

/-- Every command keeps the three: those of SVC and TRL by what they do there, those that count by raising, a reset
and the load by what they set, the others by their footprints. -/
theorem exec_tablesKept (c : Instr) {s t : State} (e : exec c s = .next t) : TablesKept s t := by
  cases c with
  | powerOn => cases e; exact resetNode_tablesKept _ (fun _ => journalInv_cleared) fun _ => reset_countersInv
  | supplyBelowDipThreshold =>
    cases e
    exact ⟨fun _ => journalInv_cleared, fun _ => reset_countersInv, fun _ => reset_trailerInv⟩
  | supplyDip lineHeld =>
    cases e
    exact resetNode_tablesKept _ (fun _ => journalInv_cleared) fun _ => reset_countersInv
  | serviceRestart => exact tablesKept_whileUp serviceRestart_tablesKept e
  | loadRetry =>
    refine tablesKept_whileUp (fun s => ?_) (show execLoadRetry s = .next t from e)
    exact tablesKept_ite ⟨id, id, id⟩
  | storeNoAck => exact whileReading_tablesKept readFailed_tablesKept e
  | storeByteTimeout => exact whileReading_tablesKept readFailed_tablesKept e
  | storeReadComplete image => exact storeReadComplete_tablesKept image e
  | listenTimer => exact tablesKept_of_frame (execListenTimer_frame (G := footRun) rfl e) rfl rfl rfl
  | tagRead tag =>
    refine tablesKept_of_counting (execTagRead_frame (G := footPos) rfl tag e)
      (fun s h => ?_) (show execTagRead tag s = .next t from e) rfl rfl
    exact keepsCounters_ite (tagArrives_keepsCounters tag) h
  | wheelPulse =>
    exact tablesKept_of_counting (execWheelPulse_frame (G := footPos) rfl e)
      pulseArrives_keepsCounters e rfl rfl
  | binTimer =>
    refine tablesKept_whileUp (fun s => ?_) (show execBinTimer s = .next t from e)
    exact tablesKept_ite ⟨id, id, id⟩
  | receiveByte start byte =>
    refine tablesKept_of_counting (execReceiveByte_frame (G := footAir) rfl start byte e)
      (fun s h => ?_) (show execReceiveByte start byte s = .next t from e) rfl rfl
    exact keepsCounters_ite (takeByte_keepsCounters start byte) h
  | byteGapTimeout =>
    exact tablesKept_of_counting (execByteGapTimeout_frame (G := footAir) rfl e)
      dropPartial_keepsCounters e rfl rfl
  | peerTakesPosition =>
    exact tablesKept_of_counting (execPeerTakesPosition_frame (G := footPeerTake) rfl e)
      peerTakesOldest_keepsCounters e rfl rfl
  | peerSweep =>
    refine tablesKept_whileUp (fun s => ?_) (show execPeerSweep s = .next t from e)
    exact tablesKept_ite ⟨id, id, id⟩
  | cvyTakesPosition => exact tablesKept_of_frame (execCvyTakesPosition_frame (G := footCvyTake) rfl e) rfl rfl rfl
  | cvyTakesHalt => exact tablesKept_of_frame (execCvyTakesHalt_frame (G := footCvyTake) rfl e) rfl rfl rfl
  | cvyTakesResume => exact tablesKept_of_frame (execCvyTakesResume_frame (G := footCvyTake) rfl e) rfl rfl rfl
  | cvySweep => exact tablesKept_of_frame (execCvySweep_frame (G := footCvy) rfl e) rfl rfl rfl
  | cvyFunctionChange => exact tablesKept_of_frame (execCvyFunctionChange_frame (G := footCvy) rfl e) rfl rfl rfl
  | ownCauseAdd source => exact tablesKept_of_frame (execOwnCauseAdd_frame (G := footCvy) rfl source e) rfl rfl rfl
  | ownCauseRemove source =>
    exact tablesKept_of_frame (execOwnCauseRemove_frame (G := footCvy) rfl source e) rfl rfl rfl
  | acknowledgeGesture => exact tablesKept_of_frame (execAcknowledgeGesture_frame (G := footCvy) rfl e) rfl rfl rfl
  | cvyHaltNotice => exact tablesKept_of_frame (execCvyHaltNotice_frame (G := footCvy) rfl e) rfl rfl rfl
  | clmTakesPosition =>
    refine tablesKept_of_counting (execClmTakesPosition_frame (G := footClmTake) rfl e)
      (clmTakes_keepsCounters fun r g hg => ?_) e rfl rfl
    split at hg <;> cases hg
    exact clmTakePosition_keepsCounters _ _ _
  | clmTakesClaim =>
    refine tablesKept_of_counting (execClmTakesClaim_frame (G := footClmTake) rfl e)
      (clmTakes_keepsCounters fun r g hg => ?_) e rfl rfl
    split at hg <;> cases hg
    exact keepsCounters_of_frame (clmTakeClaim_frame (G := footClm) rfl _ _) rfl
  | clmTakesRelease =>
    refine tablesKept_of_counting (execClmTakesRelease_frame (G := footClmTake) rfl e)
      (clmTakes_keepsCounters fun r g hg => ?_) e rfl rfl
    split at hg <;> cases hg
    exact keepsCounters_of_frame (clmTakeRelease_frame (G := footClm) rfl _ _) rfl
  | clmSweep => exact tablesKept_of_frame (execClmSweep_frame (G := footClm) rfl e) rfl rfl rfl
  | claimWindow sec => exact tablesKept_of_frame (execClaimWindow_frame (G := footClm) rfl sec e) rfl rfl rfl
  | clmClaimNotice => exact tablesKept_of_frame (execClmClaimNotice_frame (G := footClm) rfl e) rfl rfl rfl
  | clmReleaseNotice => exact tablesKept_of_frame (execClmReleaseNotice_frame (G := footClm) rfl e) rfl rfl rfl
  | addRequest slot =>
    refine tablesKept_of_counting (execAddRequest_frame (G := footAir) rfl slot e)
      (takeRequest_keepsCounters _ fun r g n hg => ?_) e rfl rfl
    split at hg <;> cases hg
    exact keepsCounters_of_svc (addSuperseding_svc _ _ n)
  | releaseAddRequest =>
    refine tablesKept_of_counting (execReleaseAddRequest_frame (G := footAir) rfl e)
      (takeRequest_keepsCounters _ fun r g n hg => ?_) e rfl rfl
    split at hg <;> cases hg
    exact keepsCounters_of_svc (addRelease_svc _ n)
  | positionAddRequest =>
    refine tablesKept_of_counting (execPositionAddRequest_frame (G := footAir) rfl e)
      (takeRequest_keepsCounters _ fun r g n hg => ?_) e rfl rfl
    split at hg <;> cases hg
    exact addPosition_keepsCounters n
  | cancelRequest slot =>
    refine tablesKept_of_counting (execCancelRequest_frame (G := footAir) rfl slot e)
      (takeRequest_keepsCounters _ fun r g n hg => ?_) e rfl rfl
    split at hg <;> cases hg
    exact keepsCounters_of_svc (cancelSlot_svc slot n)
  | beaconTimer =>
    refine tablesKept_whileUp (fun s => ?_) (show execBeaconTimer s = .next t from e)
    exact tablesKept_ite ⟨id, id, id⟩
  | beaconNotice =>
    exact tablesKept_of_frame (whileUp_frame (takeNotice_frame (G := footPost) rfl fun _ _ => rfl) e) rfl rfl rfl
  | carrierAppears =>
    cases e
    exact tablesKept_of_counters (carrierOn_frame (G := footAir) rfl s) (keepsCounters_of_svc carrierOn_svc s) rfl rfl
  | carrierAbsent =>
    cases e
    exact tablesKept_of_counters (carrierOff_frame (G := footAir) rfl s) (keepsCounters_of_svc carrierOff_svc s) rfl rfl
  | quietTimer =>
    refine tablesKept_of_counting (execQuietTimer_frame (G := footAir) rfl e)
      (fun s h => ?_) (show execQuietTimer s = .next t from e) rfl rfl
    exact keepsCounters_ite (keepsCounters_of_svc quietPassed_svc) h
  | countdownTick =>
    refine tablesKept_of_counting (execCountdownTick_frame (G := footAir) rfl e)
      (fun s h => ?_) (show execCountdownTick s = .next t from e) rfl rfl
    exact keepsCounters_ite (keepsCounters_of_svc tickCount_svc) h
  | doneSignal =>
    exact tablesKept_of_counting (execDoneSignal_frame (G := footAir) rfl e)
      (onAirSlot_keepsCounters finishSent_keepsCounters) e rfl rfl
  | transceiverTimeout =>
    exact tablesKept_of_counting (execTransceiverTimeout_frame (G := footAir) rfl e)
      (onAirSlot_keepsCounters finishAborted_keepsCounters) e rfl rfl
  | governorUpdate => exact tablesKept_of_frame (execGovernorUpdate_frame (G := footGov) rfl e) rfl rfl rfl
  | frameTimer =>
    refine tablesKept_whileUp (fun s => ?_) (show execFrameTimer s = .next t from e)
    exact tablesKept_ite ⟨id, id, id⟩
  | motorPulseEnd => cases e; exact ⟨id, id, id⟩
  | throttlePulse width =>
    exact tablesKept_of_counting (execThrottlePulse_frame (G := footDrv) rfl width e)
      (throttle_keepsCounters width) e rfl rfl
  | silenceTimer =>
    refine tablesKept_of_counting (execSilenceTimer_frame (G := footDrv) rfl e)
      (fun s h => ?_) (show execSilenceTimer s = .next t from e) rfl rfl
    exact keepsCounters_ite (keepsCounters_of_svc throttleSilent_svc) h
  | functionPulse width =>
    exact tablesKept_of_counting (execFunctionPulse_frame (G := footDrv) rfl width e)
      (functionInput_keepsCounters width) e rfl rfl
  | functionSilenceTimer =>
    refine tablesKept_whileUp (fun s => ?_) (show execFunctionSilenceTimer s = .next t from e)
    exact tablesKept_ite ⟨id, id, id⟩
  | nodeFunctionChange => exact tablesKept_whileUp nodeTakesChange_tablesKept e
  | cycleTimer =>
    refine tablesKept_whileUp (fun s => ?_) (show execCycleTimer s = .next t from e)
    exact tablesKept_ite (beginCycle_tablesKept s)
  | poll r =>
    exact tablesKept_whileUp
      (tablesKept_of_trl (pollWindow_frame rfl r) (pollWindow_keepsCounters r) (pollWindow_trailerInv r)) e
  | discovery r =>
    exact tablesKept_whileUp
      (tablesKept_of_trl (discoveryWindow_frame rfl r) (discoveryWindow_keepsCounters r) (discoveryWindow_trailerInv r))
      e
  | assign r =>
    exact tablesKept_whileUp
      (tablesKept_of_trl (assignWindow_frame rfl r) (assignWindow_keepsCounters r) (assignWindow_trailerInv r)) e
  | journalPost block =>
    exact tablesKept_whileUp (fun s => tablesKept_of_journal (takePost_frame (G := footPostTake) rfl block s)
      (takePost_journalInv block) rfl rfl) e
  | status => exact tablesKept_of_frame (execStatus_frame (G := footService) rfl e) rfl rfl rfl
  | peers => exact tablesKept_of_frame (execPeers_frame (G := footService) rfl e) rfl rfl rfl
  | claims => exact tablesKept_of_frame (execClaims_frame (G := footService) rfl e) rfl rfl rfl
  | roster => exact tablesKept_of_frame (execRoster_frame (G := footService) rfl e) rfl rfl rfl
  | trailers => exact tablesKept_of_frame (execTrailers_frame (G := footService) rfl e) rfl rfl rfl
  | journal => exact tablesKept_of_frame (execJournal_frame (G := footService) rfl e) rfl rfl rfl
  | counters => exact tablesKept_of_frame (execCounters_frame (G := footService) rfl e) rfl rfl rfl
  | ack index => exact tablesKept_whileUp (request_tablesKept (acknowledgeIndex_tablesKept index)) e
  | clearCounters => exact tablesKept_whileUp (request_tablesKept clearCounters_tablesKept) e
  | restart => exact tablesKept_of_frame (execRestart_frame (G := footService) rfl e) rfl rfl rfl
  | unknown => exact tablesKept_of_frame (execUnknown_frame (G := footService) rfl e) rfl rfl rfl
  | busy => exact tablesKept_of_frame (execBusy_frame (G := footService) rfl e) rfl rfl rfl
  | tagGainsLine gain => exact tagGainsLine_tablesKept gain e
  | tagLosesLine place => cases e; exact ⟨id, id, id⟩
  | answerEnded => exact tablesKept_of_frame (execAnswerEnded_frame (G := footService) rfl e) rfl rfl rfl

/-! ## The idle node -/

/-- Of the three a millisecond changes TRL's cycle timer alone. -/
theorem tick_tablesKept (s : State) : TablesKept s (tick s) := by
  unfold tick
  split
  · exact ⟨id, id, id⟩
  · exact ⟨id, id, fun h => { h with }⟩

theorem idle_tablesKept (s : State) : TablesKept s (idle s) := by
  unfold idle
  split
  · split
    · exact popResumes_tablesKept s
    · exact tick_tablesKept s
  · exact ⟨id, id, id⟩

/-- Settles O55: a step is the idle node's or the command's at the front of the queue, and either keeps the three. -/
theorem stepsKeepJournalCountersAndTrailers : Obligations.StepsKeepJournalCountersAndTrailers := by
  intro s t e
  have hkept : TablesKept s t := by
    unfold step at e
    split at e
    · cases e
      exact idle_tablesKept s
    · next c rest _ =>
      obtain ⟨hjournal, hcounters, htrailers⟩ := exec_tablesKept c (s := s.setPending rest) e
      exact ⟨hjournal, hcounters, htrailers⟩
  exact ⟨hkept.journal, hkept.counters, hkept.trailers⟩

end Sys2Proof.Proofs
end

section
/-! The step of a queue that is not empty. -/

namespace Sys2Proof.Proofs

open Sys2Proof.Machine

/-- The queue written last stands. -/
theorem setPending_setPending (s : State) (x y : List Instr) : (s.setPending x).setPending y = s.setPending y := rfl

/-- The command at the front leaves the queue before its meaning runs. -/
theorem step_pending_cons {s : State} {c : Instr} {rest : List Instr} (hfront : s.pending = c :: rest) :
    step s = exec c (s.setPending rest) := by
  rw [step, hfront]

/-- Settles O1: the queue's front is the command, and taking it leaves the rest. -/
theorem stepRunsTheCommandInFront : Obligations.StepRunsTheCommandInFront := by
  intro c rest s
  rw [step_pending_cons (State.setPending_pending s (c :: rest)), setPending_setPending]

end Sys2Proof.Proofs
end
